-- ==== Sys2Proof/Word.lean ====
section
/-!
DEFINITION. The word types of the ILV3220 model: bytes on the control line and codes in highway slots,
16-bit wire words, and the bounded numbers the manual uses as names (channel, position, slot, block).
Linear samples, tap values, levels and counts are integers in the manual and in the model.
-/

namespace Sys2Proof

/-- A byte of the control line, or the 8-bit companded code of a highway slot. -/
abbrev Byte := BitVec 8

/-- A 16-bit integer of a record body. -/
abbrev Half := BitVec 16

/-- A channel number, 0..31 (section 2.1 of the general description). -/
abbrev Chan := Fin 32

/-- A position of a channel's span, 0..31 (R23). -/
abbrev Pos := Fin 32

/-- A slot of a highway frame, 0..31 (R143). -/
abbrev Slot := Fin 32

/-- A tap block number, 0..191 (R63). -/
abbrev BlockNo := Fin 192

end Sys2Proof
end

