-- ==== Sys2Proof/Syntax.lean ====
section
/-!
DEFINITION. The commands of the ILV3220: one constructor for each row of spec/opcode_table.json.
A request row stands for the arrival of a checked request frame of that KIND (R161, R163): it carries the
frame's TAG and the fields of the catalogue (section 10.5) as bytes. An event row carries what the event names.
-/

namespace Sys2Proof

/-- The two highways: the line highway carries Rin and Sout, the exchange highway Sin and Rout. -/
inductive Highway where
  | line
  | exchange
  deriving DecidableEq, Repr

/-- What a disturbance from outside does to one tap block (R26): the 32 values its store holds afterwards, as the 24-bit
words a tap value fits in (section 1.1). Its check code has been altered, or no longer fits the values. -/
structure Disturbance where
  block : BlockNo
  stored : Vector (BitVec 24) 32
  deriving DecidableEq, Repr

/-- The tap values a disturbance leaves. -/
def Disturbance.taps (d : Disturbance) : List Int := d.stored.toList.map BitVec.toInt

/-- The commands, in the table's order. -/
inductive Instr where
  /-- POWER_ON_RESET (R138): RESET held low and released, the straps BR1 and BR0 sampled. -/
  | powerOnReset (br1 br0 : Bool)
  /-- RECEIVED_BYTE (R161): a byte on RXD; `framingError` when its stop bit was taken low (R158). -/
  | receivedByte (b : Byte) (framingError : Bool)
  /-- GAP_TIMEOUT (R162): more than 20 ms since the latest byte of a frame. -/
  | gapTimeout
  /-- UNKNOWN_REQUEST (R164): a frame whose KIND is no request code of the catalogue. -/
  | unknownRequest (tag kind : Byte) (body : List Byte)
  /-- IDENT (R166). -/
  | ident (tag : Byte)
  /-- RESTART (R168). -/
  | restart (tag : Byte)
  /-- PORT-SET (R144). -/
  | portSet (tag mode offset edge : Byte)
  /-- PORT-HOLD (R145). -/
  | portHold (tag : Byte)
  /-- PORT-RUN (R145). -/
  | portRun (tag : Byte)
  /-- MAP-SET (R154). -/
  | mapSet (tag highway slot channel : Byte)
  /-- MAP-CLEAR (R155). -/
  | mapClear (tag highway slot : Byte)
  /-- LAW-LOAD (R7): 64 entries of 2 bytes, signed. -/
  | lawLoad (tag table quarter : Byte) (entries : List Half)
  /-- LAW-COMMIT (R8, R9). -/
  | lawCommit (tag table : Byte)
  /-- PROFILE (R127): the 23 bytes of the profile record (section 10.10.3). -/
  | profile (tag channel : Byte) (record : List Byte)
  /-- OPEN (R129, R130). -/
  | openChannel (tag channel : Byte)
  /-- APPLY (R133). -/
  | applyProfile (tag channel force : Byte)
  /-- CLOSE (R136). -/
  | closeChannel (tag channel : Byte)
  /-- RETRAIN (R95). -/
  | retrain (tag channel : Byte)
  /-- FREEZE (R93). -/
  | freeze (tag channel : Byte)
  /-- THAW (R93). -/
  | thaw (tag channel : Byte)
  /-- READ-STATUS (R167). -/
  | readStatus (tag channel : Byte)
  /-- READ-CONDITIONS (R176). -/
  | readConditions (tag source : Byte)
  /-- READ-COUNTERS (R177). -/
  | readCounters (tag source : Byte)
  /-- READ-TAPS (R36). -/
  | readTaps (tag channel selector : Byte)
  /-- READ-POOL (R75). -/
  | readPool (tag start : Byte)
  /-- READ-PORT (R156). -/
  | readPort (tag : Byte)
  /-- NOTICE-MASK (R172). -/
  | noticeMask (tag source mask : Byte)
  /-- NOTICE-ENABLE (R172). -/
  | noticeEnable (tag enable : Byte)
  /-- SIG-START (R179). -/
  | sigStart (tag channel stream : Byte) (count : Half)
  /-- SIG-READ (R182). -/
  | sigRead (tag : Byte)
  /-- FRAME_SENT (R169): the end of the last stop bit of the frame on TXD. -/
  | frameSent
  /-- SAMPLE_ARRIVAL (R15, R152): the later input slot of channel `c` is received, with the codes of both. `upset` lists
  what disturbances from outside have altered in the tap blocks since the step before (R26, log 4). -/
  | sampleArrival (c : Chan) (rin sin : Byte) (upset : List Disturbance)
  /-- DT_HANGOVER_END (R79). -/
  | dtHangoverEnd (c : Chan)
  /-- DWELL_END (R50). -/
  | dwellEnd (c : Chan)
  /-- END_OF_OPENING (R131). -/
  | endOfOpening (c : Chan)
  /-- REACH_TRACK (R88). -/
  | reachTrack (c : Chan)
  /-- PATH_CHANGE (R89). -/
  | pathChange (c : Chan)
  /-- DIVERGENCE (R90). -/
  | divergence (c : Chan)
  /-- NLP_RELEASE (R100). -/
  | nlpRelease (c : Chan)
  /-- NOISE_FLOOR_UPDATE (R101). -/
  | noiseFloorUpdate (c : Chan)
  /-- TONE_DETECTION (R106, R107). -/
  | toneDetection (c : Chan)
  /-- RETURN_TO_NORMAL (R110). -/
  | returnToNormal (c : Chan)
  /-- QUIET_POINT (R134). -/
  | quietPoint (c : Chan)
  /-- ALC_PERIOD_END (R118). -/
  | alcPeriodEnd (c : Chan)
  /-- FRAME_BEGIN (R143). -/
  | frameBegin
  /-- SLOT_SENT (R153): the OUT slot `slot` of a highway begins. -/
  | slotSent (highway : Highway) (slot : Slot)
  /-- SIGNATURE_DONE (R180). -/
  | signatureDone
  /-- FRAME_COMPLETE (R153). -/
  | frameComplete
  /-- MASTER_FRAME_PULSE (R147). -/
  | masterFramePulse
  /-- FRAME_PULSE (R148, R150): an external pulse on the bit clock whose position, as the port counts, is
  `position`; 0 is the expected position, where the count returns from 255 to 0. -/
  | framePulse (position : Byte)
  /-- MISSED_PULSE (R148). -/
  | missedPulse
  /-- SYNC_LOSS (R149). -/
  | syncLoss
  /-- CLOCK_LOSS (R151). -/
  | clockLoss
  /-- CLOCK_RETURN (R151). -/
  | clockReturn
  deriving DecidableEq, Repr

end Sys2Proof
end

