-- ==== Sys2Proof/Decode.lean ====
section
/-!
DEFINITION. The command a word of the opcode table spells. spec/opcode_table.json gives no row any bits, so no word
spells a command; requests reach the part as bytes of frames (`Sys2Proof.Machine.execReceivedByte`).
-/

namespace Sys2Proof

/-- The command spelled by the `nbits` bits of `w`: none, since no row of the table has bits. -/
def decodeTableWord (_nbits _w : Nat) : Option Instr := none

end Sys2Proof
end

