-- ==== Sys2Proof/Config.lean ====
section
/-!
DEFINITION. What the part fixes as numbers of its own, and the two values the manual leaves undefined after
power-on. The rules leave no result of a command open, so there is no free value here.
-/

namespace Sys2Proof.Config

/-- The part code of IDENT (R166). -/
def partCode : Nat := 3220

/-- The revision of IDENT (R166). -/
def revision : Nat := 1

/-- The most replies the reply queue holds (R163, R165). -/
def replyLimit : Nat := 4

/-- An entry of a companding table before its first LAW-COMMIT. R3 calls it not defined.
DESIGN CHOICE (log 5): 0. Unsafe: a statement about an entry of an invalid table would rest on it. -/
def undefinedEntry : Int := 0

/-- A tap value of a block before its first handover. R76 calls it not defined.
DESIGN CHOICE (log 6): 0. Unsafe: a statement about the taps of a block never handed over would rest on it. -/
def undefinedTap : Int := 0

end Sys2Proof.Config
end

