-- ==== Sys2Proof/Machine/State.lean ====
section
/-!
DEFINITION. The state of the ILV3220: the law store, the 32 channel contexts, the tap pool, the highway port, the
control link, the signature unit, and the model's queue of waiting commands; and the state after power-on reset.
Every field's docstring names the rule that gives it. All fields are plain data.
-/

namespace Sys2Proof.Machine

/-! ## Law store -/

/-- The two companding tables are storage places, not fixed laws (section 1.2). -/
inductive TableName where
  | a
  | b
  deriving DecidableEq, Repr

/-- One companding table (R3, R6): 256 entries, the valid mark, and the idle code held with a valid table. -/
structure LawTable where
  entries : List Int
  valid : Bool
  idle : Option Byte
  deriving DecidableEq, Repr

/-- The load buffer (section 1.2): its target, and for each quarter 0..3 its 64 entries where loaded. -/
structure LoadBuffer where
  target : Option TableName
  quarters : Vector (Option (List Int)) 4
  deriving DecidableEq, Repr

/-- The law store: tables A and B and the load buffer. -/
structure LawStore where
  a : LawTable
  b : LawTable
  buffer : LoadBuffer
  deriving DecidableEq, Repr

/-! ## Profiles -/

/-- The activity floor setting (R77). -/
inductive Floor where
  | low
  | normal
  | high
  deriving DecidableEq, Repr

/-- The assumed echo loss setting (R78). -/
inductive EchoLoss where
  | db0
  | db6
  | db12
  deriving DecidableEq, Repr

/-- The NLP mode (R99). -/
inductive NlpMode where
  | pass
  | soft
  | noise
  | silent
  deriving DecidableEq, Repr

/-- The NLP margin (R100). -/
inductive NlpMargin where
  | db6
  | db12
  | db18
  deriving DecidableEq, Repr

/-- The tone policy (R107). -/
inductive TonePolicy where
  | ignore
  | nlpOnly
  | full
  deriving DecidableEq, Repr

/-- A profile record as stored (R125): the pins are kept as the ascending list of their positions. -/
structure Profile where
  lineLaw : TableName
  exchangeLaw : TableName
  /-- 0..32, in units of 32 samples (R23). -/
  bulk : Nat
  /-- Q, 2..8 (R43). -/
  quota : Nat
  pins : List Pos
  initialPos : Pos
  /-- 1..64 (R31). -/
  step : Nat
  floor : Floor
  echoLoss : EchoLoss
  nlpMode : NlpMode
  nlpMargin : NlpMargin
  tonePolicy : TonePolicy
  alcOn : Bool
  /-- T, 64..8192 (R118). -/
  target : Nat
  gmin : Nat
  gmax : Nat
  fixedIndex : Nat
  padIndex : Nat
  deriving DecidableEq, Repr

/-- The staged slot (R127): empty, or a record whose pending-apply mark is clear (STAGED) or set (PENDING). -/
inductive Staged where
  | empty
  | staged (p : Profile)
  | pending (p : Profile)
  deriving DecidableEq, Repr

/-! ## Channel contexts -/

/-- The life states (R128). -/
inductive Life where
  | closed
  | opening
  | active
  deriving DecidableEq, Repr

/-- The service modes (R86). -/
inductive Service where
  | acquire
  | track
  deriving DecidableEq, Repr

/-- The tone modes (section 6.5). -/
inductive ToneMode where
  | normal
  | nlpOff
  | bypass
  deriving DecidableEq, Repr

/-- The talk states (R80). -/
inductive Talk where
  | idle
  | far
  | near
  | double
  deriving DecidableEq, Repr

/-- The kind of a placed window (R41). -/
inductive WindowKind where
  | pinned
  | found
  deriving DecidableEq, Repr

/-- A placed window (R41); a pinned window without a block is vacant. -/
structure Window where
  pos : Pos
  kind : WindowKind
  block : Option BlockNo
  deriving DecidableEq, Repr

/-- The scout record where it is present (R42): position, block and dwell count. `due` is the model's own field: the
evaluation that the dwell advance of the sample in work has made due (R48), as the blocks that took part in that sample
(R50). It is performed within the same sample, so none is due between samples (log 22). -/
structure Scout where
  pos : Pos
  block : BlockNo
  dwell : Nat
  due : Option (List BlockNo) := none
  deriving DecidableEq, Repr

/-- The tone run count and the reversal-seen flag of one stream (R106). -/
structure ToneRun where
  count : Nat
  reversal : Bool
  deriving DecidableEq, Repr

/-- A channel's six latched-high marks (R174). -/
structure ChanConditions where
  diverged : Bool
  starved : Bool
  tone : Bool
  clipped : Bool
  overload : Bool
  fault : Bool
  deriving DecidableEq, Repr

/-- A channel's six statistics counters, each 0..255 (R177). -/
structure ChanCounters where
  dtOnsets : Nat
  pathChanges : Nat
  divergences : Nat
  scoutSwaps : Nat
  toneBypasses : Nat
  clipEvents : Nat
  deriving DecidableEq, Repr

/-- A channel context: all state the part keeps for one channel. -/
structure Channel where
  /-- R128. -/
  life : Life
  /-- The active profile, or none (R130, R136). -/
  profile : Option Profile
  /-- R127. -/
  staged : Staged
  /-- 0..2048 (R131). -/
  openingCount : Nat
  /-- 2048 reference values, delay 0 first (R14, R21). -/
  ring : List Int
  /-- The leaky sums S_x, S_s, S_e, S_v, each 0..1,048,575 (R16). -/
  sumX : Nat
  sumS : Nat
  sumE : Nat
  sumV : Nat
  /-- R79. -/
  dtFlag : Bool
  /-- 0..240 (R79). -/
  dtHangover : Nat
  /-- R80. -/
  talk : Talk
  /-- 0..65535 (R81). -/
  quietRun : Nat
  /-- R86. -/
  service : Service
  /-- The three service-mode runs (section 5.6). -/
  convRun : Nat
  changeRun : Nat
  divRun : Nat
  /-- R94. -/
  frozen : Bool
  /-- R100. -/
  engaged : Bool
  nlpHangover : Nat
  /-- N, 0..95 (R101). -/
  noiseFloor : Nat
  /-- r, 1..32767 (R102). -/
  noiseReg : Nat
  /-- R107: the tone mode that stands for the next sample. -/
  toneMode : ToneMode
  /-- R106, for s and for x. -/
  toneS : ToneRun
  toneX : ToneRun
  /-- The latest values of s since OPEN, newest first, at most 32 (R105; DEDUCED, log 12). -/
  recentS : List Int
  /-- 0..48 (R114). -/
  padIndex : Nat
  /-- The stored send gain index g, 0..48 (R116). -/
  gain : Nat
  /-- 0..127 (R117). -/
  periodCount : Nat
  /-- 0..3 (R118). -/
  releaseCount : Nat
  /-- R41: ascending by position. -/
  windows : List Window
  /-- R42. -/
  scout : Option Scout
  /-- R42. -/
  lastScout : Pos
  /-- R18, R20. -/
  lastRout : Byte
  lastSout : Byte
  freshRout : Bool
  freshSout : Bool
  /-- R174. -/
  conditions : ChanConditions
  /-- R177. -/
  counters : ChanCounters
  /-- The notice mask: bit 0 MODE .. bit 5 APPLIED (R172, section 10.10.2). -/
  mask : Byte
  /-- The model's own field: the work of a sample of this channel is in progress (R15). The events that R100, R101, R110
  and R134 judge on a sample alone are tied to it. Since a step does the whole work, it is clear between two steps
  (log 23). -/
  inSample : Bool := false
  deriving DecidableEq, Repr

/-! ## Tap pool -/

/-- The condition of a tap block: exactly one of these (R63). -/
inductive BlockCondition where
  | free
  | held (c : Chan)
  | retired
  deriving DecidableEq, Repr

/-- A tap block (R24, R26): 32 tap values, its condition, and whether its stored values or check code have been
altered by a disturbance since the code was last written, which is when its test fails (log 4). Altered values stand in
`taps`, where an untested read finds them. -/
structure Block where
  taps : List Int
  condition : BlockCondition
  altered : Bool
  deriving DecidableEq, Repr

/-- The claim of a wait entry (R66). -/
inductive Claim where
  | pin (p : Pos)
  | scout
  deriving DecidableEq, Repr

/-- An entry of the wait list (R66). -/
structure WaitEntry where
  chan : Chan
  claim : Claim
  deriving DecidableEq, Repr

/-! ## Highway port -/

/-- The port mode (R144). -/
inductive PortMode where
  | master
  | slave
  deriving DecidableEq, Repr

/-- The sample edge (R143). -/
inductive Edge where
  | rising
  | falling
  deriving DecidableEq, Repr

/-- The run state (R145). -/
inductive RunState where
  | hold
  | run
  deriving DecidableEq, Repr

/-- The sync state (R149) . -/
inductive SyncState where
  | locked
  | lost
  deriving DecidableEq, Repr

/-- The clock state (R151). -/
inductive ClockState where
  | ok
  | lost
  deriving DecidableEq, Repr

/-- A slot map: 32 entries, each a channel or unassigned (section 9.6). -/
abbrev SlotMap := Vector (Option Chan) 32

/-- The frame in progress (R143, R152, R155; DEDUCED, log 11): the maps as they stood at its beginning, the channels
whose arrival it has delivered, and how many slots have begun on each highway. -/
structure Frame where
  lineMap : SlotMap
  exchangeMap : SlotMap
  arrived : List Chan
  lineBegun : Nat
  exchangeBegun : Nat
  deriving DecidableEq, Repr

/-- The highway port and the port source's conditions, counters and mask. -/
structure Port where
  /-- The configuration (R144). -/
  mode : PortMode
  offset : Byte
  edge : Edge
  /-- R145. -/
  runState : RunState
  /-- R149, R150. -/
  sync : SyncState
  /-- R151. -/
  clock : ClockState
  /-- 0..255 (R143). -/
  position : Byte
  /-- 0..4 (R148). -/
  missed : Nat
  /-- R146. -/
  awaiting : Bool
  /-- The slot maps as the latest requests left them (R154, R155). -/
  lineMap : SlotMap
  exchangeMap : SlotMap
  /-- Both wrap (R153). -/
  complete : BitVec 32
  dropped : BitVec 32
  /-- The frame in progress, where there is one. -/
  frame : Option Frame
  /-- The codes of the OUT slots that have begun on LOUT and on XOUT, or none where the slot is unassigned (R153). The
  pins carry their bits, one a bit clock, for the slot's eight bit clocks alone (`Port.outPin`). -/
  lout : Option Byte
  xout : Option Byte
  /-- The SLIP mark (R174). -/
  slip : Bool
  /-- The reported values of IN-SYNC and CLOCK-OK (R175). -/
  inSync : Bool
  clockOk : Bool
  /-- The port counters, each 0..255 (R177). -/
  slips : Nat
  syncLosses : Nat
  badFrames : Nat
  gapTimeouts : Nat
  overruns : Nat
  /-- The notice mask: bit 0 SYNC, 1 CLOCK, 2 SIGNATURE (R172). -/
  mask : Byte
  deriving DecidableEq, Repr

/-! ## Control link -/

/-- The receive framer (R161). In COLLECT it holds LEN and the bytes stored so far, in order. -/
inductive Framer where
  | hunt
  | length
  | collect (len : Nat) (stored : List Byte)
  deriving DecidableEq, Repr

/-- A record as it travels in a frame: KIND, TAG and body (R159). -/
structure Record where
  kind : Byte
  tag : Byte
  body : List Byte
  deriving DecidableEq, Repr

/-- The sources of notices (section 10.7). -/
inductive Source where
  | channel (c : Chan)
  | port
  deriving DecidableEq, Repr

/-- The notice kinds (section 10.7). -/
inductive NoticeKind where
  | mode
  | diverged
  | starved
  | fault
  | tone
  | applied
  | sync
  | clock
  | signature
  deriving DecidableEq, Repr

/-- A queued notice with its occurrence count (R170). -/
structure Notice where
  source : Source
  kind : NoticeKind
  count : Nat
  deriving DecidableEq, Repr

/-- The transmitter (R169): idle, or sending a reply or a notice, with the record on the line. -/
inductive Transmitter where
  | idle
  | reply (r : Record)
  | notice (n : Notice) (r : Record)
  deriving DecidableEq, Repr

/-- The line rates of the straps (section 7 of the general description). -/
inductive LineRate where
  | baud9600
  | baud19200
  | baud57600
  | baud115200
  deriving DecidableEq, Repr

/-- The control link (section 10). -/
structure Link where
  framer : Framer
  replies : List Record
  notices : List Notice
  tx : Transmitter
  /-- The master notice enable (R172). -/
  enable : Bool
  rate : LineRate
  deriving DecidableEq, Repr

/-! ## Signature unit -/

/-- The signature states (R179). -/
inductive SigState where
  | idle
  | running
  | done
  | aborted
  deriving DecidableEq, Repr

/-- The stream a signature watches (R179). -/
inductive SigStream where
  | sout
  | rout
  deriving DecidableEq, Repr

/-- The signature record (section 11.3). -/
structure Signature where
  state : SigState
  channel : Chan
  stream : SigStream
  remaining : Nat
  value : Nat
  deriving DecidableEq, Repr

/-! ## The machine -/

/-- The whole state of the part, and the queue of commands that wait (the model's own field, oldest first). -/
structure State where
  law : LawStore
  channels : Vector Channel 32
  blocks : Vector Block 192
  wait : List WaitEntry
  port : Port
  link : Link
  sig : Signature
  pending : List Instr
  deriving DecidableEq, Repr

/-- The reasons a step stops with a fault. -/
inductive Fault where
  /-- Raised by SAMPLE_ARRIVAL for an OPENING or ACTIVE channel that holds no active profile, a state the rules do
  not admit (R128, R130, R136) and no run reaches (log 13). Safe: the model stops where the manual says nothing. -/
  | noActiveProfile
  deriving DecidableEq, Repr

/-- The reasons a command is refused a meaning. -/
inductive Refusal where
  /-- Raised by `exec` for a command without a meaning in this model, with its row's mnemonic; no command is so
  refused. Safe: nothing can be proved of the command's effect. -/
  | notModelled (mnemonic : String)
  deriving DecidableEq, Repr

/-! ## Power-on reset -/

/-- A table after power-on (R3): invalid, no idle code, entries not defined (log 5). -/
def LawTable.reset : LawTable :=
  { entries := List.replicate 256 Config.undefinedEntry, valid := false, idle := none }

/-- The empty load buffer (R10). -/
def LoadBuffer.empty : LoadBuffer :=
  { target := none, quarters := Vector.replicate 4 none }

/-- No condition latched (R178). -/
def ChanConditions.clear : ChanConditions :=
  { diverged := false, starved := false, tone := false, clipped := false, overload := false, fault := false }

/-- Every counter at 0 (R178). -/
def ChanCounters.zero : ChanCounters :=
  { dtOnsets := 0, pathChanges := 0, divergences := 0, scoutSwaps := 0, toneBypasses := 0, clipEvents := 0 }

/-- A tone run that stands at 0 with its flag clear (R112). -/
def ToneRun.zero : ToneRun := { count := 0, reversal := false }

/-- The channel mask that passes every kind (R172, section 10.10.2). -/
def allChannelKinds : Byte := 0x3F#8

/-- The port mask that passes every kind (R172, section 10.10.2). -/
def allPortKinds : Byte := 0x07#8

/-- The context of channel `c` after power-on reset (R138 and the rules it names). -/
def Channel.reset (c : Chan) : Channel :=
  { life := .closed, profile := none, staged := .empty, openingCount := 0
    ring := List.replicate 2048 0
    sumX := 0, sumS := 0, sumE := 0, sumV := 0
    dtFlag := false, dtHangover := 0, talk := .idle, quietRun := 0
    service := .acquire, convRun := 0, changeRun := 0, divRun := 0, frozen := false
    engaged := false, nlpHangover := 0, noiseFloor := 0, noiseReg := c.val + 1
    toneMode := .normal, toneS := .zero, toneX := .zero, recentS := []
    padIndex := 24, gain := 24, periodCount := 0, releaseCount := 0
    windows := [], scout := none, lastScout := 0
    lastRout := 0x00#8, lastSout := 0x00#8, freshRout := false, freshSout := false
    conditions := .clear, counters := .zero, mask := allChannelKinds }

/-- A tap block after power-on reset (R76): free, its values not defined (log 6). -/
def Block.reset : Block :=
  { taps := List.replicate 32 Config.undefinedTap, condition := .free, altered := false }

/-- The highway port after power-on reset (R157, R178). -/
def Port.reset : Port :=
  { mode := .master, offset := 0x00#8, edge := .rising, runState := .hold, sync := .locked, clock := .ok
    position := 0x00#8, missed := 0, awaiting := false
    lineMap := Vector.replicate 32 none, exchangeMap := Vector.replicate 32 none
    complete := 0#32, dropped := 0#32, frame := none, lout := none, xout := none
    slip := false, inSync := true, clockOk := true
    slips := 0, syncLosses := 0, badFrames := 0, gapTimeouts := 0, overruns := 0
    mask := allPortKinds }

/-- The control link after power-on reset (R173), at the line rate of the straps (R158). -/
def Link.reset (rate : LineRate) : Link :=
  { framer := .hunt, replies := [], notices := [], tx := .idle, enable := false, rate := rate }

/-- The signature record after power-on reset and RESTART (R181). -/
def Signature.reset : Signature :=
  { state := .idle, channel := 0, stream := .sout, remaining := 0, value := 0 }

/-- The part right after power-on reset with the line rate sampled from the straps. -/
def State.powerOn (rate : LineRate) : State :=
  { law := { a := .reset, b := .reset, buffer := .empty }
    channels := Vector.ofFn Channel.reset
    blocks := Vector.replicate 192 .reset
    wait := []
    port := .reset
    link := .reset rate
    sig := .reset
    pending := [] }

/-- The machine right after reset. The straps are pins; DESIGN CHOICE (log 7): both low, 9600 baud. -/
def State.reset : State := State.powerOn .baud9600

end Sys2Proof.Machine
end

