-- ==== Sys2Proof/Machine/Flags.lean ====
section
/-!
DEFINITION. Latched conditions and statistics counters: how an event sets a mark (R174) and advances a counter (R177),
and the bytes in which they are reported (R176, R177).
-/

namespace Sys2Proof.Machine

/-- A counter advanced by one event: 255 stays 255 (R177). -/
def bump (n : Nat) : Nat := min 255 (n + 1)

/-- A channel latches DIVERGED (R90). -/
def Channel.latchDiverged (ch : Channel) : Channel :=
  { ch with conditions := { ch.conditions with diverged := true } }

/-- A channel latches STARVED (R52). -/
def Channel.latchStarved (ch : Channel) : Channel :=
  { ch with conditions := { ch.conditions with starved := true } }

/-- A channel latches TONE (R107). -/
def Channel.latchTone (ch : Channel) : Channel :=
  { ch with conditions := { ch.conditions with tone := true } }

/-- A channel latches CLIPPED (R119). -/
def Channel.latchClipped (ch : Channel) : Channel :=
  { ch with conditions := { ch.conditions with clipped := true } }

/-- A channel latches OVERLOAD (R83). -/
def Channel.latchOverload (ch : Channel) : Channel :=
  { ch with conditions := { ch.conditions with overload := true } }

/-- A channel latches FAULT (R71). -/
def Channel.latchFault (ch : Channel) : Channel :=
  { ch with conditions := { ch.conditions with fault := true } }

/-- A double-talk onset is counted (R79). -/
def Channel.countDtOnset (ch : Channel) : Channel :=
  { ch with counters := { ch.counters with dtOnsets := bump ch.counters.dtOnsets } }

/-- A path change is counted (R89). -/
def Channel.countPathChange (ch : Channel) : Channel :=
  { ch with counters := { ch.counters with pathChanges := bump ch.counters.pathChanges } }

/-- A divergence is counted (R90). -/
def Channel.countDivergence (ch : Channel) : Channel :=
  { ch with counters := { ch.counters with divergences := bump ch.counters.divergences } }

/-- A scout swap is counted (R53). -/
def Channel.countScoutSwap (ch : Channel) : Channel :=
  { ch with counters := { ch.counters with scoutSwaps := bump ch.counters.scoutSwaps } }

/-- A tone bypass is counted (R107). -/
def Channel.countToneBypass (ch : Channel) : Channel :=
  { ch with counters := { ch.counters with toneBypasses := bump ch.counters.toneBypasses } }

/-- A clip event is counted (R119). -/
def Channel.countClip (ch : Channel) : Channel :=
  { ch with counters := { ch.counters with clipEvents := bump ch.counters.clipEvents } }

/-- A slip is counted and SLIP latched (R148, R174). -/
def Port.recordSlip (p : Port) : Port := { p with slips := bump p.slips, slip := true }

/-- A sync loss is counted and IN-SYNC latched low (R149, R175). -/
def Port.recordSyncLoss (p : Port) : Port := { p with syncLosses := bump p.syncLosses, inSync := false }

/-- CLOCK-OK is latched low (R151, R175). -/
def Port.latchClockLow (p : Port) : Port := { p with clockOk := false }

/-- A dropped frame of the control line is counted (R161). -/
def Port.countBadFrame (p : Port) : Port := { p with badFrames := bump p.badFrames }

/-- A gap timeout is counted (R162). -/
def Port.countGapTimeout (p : Port) : Port := { p with gapTimeouts := bump p.gapTimeouts }

/-- A link overrun is counted (R163). -/
def Port.countOverrun (p : Port) : Port := { p with overruns := bump p.overruns }

/-- One mark in its bit of a condition byte. -/
def bitIf (b : Bool) (i : Nat) : Nat := if b then 2 ^ i else 0

/-- A channel's condition byte (R176). -/
def ChanConditions.byte (k : ChanConditions) : Byte :=
  BitVec.ofNat 8 (bitIf k.diverged 0 + bitIf k.starved 1 + bitIf k.tone 2 + bitIf k.clipped 3
    + bitIf k.overload 4 + bitIf k.fault 5)

/-- The port source's condition byte (R176). -/
def Port.conditionByte (p : Port) : Byte :=
  BitVec.ofNat 8 (bitIf p.slip 0 + bitIf p.inSync 1 + bitIf p.clockOk 2)

/-- After the byte is built: SLIP cleared, the latched-low values moved to their present states (R175, R176). -/
def Port.conditionsRead (p : Port) : Port :=
  { p with slip := false, inSync := p.sync == .locked, clockOk := p.clock == .ok }

/-- The port counters at 0 (R177, R178). -/
def Port.countersRead (p : Port) : Port :=
  { p with slips := 0, syncLosses := 0, badFrames := 0, gapTimeouts := 0, overruns := 0 }

/-- A channel's counters in the order of the table, one byte each (R177). -/
def ChanCounters.bytes (k : ChanCounters) : List Byte :=
  [k.dtOnsets, k.pathChanges, k.divergences, k.scoutSwaps, k.toneBypasses, k.clipEvents].map (BitVec.ofNat 8)

/-- The port source's counters in the order of the table, one byte each (R177). -/
def Port.counterBytes (p : Port) : List Byte :=
  [p.slips, p.syncLosses, p.badFrames, p.gapTimeouts, p.overruns].map (BitVec.ofNat 8)

end Sys2Proof.Machine
end

