-- ==== Sys2Proof/Machine/Arith.lean ====
section
/-!
DEFINITION. The sample arithmetic: rounding and saturation (R1, R2), expansion and compression through a companding
table (R4, R5), the gain table (R12), the level trackers (R16), the echo estimate and the tap update (R27 to R31),
window energy (R34, R35), comfort noise (R102, R103) and the tone measurement (R105).
-/

namespace Sys2Proof.Machine

/-! ## Rounding, saturation, clamping -/

/-- The nearer end of `lo..hi` where `v` lies outside it (section 4.2 of the general description). -/
def clampInt (lo hi v : Int) : Int := max lo (min hi v)

/-- A natural number brought into `lo..hi`. -/
def clampNat (lo hi v : Nat) : Nat := max lo (min hi v)

/-- Saturation to the linear range −32767..+32767 (R1). -/
def saturate (v : Int) : Int := clampInt (-32767) 32767 v

/-- `n / d` rounded to nearest, a tie away from zero (R2, R27). -/
def roundTieAway (n : Int) (d : Nat) : Int :=
  n.sign * (((2 * n.natAbs + d) / (2 * d) : Nat) : Int)

/-- `n / d` rounded to nearest, a tie toward zero (R31). -/
def roundTieToZero (n : Int) (d : Nat) : Int :=
  n.sign * (((2 * n.natAbs + d - 1) / (2 * d) : Nat) : Int)

/-! ## The gain table -/

/-- The 49 multipliers M_g of R12, index 0 first. -/
def gainTable : List Nat :=
  [1029, 1090, 1154, 1223, 1295, 1372, 1453, 1539, 1631, 1727, 1830, 1938, 2053, 2175, 2303, 2440,
   2584, 2738, 2900, 3072, 3254, 3446, 3651, 3867, 4096, 4339, 4596, 4868, 5157, 5462, 5786, 6129,
   6492, 6876, 7284, 7715, 8173, 8657, 9170, 9713, 10289, 10898, 11544, 12228, 12953, 13720, 14533, 15394,
   16306]

/-- M_g (R12). -/
def gainOf (g : Nat) : Nat := gainTable.getD g 4096

/-- The product rule of R2: `v × M / 4096`, a tie away from zero, saturated. -/
def scale (v : Int) (m : Nat) : Int := saturate (roundTieAway (v * m) 4096)

/-! ## Companding tables -/

/-- Expansion of a code by a table (R4). -/
def expand (t : LawTable) (k : Byte) : Int := t.entries.getD k.toNat 0

/-- Among the entries, the first numbered `k`, the number and the difference of the one nearest to `v`; of equal
differences the lowest number (R5). -/
def nearestFrom (v : Int) : List Int → Nat → Option (Nat × Nat)
  | [], _ => none
  | e :: es, k =>
    match nearestFrom v es (k + 1) with
    | none => some (k, (e - v).natAbs)
    | some (j, d) => if (e - v).natAbs ≤ d then some (k, (e - v).natAbs) else some (j, d)

/-- Compression of a linear value by a table: the code of the nearest entry, the lowest of equals (R5). -/
def compress (t : LawTable) (v : Int) : Byte :=
  match nearestFrom v t.entries 0 with
  | none => 0x00#8
  | some (k, _) => BitVec.ofNat 8 k

/-- The table a name stands for. -/
def LawStore.table (l : LawStore) : TableName → LawTable
  | .a => l.a
  | .b => l.b

/-! ## Level trackers -/

/-- The new leaky sum for a stream value `u` (R16). -/
def track (s : Nat) (u : Int) : Nat := s - s / 32 + u.natAbs

/-- The level of a leaky sum (R16). -/
def level (s : Nat) : Nat := s / 32

/-! ## The echo model -/

/-- The bulk offset B in samples (R23). -/
def bulkOffset (p : Profile) : Nat := 32 * p.bulk

/-- The ring values paired with taps 0..31 of a block at position `q` (R24). -/
def pairedValues (p : Profile) (ring : List Int) (q : Pos) : List Int :=
  (ring.drop (bulkOffset p + 32 * q.val)).take 32

/-- The sum of products of a block's taps and its paired values (R27). -/
def dot (taps xs : List Int) : Int := (List.zipWith (· * ·) taps xs).sum

/-- The sum of squares of a list, exact (R30, R34, R105). -/
def sumSquares (xs : List Int) : Nat := (xs.map fun x => x.natAbs * x.natAbs).sum

/-- The divisor of a tap value: a tap means tap / 2^23 (section 1.1). -/
def tapUnit : Nat := 8388608

/-- The regulariser δ (R30). -/
def regulariser : Nat := 65536

/-- ŷ from the exact sum of products (R27). -/
def estimateOf (total : Int) : Int := saturate (roundTieAway total tapUnit)

/-- The step Δ of a tap paired with `x` (R31). -/
def tapStep (step : Nat) (e : Int) (power : Nat) (x : Int) : Int :=
  roundTieToZero (step * e * x * tapUnit) (64 * (power + regulariser))

/-- A tap after the step, clamped to its range (R31). -/
def movedTap (step : Nat) (e : Int) (power : Nat) (t x : Int) : Int :=
  clampInt (-8388608) 8388607 (t + tapStep step e power x)

/-- The span peak Rpeak (R22). -/
def spanPeak (p : Profile) (ring : List Int) : Nat :=
  ((ring.drop (bulkOffset p)).take 1024).foldl (fun m x => max m x.natAbs) 0

/-- The energy of 32 tap values (R34). -/
def energy (taps : List Int) : Nat := sumSquares taps

/-- The reported energy code (R35). -/
def energyCode (taps : List Int) : Nat := min 65535 (energy taps / 4294967296)

/-! ## Profile settings as numbers -/

/-- F (R77). -/
def floorOf : Floor → Nat
  | .low => 24
  | .normal => 48
  | .high => 96

/-- D (R78). -/
def lossDivisor : EchoLoss → Nat
  | .db0 => 1
  | .db6 => 2
  | .db12 => 4

/-- R (R100). -/
def marginDivisor : NlpMargin → Nat
  | .db6 => 2
  | .db12 => 4
  | .db18 => 8

/-- The dwell length of a service mode (R48). -/
def dwellLength : Service → Nat
  | .acquire => 512
  | .track => 2048

/-! ## Suppressor -/

/-- The comfort noise value of a sample (R103). -/
def comfortNoise (r n : Nat) : Int := (((r : Int) - 16384) * n).tdiv 8192

/-- The next value of the noise generator register (R102). -/
def nextNoise (r : Nat) : Nat := r / 2 + 16384 * ((r % 2 + r / 2 % 2) % 2)

/-! ## Tone measurement -/

/-- The values d_2..d_31 of R105, for the stream's values oldest first. -/
def toneDifferences : List Int → List Int
  | u0 :: u1 :: u2 :: us => (32 * (u2 + u0) + 5 * u1) :: toneDifferences (u1 :: u2 :: us)
  | _ => []

/-- The largest sum of the squares of two neighbours (P of R105). -/
def largestPair : List Int → Nat
  | d0 :: d1 :: ds => max (d0.natAbs * d0.natAbs + d1.natAbs * d1.natAbs) (largestPair (d1 :: ds))
  | _ => 0

/-- The judgement of a stream on a sample (R105, R106). -/
structure ToneJudgement where
  inBand : Bool
  reversal : Bool
  deriving DecidableEq, Repr

/-- The judgement on a stream's latest 32 values, newest first (R105). -/
def judgeTone (recent : List Int) : ToneJudgement :=
  let u := (recent.take 32).reverse
  let e := sumSquares u
  let d := toneDifferences u
  let total := sumSquares d
  let pair := largestPair d
  let band := decide (0 < e) && decide ((total - pair) * 900 ≤ e * 1024)
  { inBand := band, reversal := band && decide (e * 1024 ≤ pair * 8) }

end Sys2Proof.Machine
end

