-- ==== Sys2Proof/Machine/Operands.lean ====
section
/-!
DEFINITION. The operand forms of the control link: bytes of integers, the field codes of section 10.10.2, the profile
record of section 10.10.3 with its checks and clamps (R125, R126), and the CRC of a frame (R159, R160).
-/

namespace Sys2Proof.Machine

/-! ## Bytes and integers -/

/-- One byte of a number below 256. -/
def byteOf (n : Nat) : Byte := BitVec.ofNat 8 n

/-- A number in two bytes, high byte first (R159). -/
def be16 (n : Nat) : List Byte := [byteOf (n / 256), byteOf n]

/-- A signed number in three bytes, two's complement, high byte first (R37, R159). -/
def be24 (v : Int) : List Byte :=
  let n := (v % 16777216).toNat
  [byteOf (n / 65536), byteOf (n / 256), byteOf n]

/-- A number in four bytes, high byte first (R159). -/
def be32 (n : Nat) : List Byte := [byteOf (n / 16777216), byteOf (n / 65536), byteOf (n / 256), byteOf n]

/-- Byte `i` of a body; a body is read only where its length has been checked. -/
def byteAt (body : List Byte) (i : Nat) : Byte := body.getD i 0x00#8

/-- Two bytes of a body as an integer, high byte first (R159). -/
def halfAt (body : List Byte) (i : Nat) : Half := byteAt body i ++ byteAt body (i + 1)

/-- The first `n` two-byte integers of a body. -/
def halves : Nat → List Byte → List Half
  | n + 1, hi :: lo :: rest => (hi ++ lo) :: halves n rest
  | _, _ => []

/-! ## Field codes -/

/-- A channel number of a request, refused above 31. -/
def chanOf (b : Byte) : Option Chan := if h : b.toNat < 32 then some ⟨b.toNat, h⟩ else none

/-- A position or a slot number of a request, refused above 31. -/
def posOf (b : Byte) : Option Pos := if h : b.toNat < 32 then some ⟨b.toNat, h⟩ else none

/-- Table and law codes: 0 A, 1 B. -/
def tableOf (b : Byte) : Option TableName :=
  if b = 0x00#8 then some .a else if b = 0x01#8 then some .b else none

/-- The code of a table; a load buffer without a target reports FFh. -/
def tableCode : Option TableName → Byte
  | some .a => 0x00#8
  | some .b => 0x01#8
  | none => 0xFF#8

/-- Port mode codes: 0 MASTER, 1 SLAVE. -/
def modeOf (b : Byte) : Option PortMode :=
  if b = 0x00#8 then some .master else if b = 0x01#8 then some .slave else none

/-- The code of a port mode. -/
def modeCode : PortMode → Byte
  | .master => 0x00#8
  | .slave => 0x01#8

/-- Edge codes: 0 RISING, 1 FALLING. -/
def edgeOf (b : Byte) : Option Edge :=
  if b = 0x00#8 then some .rising else if b = 0x01#8 then some .falling else none

/-- The code of an edge. -/
def edgeCode : Edge → Byte
  | .rising => 0x00#8
  | .falling => 0x01#8

/-- Highway codes: 0 LINE, 1 EXCHANGE. -/
def highwayOf (b : Byte) : Option Highway :=
  if b = 0x00#8 then some .line else if b = 0x01#8 then some .exchange else none

/-- Map entry codes: a channel, or FFh unassigned. -/
def mapEntryCode : Option Chan → Byte
  | some c => byteOf c.val
  | none => 0xFF#8

/-- Run state codes. -/
def runCode : RunState → Byte
  | .hold => 0x00#8
  | .run => 0x01#8

/-- Sync state codes. -/
def syncCode : SyncState → Byte
  | .locked => 0x00#8
  | .lost => 0x01#8

/-- Clock state codes. -/
def clockCode : ClockState → Byte
  | .ok => 0x00#8
  | .lost => 0x01#8

/-- Yes and no: 0 no, 1 yes. -/
def yesNo (b : Bool) : Byte := if b then 0x01#8 else 0x00#8

/-- A field that is 0 or 1. -/
def flagOf (b : Byte) : Option Bool :=
  if b = 0x00#8 then some false else if b = 0x01#8 then some true else none

/-- Life state codes. -/
def lifeCode : Life → Byte
  | .closed => 0x00#8
  | .opening => 0x01#8
  | .active => 0x02#8

/-- Service mode codes. -/
def serviceCode : Service → Byte
  | .acquire => 0x00#8
  | .track => 0x01#8

/-- Tone mode codes. -/
def toneModeCode : ToneMode → Byte
  | .normal => 0x00#8
  | .nlpOff => 0x01#8
  | .bypass => 0x02#8

/-- Talk state codes. -/
def talkCode : Talk → Byte
  | .idle => 0x00#8
  | .far => 0x01#8
  | .near => 0x02#8
  | .double => 0x03#8

/-- Staged status codes. -/
def stagedCode : Staged → Byte
  | .empty => 0x00#8
  | .staged _ => 0x01#8
  | .pending _ => 0x02#8

/-- Window kind codes, which are role codes too; the role SCOUT is 2. -/
def kindCode : WindowKind → Byte
  | .pinned => 0x00#8
  | .found => 0x01#8

/-- The block of a window entry, FFh where it is vacant. -/
def blockCode : Option BlockNo → Byte
  | some b => byteOf b.val
  | none => 0xFF#8

/-- Stream codes of the signature: 0 SOUT, 1 ROUT. -/
def streamOf (b : Byte) : Option SigStream :=
  if b = 0x00#8 then some .sout else if b = 0x01#8 then some .rout else none

/-- The code of a signature stream. -/
def streamCode : SigStream → Byte
  | .sout => 0x00#8
  | .rout => 0x01#8

/-- Signature state codes. -/
def sigStateCode : SigState → Byte
  | .idle => 0x00#8
  | .running => 0x01#8
  | .done => 0x02#8
  | .aborted => 0x03#8

/-- Source codes: 0..31 a channel, 40h the port source. -/
def sourceOf (b : Byte) : Option Source :=
  if b = 0x40#8 then some .port else (chanOf b).map .channel

/-- The code of a source. -/
def sourceCode : Source → Byte
  | .channel c => byteOf c.val
  | .port => 0x40#8

/-- Notice kind codes. -/
def noticeCode : NoticeKind → Byte
  | .mode => 0x01#8
  | .diverged => 0x02#8
  | .starved => 0x03#8
  | .fault => 0x04#8
  | .tone => 0x05#8
  | .applied => 0x06#8
  | .sync => 0x07#8
  | .clock => 0x08#8
  | .signature => 0x09#8

/-- The bit of a notice kind in its source's mask. -/
def maskBit : NoticeKind → Nat
  | .mode | .sync => 0
  | .diverged | .clock => 1
  | .starved | .signature => 2
  | .fault => 3
  | .tone => 4
  | .applied => 5

/-- Pool entry: the channel byte, then a PIN entry's position or 80h for SCOUT. -/
def waitEntryBytes (e : WaitEntry) : List Byte :=
  [byteOf e.chan.val, match e.claim with | .pin p => byteOf p.val | .scout => 0x80#8]

/-- What READ-TAPS selects: a position, or the scout (80h). -/
inductive TapSelector where
  | position (p : Pos)
  | scout
  deriving DecidableEq, Repr

/-- The tap selector of a request (R36). -/
def selectorOf (b : Byte) : Option TapSelector :=
  if b = 0x80#8 then some .scout else (posOf b).map .position

/-- The refusal reasons (R164). -/
inductive Reason where
  | format
  | kind
  | range
  | state
  | busy
  | pool
  | law
  | map
  deriving DecidableEq, Repr

/-- The reason byte of a REFUSED body (R164). -/
def reasonCode : Reason → Byte
  | .format => 0x01#8
  | .kind => 0x02#8
  | .range => 0x03#8
  | .state => 0x04#8
  | .busy => 0x05#8
  | .pool => 0x06#8
  | .law => 0x07#8
  | .map => 0x08#8

/-! ## The profile record -/

/-- Activity floor codes. -/
def activityFloorOf (b : Byte) : Option Floor :=
  if b = 0x00#8 then some .low else if b = 0x01#8 then some .normal else if b = 0x02#8 then some .high else none

/-- Assumed echo loss, in dB. -/
def echoLossOf (b : Byte) : Option EchoLoss :=
  if b = 0x00#8 then some .db0 else if b = 0x06#8 then some .db6 else if b = 0x0C#8 then some .db12 else none

/-- NLP mode codes. -/
def nlpModeOf (b : Byte) : Option NlpMode :=
  if b = 0x00#8 then some .pass else if b = 0x01#8 then some .soft
  else if b = 0x02#8 then some .noise else if b = 0x03#8 then some .silent else none

/-- NLP margin, in dB. -/
def nlpMarginOf (b : Byte) : Option NlpMargin :=
  if b = 0x06#8 then some .db6 else if b = 0x0C#8 then some .db12 else if b = 0x12#8 then some .db18 else none

/-- Tone policy codes. -/
def tonePolicyOf (b : Byte) : Option TonePolicy :=
  if b = 0x00#8 then some .ignore else if b = 0x01#8 then some .nlpOnly
  else if b = 0x02#8 then some .full else none

/-- A number of a record, refused outside `lo..hi`. -/
def numberIn (lo hi : Nat) (b : Byte) : Option Nat :=
  if lo ≤ b.toNat ∧ b.toNat ≤ hi then some b.toNat else none

/-- A clamped field of a record: the stored value, and whether the clamp changed it (R126). -/
structure ClampedField where
  stored : Nat
  changed : Bool
  deriving DecidableEq, Repr

/-- A field marked "Clamped" brought into `lo..hi` (R126). -/
def clampField (lo hi : Nat) (v : Int) : ClampedField :=
  { stored := (clampInt lo hi v).toNat, changed := decide (clampInt lo hi v ≠ v) }

/-- The ascending list of the distinct positions of a list. -/
def insertPos (p : Pos) : List Pos → List Pos
  | [] => [p]
  | q :: qs => if p < q then p :: q :: qs else if p = q then q :: qs else q :: insertPos p qs

/-- The pins list checked as a whole and stored as the set of its positions (R125): at most 4, each 0..31, distinct,
at most `quota - 1`. -/
def pinsOf (quota : Nat) (count : Byte) (bytes : List Byte) : Option (List Pos) :=
  if count.toNat ≤ 4 ∧ count.toNat ≤ quota - 1 then
    match (bytes.take count.toNat).mapM posOf with
    | some ps => if ps.Nodup then some (ps.foldr insertPos []) else none
    | none => none
  else none

/-- A record accepted: what is stored, and the clamped set (section 10.10.2). -/
structure CheckedProfile where
  profile : Profile
  clamped : Byte
  deriving DecidableEq, Repr

/-- The profile record of section 10.10.3 checked and clamped; none where it is refused with RANGE (R125, R126). -/
def checkProfile (r : List Byte) : Option CheckedProfile := do
  let lineLaw ← tableOf (byteAt r 0)
  let exchangeLaw ← tableOf (byteAt r 1)
  let bulk ← numberIn 0 32 (byteAt r 2)
  let quota ← numberIn 2 8 (byteAt r 3)
  let pins ← pinsOf quota (byteAt r 4) ((r.drop 5).take 4)
  let initialPos ← posOf (byteAt r 9)
  let floor ← activityFloorOf (byteAt r 11)
  let echoLoss ← echoLossOf (byteAt r 12)
  let nlpMode ← nlpModeOf (byteAt r 13)
  let nlpMargin ← nlpMarginOf (byteAt r 14)
  let tonePolicy ← tonePolicyOf (byteAt r 15)
  let alcOn ← flagOf (byteAt r 16)
  let step := clampField 1 64 (byteAt r 10).toInt
  let target := clampField 64 8192 ((halfAt r 17).toNat : Int)
  let gmin := clampField 0 48 (byteAt r 19).toInt
  let gmax := clampField 0 48 (byteAt r 20).toInt
  let fixed := clampField 0 48 (byteAt r 21).toInt
  let pad := clampField 0 48 (byteAt r 22).toInt
  if gmax.stored < gmin.stored then none
  else
    some
      { profile :=
          { lineLaw, exchangeLaw, bulk, quota, pins, initialPos, step := step.stored, floor, echoLoss, nlpMode
            nlpMargin, tonePolicy, alcOn, target := target.stored, gmin := gmin.stored, gmax := gmax.stored
            fixedIndex := fixed.stored, padIndex := pad.stored }
        clamped :=
          byteOf ((if step.changed then 1 else 0) + (if target.changed then 2 else 0)
            + (if gmin.changed then 4 else 0) + (if gmax.changed then 8 else 0)
            + (if fixed.changed then 16 else 0) + (if pad.changed then 32 else 0)) }

/-! ## Frames of the control line -/

/-- The CRC register after one data bit (R160). -/
def crcBit (reg : Half) (bit : Bool) : Half :=
  if reg.msb != bit then (reg <<< 1) ^^^ 0x1021#16 else reg <<< 1

/-- The CRC register after one byte, most significant bit first (R160). -/
def crcByte (reg : Half) (b : Byte) : Half :=
  [7, 6, 5, 4, 3, 2, 1, 0].foldl (fun r i => crcBit r (b.getLsbD i)) reg

/-- The CRC over a list of bytes, from FFFFh (R160). -/
def crc (bytes : List Byte) : Half := bytes.foldl crcByte 0xFFFF#16

/-- The bytes of a record's frame as sent on TXD (R159, section 10.10.1). -/
def wireBytes (r : Record) : List Byte :=
  let covered := byteOf (r.body.length + 2) :: r.tag :: r.kind :: r.body
  0xC5#8 :: covered ++ be16 (crc covered).toNat

/-- The ten levels of a byte on the control line, in the order sent (R158): the start bit low, the 8 data bits least
significant first, the stop bit high; no parity. -/
def lineLevels (b : Byte) : List Bool := false :: (List.range 8).map b.getLsbD ++ [true]

/-- The levels of a record's frame on TXD, its bytes back to back (R158). -/
def frameLevels (r : Record) : List Bool := (wireBytes r).flatMap lineLevels

/-- The level of TXD `k` bit times after the transmitter took what it is sending: the frame's levels, and high whenever
no frame is on the line (R158). -/
def Transmitter.txd (tx : Transmitter) (k : Nat) : Bool :=
  match tx with
  | .idle => true
  | .reply r => (frameLevels r).getD k true
  | .notice _ r => (frameLevels r).getD k true

/-- RECEIVED_BYTE as RXD spells it (R158): a low start bit, 8 data bits least significant first, and a stop bit whose low
level is a framing error. A line that stays high spells no byte. -/
def byteOnLine (start : Bool) (data : Vector Bool 8) (stop : Bool) : Option Instr :=
  if start then none else some (.receivedByte (byteOf (data.toList.foldr (fun b n => 2 * n + b.toNat) 0)) (!stop))

/-- The DONE kind (R159). -/
def doneKind : Byte := 0x80#8

/-- The REFUSED kind (R159). -/
def refusedKind : Byte := 0x81#8

/-- The notice kind byte (R159). -/
def noticeKind : Byte := 0xC0#8

/-- The body length the catalogue gives for a request code; none for a KIND that is no request (section 10.5). -/
def catalogueLength (kind : Byte) : Option Nat :=
  match kind.toNat with
  | 0x01 => some 0
  | 0x02 => some 0
  | 0x08 => some 3
  | 0x09 => some 0
  | 0x0A => some 0
  | 0x0B => some 3
  | 0x0C => some 2
  | 0x10 => some 130
  | 0x11 => some 1
  | 0x18 => some 24
  | 0x19 => some 1
  | 0x1A => some 2
  | 0x1B => some 1
  | 0x1C => some 1
  | 0x1D => some 1
  | 0x1E => some 1
  | 0x20 => some 1
  | 0x21 => some 1
  | 0x22 => some 1
  | 0x23 => some 2
  | 0x24 => some 1
  | 0x25 => some 0
  | 0x28 => some 2
  | 0x29 => some 1
  | 0x30 => some 4
  | 0x31 => some 0
  | _ => none

end Sys2Proof.Machine
end

