-- ==== Sys2Proof/Machine/Ops.lean ====
section
/-!
DEFINITION. The named operations every family shares: reading and writing a channel context, a tap block, the port, the
link and the signature record; the two queues and the transmitter (R163, R165, R169 to R171); the answer of a request.
-/

namespace Sys2Proof.Machine

/-! ## Channels and blocks -/

/-- The context of channel `c`. -/
def State.chan (s : State) (c : Chan) : Channel := s.channels[c.val]

/-- The state with channel `c`'s context replaced. -/
def State.setChan (s : State) (c : Chan) (ch : Channel) : State :=
  { s with channels := s.channels.set c.val ch }

/-- The state with channel `c`'s context changed by `f`. -/
def State.onChan (s : State) (c : Chan) (f : Channel → Channel) : State := s.setChan c (f (s.chan c))

/-- Tap block `b`. -/
def State.block (s : State) (b : BlockNo) : Block := s.blocks[b.val]

/-- The state with tap block `b` replaced. -/
def State.setBlock (s : State) (b : BlockNo) (k : Block) : State :=
  { s with blocks := s.blocks.set b.val k }

/-- The state with the port changed by `f`. -/
def State.onPort (s : State) (f : Port → Port) : State := { s with port := f s.port }

/-- The state with the link changed by `f`. -/
def State.onLink (s : State) (f : Link → Link) : State := { s with link := f s.link }

/-- The state with the signature record changed by `f`. -/
def State.onSig (s : State) (f : Signature → Signature) : State := { s with sig := f s.sig }

/-- The state with the law store changed by `f`. -/
def State.onLaw (s : State) (f : LawStore → LawStore) : State := { s with law := f s.law }

/-- The state with another wait list. -/
def State.withWait (s : State) (w : List WaitEntry) : State := { s with wait := w }

/-- The numbers of all channels, ascending. -/
def allChans : List Chan := List.finRange 32

/-- The numbers of all tap blocks, ascending. -/
def allBlocks : List BlockNo := List.finRange 192

/-- The blocks channel `c` holds, in ascending number (R63, R69). -/
def State.heldBlocks (s : State) (c : Chan) : List BlockNo :=
  allBlocks.filter fun b => (s.block b).condition == .held c

/-- The held count of channel `c` (R75). -/
def State.heldCount (s : State) (c : Chan) : Nat := (s.heldBlocks c).length

/-- A channel is waiting while the wait list holds an entry for it (R66). -/
def State.waiting (s : State) (c : Chan) : Bool := s.wait.any fun e => e.chan == c

/-! ## Notices and the transmitter -/

/-- The snapshot of a source in a notice body, bytes 3..9 (section 10.10.5). -/
def State.snapshot (s : State) : Source → List Byte
  | .channel c =>
    let ch := s.chan c
    [lifeCode ch.life, serviceCode ch.service, toneModeCode ch.toneMode, yesNo ch.frozen, stagedCode ch.staged,
     yesNo (s.waiting c), byteOf (s.heldCount c)]
  | .port =>
    [runCode s.port.runState, syncCode s.port.sync, clockCode s.port.clock, sigStateCode s.sig.state,
     byteOf s.sig.channel.val, streamCode s.sig.stream, 0x00#8]

/-- The record of a notice, filled from the source's present state (R171). -/
def State.noticeRecord (s : State) (n : Notice) : Record :=
  { kind := noticeKind, tag := 0x00#8
    body := [sourceCode n.source, noticeCode n.kind, byteOf n.count] ++ s.snapshot n.source }

/-- The arbiter (R169): where the transmitter is idle, the head reply, or else the head notice, leaves its queue and
begins on the line. -/
def State.arbitrate (s : State) : State :=
  match s.link.tx with
  | .idle =>
    match s.link.replies with
    | r :: rs => s.onLink fun l => { l with replies := rs, tx := .reply r }
    | [] =>
      match s.link.notices with
      | n :: ns => s.onLink fun l => { l with notices := ns, tx := .notice n (s.noticeRecord n) }
      | [] => s
  | _ => s

/-- The notice mask of a source (R172). -/
def State.maskOf (s : State) : Source → Byte
  | .channel c => (s.chan c).mask
  | .port => s.port.mask

/-- A notice queue after an event of `u` and `k` that passes: coalesced where one of them is queued, else at the tail
with count 1 (R170). -/
def queueNotice (u : Source) (k : NoticeKind) (q : List Notice) : List Notice :=
  if q.any fun n => n.source == u && n.kind == k then
    q.map fun n => if n.source == u && n.kind == k then { n with count := bump n.count } else n
  else q ++ [{ source := u, kind := k, count := 1 }]

/-- A block raises a notice event of source `u` and kind `k` (R170); an idle transmitter takes it at once (R169). -/
def State.raiseNotice (s : State) (u : Source) (k : NoticeKind) : State :=
  if s.link.enable && (s.maskOf u).getLsbD (maskBit k) then
    (s.onLink fun l => { l with notices := queueNotice u k l.notices }).arbitrate
  else s

/-- A notice event of a channel. -/
def State.chanNotice (s : State) (c : Chan) (k : NoticeKind) : State := s.raiseNotice (.channel c) k

/-- A notice event of the port source. -/
def State.portNotice (s : State) (k : NoticeKind) : State := s.raiseNotice .port k

/-- A notice that an idle transmitter took within a sample has its snapshot read after the sample (R171: a channel's
snapshot is read between two samples of that channel; log 9). `before` is the state when the sample began. -/
def State.settleNotice (before after : State) : State :=
  match before.link.tx, after.link.tx with
  | .idle, .notice n _ => after.onLink fun l => { l with tx := .notice n (after.noticeRecord n) }
  | _, _ => after

/-! ## Requests and replies -/

/-- What the owner of a request answers (R163): DONE with its fields, or REFUSED with a reason. -/
inductive Answer where
  | done (fields : List Byte)
  | refused (why : Reason)
  deriving DecidableEq, Repr

/-- The reply record of an answer (R159, R164): the request's TAG, and its KIND as the first body byte. -/
def replyRecord (tag kind : Byte) : Answer → Record
  | .done fields => { kind := doneKind, tag := tag, body := kind :: fields }
  | .refused why => { kind := refusedKind, tag := tag, body := [kind, reasonCode why] }

/-- The reply joins the tail of the reply queue (R163); an idle transmitter takes the head at once (R169). -/
def State.pushReply (s : State) (tag kind : Byte) (a : Answer) : State :=
  (s.onLink fun l => { l with replies := l.replies ++ [replyRecord tag kind a] }).arbitrate

/-- What an owner does with a request: the state it leaves and its answer. -/
abbrev Request := State → State × Answer

/-- A request refused: nothing changes. -/
def refuse (why : Reason) : Request := fun s => (s, .refused why)

/-- A request arrival (R163): with 4 replies queued it is discarded and counted; otherwise its owner acts and its one
reply is queued. -/
def serve (tag kind : Byte) (act : Request) (s : State) : State :=
  if Config.replyLimit ≤ s.link.replies.length then s.onPort Port.countOverrun
  else ((act s).1).pushReply tag kind (act s).2

end Sys2Proof.Machine
end

