-- ==== Sys2Proof/Machine/LawStore.lean ====
section
/-!
DEFINITION. The law store's requests: LAW-LOAD and LAW-COMMIT (R7 to R9), and the idle code (R6).
-/

namespace Sys2Proof.Machine

/-- The quarter set of the load buffer as reported: bit q for each quarter held (R7, section 10.10.2). -/
def LoadBuffer.quarterSet (b : LoadBuffer) : Byte :=
  byteOf (bitIf b.quarters[0].isSome 0 + bitIf b.quarters[1].isSome 1 + bitIf b.quarters[2].isSome 2
    + bitIf b.quarters[3].isSome 3)

/-- A quarter stored for a table: quarters held for the other table are dropped first (R7). -/
def LoadBuffer.store (b : LoadBuffer) (t : TableName) (q : Fin 4) (entries : List Int) : LoadBuffer :=
  let kept := if b.target = some t then b.quarters else LoadBuffer.empty.quarters
  { target := some t, quarters := kept.set q.val (some entries) }

/-- The 256 entries of a complete buffer, in code order; none where a quarter is missing (R8). -/
def LoadBuffer.complete (b : LoadBuffer) : Option (List Int) :=
  match b.quarters[0], b.quarters[1], b.quarters[2], b.quarters[3] with
  | some q0, some q1, some q2, some q3 => some (q0 ++ q1 ++ q2 ++ q3)
  | _, _, _, _ => none

/-- A quarter number of a request, refused above 3. -/
def quarterOf (b : Byte) : Option (Fin 4) := if h : b.toNat < 4 then some ⟨b.toNat, h⟩ else none

/-- LAW-LOAD as its owner acts (R7); a body of another length than the catalogue's is refused with FORMAT (R164). -/
def lawLoadRequest (table quarter : Byte) (entries : List Half) : Request := fun s =>
  let values := entries.map BitVec.toInt
  if entries.length ≠ 64 then (s, .refused .format)
  else
    match tableOf table, quarterOf quarter with
    | some t, some q =>
      if values.all fun v => decide (-32767 ≤ v ∧ v ≤ 32767) then
        let buffer := s.law.buffer.store t q values
        (s.onLaw fun l => { l with buffer := buffer }, .done [tableCode buffer.target, buffer.quarterSet])
      else (s, .refused .range)
    | _, _ => (s, .refused .range)

/-- A committed table: the entries, the valid mark, and the idle code, which is the compression of 0 (R6, R9). -/
def LawTable.committed (entries : List Int) : LawTable :=
  { entries := entries, valid := true
    idle := some (compress { entries := entries, valid := true, idle := none } 0) }

/-- The law store with one table replaced. -/
def LawStore.setTable (l : LawStore) (t : TableName) (k : LawTable) : LawStore :=
  match t with
  | .a => { l with a := k }
  | .b => { l with b := k }

/-- LAW-COMMIT as its owner acts (R8, R9). -/
def lawCommitRequest (table : Byte) : Request := fun s =>
  match tableOf table with
  | none => (s, .refused .range)
  | some t =>
    if s.law.buffer.target ≠ some t then (s, .refused .law)
    else
      match s.law.buffer.complete with
      | none => (s, .refused .law)
      | some entries =>
        if entries.Nodup then
          (s.onLaw fun l => { l.setTable t (LawTable.committed entries) with buffer := .empty },
            .done (table :: (LawTable.committed entries).idle.toList))
        else (s, .refused .law)

/-- LAW-LOAD. -/
def execLawLoad (tag table quarter : Byte) (entries : List Half) (s : State) : Host.Outcome State Fault Refusal :=
  .next (serve tag 0x10#8 (lawLoadRequest table quarter entries) s)

/-- LAW-COMMIT. -/
def execLawCommit (tag table : Byte) (s : State) : Host.Outcome State Fault Refusal :=
  .next (serve tag 0x11#8 (lawCommitRequest table) s)

end Sys2Proof.Machine
end

