-- ==== Sys2Proof/Machine/Tick.lean ====
section
/-!
DEFINITION. The bit clock that brings no event of the table (R143), which is what a step on an empty queue is.
-/

namespace Sys2Proof.Machine

/-- The port counts bit clocks: in RUN with the clock present (R143, R145, R151). -/
def Port.clocked (p : Port) : Bool := p.runState == .run && p.clock == .ok

/-- The count passes from `position` to the next without an event from outside (R143): always in MASTER, where the part
itself returns it from 255 to 0 (R147); in SLAVE below 255, since the return is the expected position of a pulse, and
FRAME_PULSE or MISSED_PULSE says which it is (R148). -/
def Port.countsOn (p : Port) : Bool := p.mode == .master || decide (p.position.toNat < 255)

/-- One bit clock without an event of the table (R143; DESIGN CHOICE, log 1): the position count advances by 1, and in
MASTER returns from 255 to 0. -/
def bitClock (s : State) : State :=
  if s.port.clocked && s.port.countsOn then
    s.onPort fun p => { p with position := p.position + 1#8 }
  else s

/-- Bit clocks without an event bring the count from where it stands to `target` (R143): in MASTER always, in SLAVE where
the count need not pass its return to 0, which is an event of its own. -/
def Port.countReaches (p : Port) (target : Byte) : Bool := p.mode == .master || decide (p.position.toNat ≤ target.toNat)

end Sys2Proof.Machine
end

