-- ==== Sys2Proof/Machine/Framing.lean ====
section
/-!
DEFINITION. The highway port's shared operations: where a slot's bits fall (R143), starting and stopping framing (R145,
R146), cutting a frame (R148), the flywheel (R149), and the slots a channel holds in a map (R154).
-/

namespace Sys2Proof.Machine

/-- The position of bit `b` of slot `n` (R143). -/
def slotPosition (offset : Byte) (n b : Nat) : Byte := offset + BitVec.ofNat 8 (8 * n + b)

/-- How many bit clocks after the frame's beginning the present one is (R143). -/
def Port.elapsed (p : Port) : Nat := (p.position - p.offset).toNat

/-- Bit `b` of a slot's code (R143): bit 0 is the most significant bit of the code. -/
def slotBit (code : Byte) (b : Nat) : Bool := code.getLsbD (7 - b)

/-- The code that the eight bits of an input slot make, in the order LIN or XIN brings them (R143). -/
def slotCode (bits : Vector Bool 8) : Byte := byteOf (bits.toList.foldl (fun n b => 2 * n + b.toNat) 0)

/-- SAMPLE_ARRIVAL as the input pins spell it: the eight bits taken on LIN in the channel's line slot, and on XIN in its
exchange slot (R143, R152). -/
def arrivalOnPins (c : Chan) (lin xin : Vector Bool 8) (upset : List Disturbance) : Instr :=
  .sampleArrival c (slotCode lin) (slotCode xin) upset

/-- The code of the OUT slot that has begun on a highway. -/
def Port.outCode (p : Port) : Highway → Option Byte
  | .line => p.lout
  | .exchange => p.xout

/-- How many slots of a frame have begun on a highway. -/
def Frame.begun (f : Frame) : Highway → Nat
  | .line => f.lineBegun
  | .exchange => f.exchangeBegun

/-- The level the part drives on LOUT or XOUT on the present bit clock, or none: high impedance. An assigned slot that has
begun drives bit b of its code on its bit clock b, and nothing is driven on any bit clock outside its eight, in none of
HOLD, clock loss, the awaiting-pulse period, or between frames (R143, R153). -/
def Port.outPin (p : Port) (h : Highway) : Option Bool :=
  match p.frame, p.outCode h with
  | some f, some code =>
    if p.elapsed / 8 + 1 = f.begun h then some (slotBit code (p.elapsed % 8)) else none
  | _, _ => none

/-- The level the part drives on FP; none in SLAVE, where FP is an input. In MASTER it is high exactly on the bit
clocks of framing on which the position count is 0 (R144, R145, R147). -/
def Port.fpPin (p : Port) : Option Bool :=
  match p.mode with
  | .slave => none
  | .master => some (p.clocked && p.position == 0x00#8)

/-- Frames are processed: the port is clocked and not awaiting its first pulse (R145, R146, R151). -/
def Port.framing (p : Port) : Bool := p.clocked && !p.awaiting

/-- The frame in progress ends before its last bit: it is counted as dropped, and LOUT and XOUT stop driving
(R145, R148, R153). -/
def Port.cutFrame (p : Port) : Port :=
  { p with frame := none, dropped := p.dropped + (if p.frame.isSome then 1#32 else 0#32), lout := none, xout := none }

/-- Both fresh marks of a channel cleared (R19). -/
def Channel.clearFresh (ch : Channel) : Channel := { ch with freshRout := false, freshSout := false }

/-- Framing stops (R145, R151): the frame in progress is dropped, the awaiting-pulse mark and every channel's fresh
marks are cleared. -/
def State.stopFraming (s : State) : State :=
  { s with port := { s.port.cutFrame with awaiting := false }, channels := s.channels.map Channel.clearFresh }

/-- Framing starts on this bit clock (R146): the missed-pulse count and the position count are 0; in SLAVE the
awaiting-pulse mark is set. -/
def Port.startFraming (p : Port) : Port :=
  { p with missed := 0, position := 0x00#8, awaiting := p.mode == .slave }

/-- The slot of a map that holds a channel (R154: a map names a channel at most once). -/
def slotOf (m : SlotMap) (c : Chan) : Option Slot := (List.finRange 32).find? fun n => m[n.val] == some c

/-- Sync is lost (R149): counted, latched, the SYNC notice raised; a port that awaited its first pulse frames on its
own count. -/
def State.loseSync (s : State) : State :=
  (s.onPort fun p => { p.recordSyncLoss with sync := .lost, awaiting := false }).portNotice .sync

end Sys2Proof.Machine
end

