-- ==== Sys2Proof/Machine/PortRequests.lean ====
section
/-!
DEFINITION. The requests of the highway port: PORT-SET, PORT-HOLD, PORT-RUN, MAP-SET, MAP-CLEAR (R144, R145, R154, R155).
-/

namespace Sys2Proof.Machine

/-- The configuration bytes of PORT-SET and READ-PORT. -/
def Port.configBytes (p : Port) : List Byte := [modeCode p.mode, p.offset, edgeCode p.edge]

/-- PORT-SET as its owner acts (R144). -/
def portSetRequest (mode offset edge : Byte) : Request := fun s =>
  match modeOf mode, edgeOf edge with
  | some m, some e =>
    if s.port.runState = .run then (s, .refused .state)
    else
      let s1 := s.onPort fun p => { p with mode := m, offset := offset, edge := e }
      let s2 :=
        if m = .master ∧ s.port.sync = .lost then
          (s1.onPort fun p => { p with sync := .locked }).portNotice .sync
        else s1
      (s2, .done s2.port.configBytes)
  | _, _ => (s, .refused .range)

/-- PORT-HOLD as its owner acts (R145). -/
def portHoldRequest : Request := fun s =>
  if s.port.runState = .run then
    ((s.onPort fun p => { p with runState := .hold }).stopFraming, .done [runCode .hold])
  else (s, .done [runCode .hold])

/-- PORT-RUN as its owner acts (R145, R146, R151). -/
def portRunRequest : Request := fun s =>
  if s.port.runState = .run then (s, .done [runCode .run])
  else if s.port.clock = .ok then
    (s.onPort fun p => { p with runState := .run }.startFraming, .done [runCode .run])
  else (s.onPort fun p => { p with runState := .run }, .done [runCode .run])

/-- The map of a highway as the latest requests left it. -/
def Port.mapOf (p : Port) : Highway → SlotMap
  | .line => p.lineMap
  | .exchange => p.exchangeMap

/-- The port with one entry of a highway's map written. -/
def Port.setEntry (p : Port) (h : Highway) (n : Slot) (entry : Option Chan) : Port :=
  match h with
  | .line => { p with lineMap := p.lineMap.set n.val entry }
  | .exchange => { p with exchangeMap := p.exchangeMap.set n.val entry }

/-- MAP-SET as its owner acts (R154), its checks in the order of the table. -/
def mapSetRequest (highway slot channel : Byte) : Request := fun s =>
  match highwayOf highway, posOf slot, chanOf channel with
  | some h, some n, some c =>
    if (s.port.mapOf h)[n.val] = some c then (s, .done [highway, slot, channel])
    else if (s.chan c).life ≠ .closed then (s, .refused .state)
    else if (s.port.mapOf h)[n.val] ≠ none then (s, .refused .map)
    else if slotOf (s.port.mapOf h) c ≠ none then (s, .refused .map)
    else (s.onPort fun p => p.setEntry h n (some c), .done [highway, slot, channel])
  | _, _, _ => (s, .refused .range)

/-- MAP-CLEAR as its owner acts (R155). -/
def mapClearRequest (highway slot : Byte) : Request := fun s =>
  match highwayOf highway, posOf slot with
  | some h, some n =>
    match (s.port.mapOf h)[n.val] with
    | none => (s, .done [highway, slot])
    | some c =>
      if (s.chan c).life ≠ .closed then (s, .refused .state)
      else (s.onPort fun p => p.setEntry h n none, .done [highway, slot])
  | _, _ => (s, .refused .range)

/-- PORT-SET. -/
def execPortSet (tag mode offset edge : Byte) (s : State) : Host.Outcome State Fault Refusal :=
  .next (serve tag 0x08#8 (portSetRequest mode offset edge) s)

/-- PORT-HOLD. -/
def execPortHold (tag : Byte) (s : State) : Host.Outcome State Fault Refusal :=
  .next (serve tag 0x09#8 portHoldRequest s)

/-- PORT-RUN. -/
def execPortRun (tag : Byte) (s : State) : Host.Outcome State Fault Refusal :=
  .next (serve tag 0x0A#8 portRunRequest s)

/-- MAP-SET. -/
def execMapSet (tag highway slot channel : Byte) (s : State) : Host.Outcome State Fault Refusal :=
  .next (serve tag 0x0B#8 (mapSetRequest highway slot channel) s)

/-- MAP-CLEAR. -/
def execMapClear (tag highway slot : Byte) (s : State) : Host.Outcome State Fault Refusal :=
  .next (serve tag 0x0C#8 (mapClearRequest highway slot) s)

end Sys2Proof.Machine
end

