-- ==== Sys2Proof/Machine/Pool.lean ====
section
/-!
DEFINITION. The tap pool and the placement unit's view of it: free blocks and handover (R64, R65), the wait list (R66,
R67), the return of a block (R68, R69), the next-position search (R44), and a block fault (R58, R71).
-/

namespace Sys2Proof.Machine

/-! ## Free blocks and tap values -/

/-- The free blocks in ascending number (R64). -/
def State.freeBlocks (s : State) : List BlockNo :=
  allBlocks.filter fun b => (s.block b).condition == .free

/-- The number of retired blocks (R72). -/
def State.retiredCount (s : State) : Nat :=
  (allBlocks.filter fun b => (s.block b).condition == .retired).length

/-- 32 tap values of 0. -/
def zeroTaps : List Int := List.replicate 32 0

/-- The taps of block `b` written, its check code with them (R26). -/
def State.writeTaps (s : State) (b : BlockNo) (taps : List Int) : State :=
  s.setBlock b { s.block b with taps := taps, altered := false }

/-- Block `b` zeroed (R32). -/
def State.zeroBlock (s : State) (b : BlockNo) : State := s.writeTaps b zeroTaps

/-- A handover (R65): the holder recorded, all values 0, the check code written. -/
def State.handover (s : State) (b : BlockNo) (c : Chan) : State :=
  s.setBlock b { taps := zeroTaps, condition := .held c, altered := false }

/-! ## Windows of a channel -/

/-- The blocks a channel reads, with their positions: its placed windows that hold one, in ascending position, and its
scout last (R25, R71). -/
def Channel.covered (ch : Channel) : List (Pos × BlockNo) :=
  ch.windows.filterMap (fun w => w.block.map fun b => (w.pos, b))
    ++ (ch.scout.map fun k => (k.pos, k.block)).toList

/-- A window joins the list in its place in ascending order (R41). -/
def insertWindow (w : Window) : List Window → List Window
  | [] => [w]
  | v :: vs => if w.pos < v.pos then w :: v :: vs else v :: insertWindow w vs

/-- The first position after `p`, continuing from 31 to 0, that no listed position occupies (R44). -/
def nextUnoccupied (occupied : List Pos) (p : Pos) : Pos :=
  (((List.range 32).map fun i => p + 1 + Fin.ofNat 32 i).find? fun q => !occupied.contains q).getD p

/-- The lowest-numbered position that no listed position occupies (R44). -/
def lowestUnoccupied (occupied : List Pos) : Pos :=
  ((List.finRange 32).find? fun q => !occupied.contains q).getD 0

/-- The positions of the placed windows, vacant pins included (R44). -/
def Channel.windowPositions (ch : Channel) : List Pos := ch.windows.map Window.pos

/-- The quota count: the placed windows plus one (R43). -/
def Channel.quotaCount (ch : Channel) : Nat := ch.windows.length + 1

/-- A scout with block `b`, dwell 0, at the next unoccupied position after `p` as the placed windows stand; the last
scout position is set to it. -/
def Channel.placeScoutAfter (ch : Channel) (p : Pos) (b : BlockNo) : Channel :=
  let q := nextUnoccupied ch.windowPositions p
  { ch with scout := some { pos := q, block := b, dwell := 0 }, lastScout := q }

/-- A new scout for a channel without one: after the last scout position (R57). -/
def Channel.placeScout (ch : Channel) (b : BlockNo) : Channel := ch.placeScoutAfter ch.lastScout b

/-- The vacant pin at `p` holds `b` (R58, R68). -/
def Channel.fillPin (ch : Channel) (p : Pos) (b : BlockNo) : Channel :=
  { ch with windows := ch.windows.map fun w =>
      if w.pos == p && w.kind == .pinned && w.block.isNone then { w with block := some b } else w }

/-- The energy of a window's block; 0 where it is vacant (R34). -/
def State.windowEnergy (s : State) (w : Window) : Nat :=
  match w.block with
  | some b => energy (s.block b).taps
  | none => 0

/-- The window of least energy, the earliest of equals, which in an ascending list is the one at the lowest position
(R50, R61). -/
def weakest (e : Window → Nat) : List Window → Option Window
  | [] => none
  | w :: ws =>
    match weakest e ws with
    | none => some w
    | some v => if e w ≤ e v then some w else some v

/-! ## The wait list -/

/-- Whether an entry is a PIN entry. -/
def WaitEntry.isPin (e : WaitEntry) : Bool :=
  match e.claim with
  | .pin _ => true
  | .scout => false

/-- Channel `c` joins with a SCOUT entry at the tail of the list (R67). -/
def State.joinScout (s : State) (c : Chan) : State :=
  s.withWait (s.wait ++ [{ chan := c, claim := .scout }])

/-- Channel `c` joins with a PIN entry at the tail of the PIN entries, ahead of every SCOUT entry (R67). -/
def State.joinPin (s : State) (c : Chan) (p : Pos) : State :=
  s.withWait (s.wait.takeWhile WaitEntry.isPin ++ { chan := c, claim := .pin p } :: s.wait.dropWhile WaitEntry.isPin)

/-- Block `b` handed to a wait entry's channel in the role the entry names (R68). -/
def State.serveWaiter (s : State) (e : WaitEntry) (b : BlockNo) : State :=
  (s.handover b e.chan).onChan e.chan fun ch =>
    match e.claim with
    | .pin p => ch.fillPin p b
    | .scout => ch.placeScout b

/-- A channel returns block `b` (R68): to the head of the wait list, or to the free set, where it keeps its values. -/
def State.returnBlock (s : State) (b : BlockNo) : State :=
  match s.wait with
  | e :: rest => (s.withWait rest).serveWaiter e b
  | [] => s.setBlock b { s.block b with condition := .free }

/-- Several blocks returned one at a time (R69). -/
def State.returnBlocks (s : State) (bs : List BlockNo) : State := bs.foldl State.returnBlock s

/-! ## Block faults -/

/-- Steps 1 and 2 of R71: the block retired with its values and code kept, FAULT latched, the FAULT notice raised. -/
def State.retireBlock (s : State) (c : Chan) (b : BlockNo) : State :=
  ((s.setBlock b { s.block b with condition := .retired }).onChan c Channel.latchFault).chanNotice c .fault

/-- The role of a lost scout (R58): a free block at once, or the record absent and a SCOUT entry. -/
def State.loseScout (s : State) (c : Chan) : State :=
  match s.freeBlocks with
  | f :: _ => (s.handover f c).onChan c fun ch => { ch with scout := none }.placeScout f
  | [] => (s.onChan c fun ch => { ch with scout := none }).joinScout c

/-- The role of a lost pin (R58): a free block at once, or the pin vacant and a PIN entry. -/
def State.losePin (s : State) (c : Chan) (p : Pos) : State :=
  let vacate := fun (ch : Channel) =>
    { ch with windows := ch.windows.map fun w => if w.pos == p then { w with block := none } else w }
  match s.freeBlocks with
  | f :: _ => (s.handover f c).onChan c fun ch => (vacate ch).fillPin p f
  | [] => (s.onChan c vacate).joinPin c p

/-- The role of a lost FOUND window (R58): it leaves the list. -/
def State.loseFound (s : State) (c : Chan) (p : Pos) : State :=
  s.onChan c fun ch => { ch with windows := ch.windows.filter fun w => w.pos != p }

/-- A block fault of `b`, held by channel `c`, in the order of R71. -/
def State.blockFault (s : State) (c : Chan) (b : BlockNo) : State :=
  let s1 := s.retireBlock c b
  match (s.chan c).windows.find? fun w => w.block == some b with
  | some w =>
    match w.kind with
    | .pinned => s1.losePin c w.pos
    | .found => s1.loseFound c w.pos
  | none => if (s.chan c).scout.any fun k => k.block == b then s1.loseScout c else s1

/-- The read of every listed block of channel `c`: each whose test fails is handled in turn (R26, R71). -/
def State.testBlocks (s : State) (c : Chan) : List (Pos × BlockNo) → State
  | [] => s
  | (_, b) :: rest => if (s.block b).altered then (s.blockFault c b).testBlocks c rest else s.testBlocks c rest

end Sys2Proof.Machine
end

