-- ==== Sys2Proof/Machine/LifeCycle.lean ====
section
/-!
DEFINITION. The channel life cycle: PROFILE, OPEN, APPLY, CLOSE (R127 to R137), RETRAIN (R59, R95), FREEZE and THAW
(R93), and the steps they share with RESTART and the quiet point.
-/

namespace Sys2Proof.Machine

/-! ## PROFILE -/

/-- PROFILE as its owner acts (R127); a record of another length than 23 makes a body refused with FORMAT (R164). -/
def profileRequest (channel : Byte) (record : List Byte) : Request := fun s =>
  if record.length ≠ 23 then (s, .refused .format)
  else
    match chanOf channel with
    | none => (s, .refused .range)
    | some c =>
      match checkProfile record with
      | none => (s, .refused .range)
      | some k =>
        match (s.chan c).staged with
        | .pending _ => (s, .refused .busy)
        | _ => (s.onChan c fun ch => { ch with staged := .staged k.profile }, .done [channel, k.clamped])

/-! ## OPEN -/

/-- The number of blocks a channel's first windows and scout need (R45). -/
def firstBlocks (p : Profile) : Nat := if p.pins = [] then 2 else p.pins.length + 1

/-- The first placed windows: a PINNED window at each pin, or one FOUND window at the initial position, with the blocks
in ascending order (R45). -/
def firstWindows (p : Profile) (bs : List BlockNo) : List Window :=
  if p.pins = [] then
    bs.head?.toList.map fun b => { pos := p.initialPos, kind := .found, block := some b }
  else List.zipWith (fun q b => { pos := q, kind := .pinned, block := some b }) p.pins bs

/-- The window list and the scout record built from the blocks taken (R45). -/
def Channel.placeFirst (ch : Channel) (p : Profile) (bs : List BlockNo) : Channel :=
  let ws := firstWindows p bs
  let q := lowestUnoccupied (ws.map Window.pos)
  { ch with
    windows := ws
    scout := bs.getLast?.map fun b => { pos := q, block := b, dwell := 0 }
    lastScout := q }

/-- The send gain index that OPEN sets (R116). -/
def openGain (p : Profile) : Nat := if p.alcOn then clampNat p.gmin p.gmax p.fixedIndex else p.fixedIndex

/-- The idle code a valid table holds (R6). -/
def LawTable.idleCode (t : LawTable) : Byte := t.idle.getD 0x00#8

/-- The open values of a channel's running fields (the table of R130); conditions, counters and mask are kept. -/
def Channel.openValues (ch : Channel) (c : Chan) (p : Profile) (lineIdle exchangeIdle : Byte) : Channel :=
  { ch with
    ring := List.replicate 2048 0
    sumX := 0, sumS := 0, sumE := 0, sumV := 0
    dtFlag := false, dtHangover := 0, talk := .idle, quietRun := 0
    service := .acquire, convRun := 0, changeRun := 0, divRun := 0, frozen := false
    engaged := false, nlpHangover := 0, noiseFloor := 0, noiseReg := c.val + 1
    toneMode := .normal, toneS := .zero, toneX := .zero, recentS := []
    padIndex := p.padIndex, gain := openGain p, periodCount := 0, releaseCount := 0
    lastRout := exchangeIdle, lastSout := lineIdle, freshRout := false, freshSout := false }

/-- Several blocks handed over to one channel (R65). -/
def State.handoverAll (s : State) (c : Chan) (bs : List BlockNo) : State := bs.foldl (fun t b => t.handover b c) s

/-- An accepted OPEN (R130), steps 1 to 5 but for the reply. -/
def State.openWith (s : State) (c : Chan) (p : Profile) : State :=
  let bs := s.freeBlocks.take (firstBlocks p)
  let lineIdle := (s.law.table p.lineLaw).idleCode
  let exchangeIdle := (s.law.table p.exchangeLaw).idleCode
  ((s.handoverAll c bs).onChan c fun ch =>
    { (({ ch with profile := some p, staged := .empty }).placeFirst p bs).openValues c p lineIdle exchangeIdle with
      life := .opening, openingCount := 0 }).chanNotice c .mode

/-- OPEN as its owner acts (R129, R130), its checks in the order of the table. -/
def openRequest (channel : Byte) : Request := fun s =>
  match chanOf channel with
  | none => (s, .refused .range)
  | some c =>
    if (s.chan c).life ≠ .closed then (s, .refused .state)
    else
      match (s.chan c).staged with
      | .staged p =>
        if slotOf s.port.lineMap c = none ∨ slotOf s.port.exchangeMap c = none then (s, .refused .map)
        else if ¬((s.law.table p.lineLaw).valid ∧ (s.law.table p.exchangeLaw).valid) then (s, .refused .law)
        else if s.freeBlocks.length < firstBlocks p then (s, .refused .pool)
        else (s.openWith c p, .done [channel])
      | _ => (s, .refused .state)

/-! ## APPLY -/

/-- The level controller takes a new profile (R121). -/
def Channel.applyLevels (ch : Channel) (old new : Profile) : Channel :=
  { ch with
    padIndex := new.padIndex
    gain := if new.alcOn then clampNat new.gmin new.gmax ch.gain else new.fixedIndex
    periodCount := if old.alcOn = new.alcOn then ch.periodCount else 0
    releaseCount := if old.alcOn = new.alcOn then ch.releaseCount else 0 }

/-- The FOUND windows of a channel, in ascending position. -/
def Channel.foundWindows (ch : Channel) : List Window := ch.windows.filter fun w => w.kind == .found

/-- One window and its block leave a channel: the block goes back to the pool (R61). -/
def State.returnWindow (s : State) (c : Chan) (w : Window) : State :=
  let s1 := s.onChan c fun ch => { ch with windows := ch.windows.filter fun v => v.pos != w.pos }
  match w.block with
  | some b => s1.returnBlock b
  | none => s1

/-- The quota reduction (R61): while the quota count exceeds the new quota, the weakest FOUND window leaves. `fuel`
bounds the windows that can leave. -/
def State.reduceQuota (s : State) (c : Chan) (quota : Nat) : Nat → State
  | 0 => s
  | fuel + 1 =>
    if quota < (s.chan c).quotaCount then
      match weakest s.windowEnergy (s.chan c).foundWindows with
      | some w => (s.returnWindow c w).reduceQuota c quota fuel
      | none => s
    else s

/-- An apply takes effect with the record `p` (R135). -/
def State.applyTakesEffect (s : State) (c : Chan) (p : Profile) : State :=
  let old := ((s.chan c).profile).getD p
  let s1 := s.onChan c fun ch => ({ ch with profile := some p }).applyLevels old p
  let s2 := s1.reduceQuota c p.quota (s1.chan c).windows.length
  (s2.onChan c fun ch => { ch with staged := .empty }).chanNotice c .applied

/-- APPLY as its owner acts (R133), its checks in the order of the table. -/
def applyRequest (channel force : Byte) : Request := fun s =>
  match chanOf channel, flagOf force with
  | some c, some forced =>
    if (s.chan c).life ≠ .active then (s, .refused .state)
    else
      match (s.chan c).staged, (s.chan c).profile with
      | .staged p, some active =>
        if p.bulk ≠ active.bulk ∨ p.pins ≠ active.pins then (s, .refused .state)
        else if ¬((s.law.table p.lineLaw).valid ∧ (s.law.table p.exchangeLaw).valid) then (s, .refused .law)
        else if forced then (s.applyTakesEffect c p, .done [channel, 0x01#8])
        else (s.onChan c fun ch => { ch with staged := .pending p }, .done [channel, 0x00#8])
      | _, _ => (s, .refused .state)
  | _, _ => (s, .refused .range)

/-! ## CLOSE -/

/-- A running signature that watches channel `c` is aborted (R181). -/
def State.abortSignature (s : State) (c : Chan) : State :=
  if s.sig.state = .running ∧ s.sig.channel = c then
    (s.onSig fun g => { g with state := .aborted }).portNotice .signature
  else s

/-- The steps of R136 but for the MODE notice; RESTART closes by them too (R139). -/
def State.closeSteps (s : State) (c : Chan) : State :=
  let s1 := s.onChan c fun ch => { ch with staged := .empty }
  let s2 := s1.withWait (s1.wait.filter fun e => e.chan != c)
  let s3 := (s2.onChan c fun ch => { ch with windows := [], scout := none }).returnBlocks (s2.heldBlocks c)
  (s3.abortSignature c).onChan c fun ch => { ch with frozen := false, profile := none, life := .closed }

/-- CLOSE as its owner acts (R136). -/
def closeRequest (channel : Byte) : Request := fun s =>
  match chanOf channel with
  | none => (s, .refused .range)
  | some c =>
    if (s.chan c).life = .closed then (s, .refused .state)
    else ((s.closeSteps c).chanNotice c .mode, .done [channel])

/-! ## RETRAIN -/

/-- Every held tap of a channel set to 0 (R32, R59, R90). -/
def State.zeroHeldTaps (s : State) (c : Chan) : State :=
  ((s.chan c).covered.map Prod.snd).foldl State.zeroBlock s

/-- The blocks of a list in ascending number. -/
def ascending (bs : List BlockNo) : List BlockNo := allBlocks.filter fun b => bs.contains b

/-- Step 3 of R59 with its block: the re-placed FOUND window stands at the initial position. -/
def Channel.replaceFound (ch : Channel) (p : Profile) (b : BlockNo) : Channel :=
  { ch with windows := insertWindow { pos := p.initialPos, kind := .found, block := some b } ch.windows }

/-- Step 5 of R59: a scout moves to the lowest unoccupied position, dwell 0. -/
def Channel.rewindScout (ch : Channel) : Channel :=
  match ch.scout with
  | some k =>
    let q := lowestUnoccupied ch.windowPositions
    { ch with scout := some { pos := q, block := k.block, dwell := 0 }, lastScout := q }
  | none => ch

/-- Placement's part of RETRAIN, in the order of R59. -/
def State.retrainPlacement (s : State) (c : Chan) (p : Profile) : State :=
  let s1 := s.zeroHeldTaps c
  let freed := ascending ((s1.chan c).foundWindows.filterMap Window.block)
  let s2 := s1.onChan c fun ch => { ch with windows := ch.windows.filter fun w => w.kind != .found }
  let s3 :=
    if p.pins = [] then
      match freed with
      | b :: rest => (s2.onChan c fun ch => ch.replaceFound p b).returnBlocks rest
      | [] =>
        match s2.freeBlocks with
        | b :: _ => (s2.handover b c).onChan c fun ch => ch.replaceFound p b
        | [] => s2
    else s2.returnBlocks freed
  s3.onChan c Channel.rewindScout

/-- RETRAIN as its owner acts (R95). -/
def retrainRequest (channel : Byte) : Request := fun s =>
  match chanOf channel with
  | none => (s, .refused .range)
  | some c =>
    match (s.chan c).life, (s.chan c).profile with
    | .active, some p =>
      let s1 := (s.retrainPlacement c p).onChan c fun ch =>
        { ch with service := .acquire, convRun := 0, changeRun := 0, divRun := 0 }
      let s2 := if (s.chan c).service = .track then s1.chanNotice c .mode else s1
      (s2, .done [channel])
    | _, _ => (s, .refused .state)

/-! ## FREEZE and THAW -/

/-- FREEZE and THAW as their owner acts (R93): the flag set to `want`; a change raises MODE. -/
def frozenRequest (channel : Byte) (want : Bool) : Request := fun s =>
  match chanOf channel with
  | none => (s, .refused .range)
  | some c =>
    if (s.chan c).life = .closed then (s, .refused .state)
    else if (s.chan c).frozen = want then (s, .done [channel, yesNo want])
    else ((s.onChan c fun ch => { ch with frozen := want }).chanNotice c .mode, .done [channel, yesNo want])

/-! ## Meanings -/

/-- PROFILE. -/
def execProfile (tag channel : Byte) (record : List Byte) (s : State) : Host.Outcome State Fault Refusal :=
  .next (serve tag 0x18#8 (profileRequest channel record) s)

/-- OPEN. -/
def execOpenChannel (tag channel : Byte) (s : State) : Host.Outcome State Fault Refusal :=
  .next (serve tag 0x19#8 (openRequest channel) s)

/-- APPLY. -/
def execApplyProfile (tag channel force : Byte) (s : State) : Host.Outcome State Fault Refusal :=
  .next (serve tag 0x1A#8 (applyRequest channel force) s)

/-- CLOSE. -/
def execCloseChannel (tag channel : Byte) (s : State) : Host.Outcome State Fault Refusal :=
  .next (serve tag 0x1B#8 (closeRequest channel) s)

/-- RETRAIN. -/
def execRetrain (tag channel : Byte) (s : State) : Host.Outcome State Fault Refusal :=
  .next (serve tag 0x1C#8 (retrainRequest channel) s)

/-- FREEZE. -/
def execFreeze (tag channel : Byte) (s : State) : Host.Outcome State Fault Refusal :=
  .next (serve tag 0x1D#8 (frozenRequest channel true) s)

/-- THAW. -/
def execThaw (tag channel : Byte) (s : State) : Host.Outcome State Fault Refusal :=
  .next (serve tag 0x1E#8 (frozenRequest channel false) s)

end Sys2Proof.Machine
end

