-- ==== Sys2Proof/Machine/Readout.lean ====
section
/-!
DEFINITION. The requests that report: READ-STATUS (R62, R98, R113, R124, R167), READ-CONDITIONS, READ-COUNTERS (R176,
R177), READ-TAPS (R36 to R38), READ-POOL (R75), READ-PORT (R156); and the signature's SIG-START and SIG-READ (R179,
R182).
-/

namespace Sys2Proof.Machine

/-! ## READ-STATUS -/

/-- One window entry of the status record: position, kind, block, energy code. -/
def State.windowEntry (s : State) (w : Window) : List Byte :=
  let code := match w.block with
    | some b => energyCode (s.block b).taps
    | none => 0
  [byteOf w.pos.val, kindCode w.kind, blockCode w.block] ++ be16 code

/-- Seven window entries; those beyond the count are 0 (section 10.10.4). -/
def State.windowEntries (s : State) (ws : List Window) : List Byte :=
  ((ws.flatMap s.windowEntry) ++ List.replicate 35 0x00#8).take 35

/-- The status record of channel `c` (section 10.10.4). -/
def State.statusRecord (s : State) (c : Chan) : List Byte :=
  let ch := s.chan c
  [byteOf c.val, lifeCode ch.life, serviceCode ch.service, toneModeCode ch.toneMode, yesNo ch.frozen,
   talkCode ch.talk, stagedCode ch.staged, yesNo (s.waiting c)]
    ++ be16 (level ch.sumX) ++ be16 (level ch.sumS) ++ be16 (level ch.sumE) ++ be16 (level ch.sumV)
    ++ [byteOf ch.noiseFloor, byteOf ch.gain, byteOf ch.padIndex, byteOf ch.windows.length]
    ++ s.windowEntries ch.windows
    ++ (match ch.scout with
        | some k => [0x01#8, byteOf k.pos.val] ++ be16 k.dwell
        | none => [0x00#8, 0x00#8, 0x00#8, 0x00#8])

/-- READ-STATUS as its owner acts: every held block is tested, and failing tests are handled, before the record is
built (R62, R167). -/
def readStatusRequest (channel : Byte) : Request := fun s =>
  match chanOf channel with
  | none => (s, .refused .range)
  | some c =>
    let s1 := s.testBlocks c (s.chan c).covered
    (s1, .done (s1.statusRecord c))

/-! ## READ-CONDITIONS and READ-COUNTERS -/

/-- READ-CONDITIONS as its owner acts (R176). -/
def readConditionsRequest (source : Byte) : Request := fun s =>
  match sourceOf source with
  | none => (s, .refused .range)
  | some (.channel c) =>
    (s.onChan c fun ch => { ch with conditions := .clear }, .done [source, (s.chan c).conditions.byte])
  | some .port => (s.onPort Port.conditionsRead, .done [source, s.port.conditionByte])

/-- READ-COUNTERS as its owner acts (R177). -/
def readCountersRequest (source : Byte) : Request := fun s =>
  match sourceOf source with
  | none => (s, .refused .range)
  | some (.channel c) =>
    (s.onChan c fun ch => { ch with counters := .zero }, .done (source :: (s.chan c).counters.bytes))
  | some .port => (s.onPort Port.countersRead, .done (source :: s.port.counterBytes))

/-! ## READ-TAPS -/

/-- What a tap selector finds at a channel (R36): the role code, the position and the block. -/
structure TapPlace where
  role : Byte
  pos : Pos
  block : BlockNo
  deriving DecidableEq, Repr

/-- The scout's place. -/
def Channel.scoutPlace (ch : Channel) : Option TapPlace :=
  ch.scout.map fun k => { role := 0x02#8, pos := k.pos, block := k.block }

/-- The place a selector names; none where nothing with a block stands there (R36). -/
def Channel.tapPlace (ch : Channel) : TapSelector → Option TapPlace
  | .scout => ch.scoutPlace
  | .position p =>
    match ch.windows.find? fun w => w.pos == p with
    | some w => w.block.map fun b => { role := kindCode w.kind, pos := p, block := b }
    | none => ch.scoutPlace.filter fun k => k.pos == p

/-- The DONE fields of READ-TAPS (R37). -/
def State.tapFields (s : State) (channel selector : Byte) (k : TapPlace) : List Byte :=
  let taps := (s.block k.block).taps
  [channel, selector, k.role, byteOf k.pos.val, byteOf k.block.val] ++ be16 (energyCode taps)
    ++ taps.flatMap be24

/-- The answer of READ-TAPS against a channel's windows as they stand (R36). -/
def State.tapAnswer (s : State) (channel selector : Byte) (c : Chan) (t : TapSelector) : Answer :=
  match (s.chan c).tapPlace t with
  | some k => .done (s.tapFields channel selector k)
  | none => .refused .state

/-- READ-TAPS as its owner acts: the block read is tested, and a failing test is handled before the answer (R36 to
R38). -/
def readTapsRequest (channel selector : Byte) : Request := fun s =>
  match chanOf channel, selectorOf selector with
  | some c, some t =>
    if (s.chan c).life = .closed then (s, .refused .state)
    else
      match (s.chan c).tapPlace t with
      | none => (s, .refused .state)
      | some k =>
        let s1 := s.testBlocks c [(k.pos, k.block)]
        (s1, s1.tapAnswer channel selector c t)
  | _, _ => (s, .refused .range)

/-! ## READ-POOL and READ-PORT -/

/-- The number of held blocks, of all channels (R75). -/
def State.heldTotal (s : State) : Nat := 192 - s.freeBlocks.length - s.retiredCount

/-- READ-POOL as its owner acts (R75). -/
def readPoolRequest (start : Byte) : Request := fun s =>
  if 159 < start.toNat then (s, .refused .range)
  else
    (s, .done ([byteOf s.freeBlocks.length, byteOf s.heldTotal, byteOf s.retiredCount, byteOf s.wait.length, start]
      ++ ((s.wait.drop start.toNat).take 80).flatMap waitEntryBytes
      ++ allChans.map fun c => byteOf (s.heldCount c)))

/-- READ-PORT as its owner acts (R156). -/
def readPortRequest : Request := fun s =>
  let p := s.port
  (s, .done (p.configBytes ++ [runCode p.runState, syncCode p.sync, yesNo p.awaiting, clockCode p.clock]
    ++ be32 p.complete.toNat ++ be32 p.dropped.toNat
    ++ p.lineMap.toList.map mapEntryCode ++ p.exchangeMap.toList.map mapEntryCode))

/-! ## The signature's requests -/

/-- SIG-START as its owner acts (R179), its checks in the order of the table. -/
def sigStartRequest (channel stream : Byte) (count : Half) : Request := fun s =>
  match chanOf channel, streamOf stream with
  | some c, some st =>
    if count = 0#16 then (s, .refused .range)
    else if s.sig.state = .running then (s, .refused .busy)
    else if (s.chan c).life ≠ .active then (s, .refused .state)
    else
      (s.onSig fun _ => { state := .running, channel := c, stream := st, remaining := count.toNat, value := 0 },
        .done ([channel, stream] ++ be16 count.toNat))
  | _, _ => (s, .refused .range)

/-- SIG-READ as its owner acts (R182). -/
def sigReadRequest : Request := fun s =>
  let g := s.sig
  (s, .done ([sigStateCode g.state, byteOf g.channel.val, streamCode g.stream] ++ be16 g.remaining
    ++ (if g.state = .done then be16 g.value else [])))

/-! ## Meanings -/

/-- READ-STATUS. -/
def execReadStatus (tag channel : Byte) (s : State) : Host.Outcome State Fault Refusal :=
  .next (serve tag 0x20#8 (readStatusRequest channel) s)

/-- READ-CONDITIONS. -/
def execReadConditions (tag source : Byte) (s : State) : Host.Outcome State Fault Refusal :=
  .next (serve tag 0x21#8 (readConditionsRequest source) s)

/-- READ-COUNTERS. -/
def execReadCounters (tag source : Byte) (s : State) : Host.Outcome State Fault Refusal :=
  .next (serve tag 0x22#8 (readCountersRequest source) s)

/-- READ-TAPS. -/
def execReadTaps (tag channel selector : Byte) (s : State) : Host.Outcome State Fault Refusal :=
  .next (serve tag 0x23#8 (readTapsRequest channel selector) s)

/-- READ-POOL. -/
def execReadPool (tag start : Byte) (s : State) : Host.Outcome State Fault Refusal :=
  .next (serve tag 0x24#8 (readPoolRequest start) s)

/-- READ-PORT. -/
def execReadPort (tag : Byte) (s : State) : Host.Outcome State Fault Refusal :=
  .next (serve tag 0x25#8 readPortRequest s)

/-- SIG-START. -/
def execSigStart (tag channel stream : Byte) (count : Half) (s : State) : Host.Outcome State Fault Refusal :=
  .next (serve tag 0x30#8 (sigStartRequest channel stream count) s)

/-- SIG-READ. -/
def execSigRead (tag : Byte) (s : State) : Host.Outcome State Fault Refusal :=
  .next (serve tag 0x31#8 sigReadRequest s)

end Sys2Proof.Machine
end

