-- ==== Sys2Proof/Machine/Control.lean ====
section
/-!
DEFINITION. The control link: the receive framer (R161, R162), the handing of a request to its owner (R163, R164),
IDENT, RESTART, NOTICE-MASK, NOTICE-ENABLE (R166, R168, R172), the end of a frame on TXD (R169), and power-on reset
(R138).
-/

namespace Sys2Proof.Machine

/-! ## The link's own requests -/

/-- IDENT as its owner acts (R166). -/
def identRequest : Request := fun s =>
  (s, .done (be16 Config.partCode ++ [byteOf Config.revision, byteOf 32, byteOf 192, byteOf s.retiredCount]))

/-- The highest mask byte of a source: one mark for each of its kinds (R172). -/
def fullMask : Source → Byte
  | .channel _ => allChannelKinds
  | .port => allPortKinds

/-- A source's mask replaced (R172). -/
def State.setMask (s : State) (u : Source) (m : Byte) : State :=
  match u with
  | .channel c => s.onChan c fun ch => { ch with mask := m }
  | .port => s.onPort fun p => { p with mask := m }

/-- NOTICE-MASK as its owner acts (R172). -/
def noticeMaskRequest (source mask : Byte) : Request := fun s =>
  match sourceOf source with
  | none => (s, .refused .range)
  | some u =>
    if mask &&& ~~~(fullMask u) ≠ 0x00#8 then (s, .refused .range)
    else (s.setMask u mask, .done [source, mask])

/-- NOTICE-ENABLE as its owner acts (R172). -/
def noticeEnableRequest (enable : Byte) : Request := fun s =>
  match flagOf enable with
  | none => (s, .refused .range)
  | some on => (s.onLink fun l => { l with enable := on }, .done [enable])

/-! ## RESTART -/

/-- Steps 1 and 2 of R168: the master enable off, the masks back, both queues emptied, the framer in HUNT (R173). -/
def State.restartLink (s : State) : State :=
  { s with
    link := { s.link with enable := false, notices := [], replies := [], framer := .hunt }
    port := { s.port with mask := allPortKinds }
    channels := s.channels.map fun ch => { ch with mask := allChannelKinds } }

/-- An open channel closed as by R136, without a MODE notice; a closed one left as it is (R139). -/
def State.restartClose (s : State) (c : Chan) : State :=
  if (s.chan c).life = .closed then s else s.closeSteps c

/-- Step 4 of R168: the wait list emptied, the channels closed and their blocks returned (R69, R76, R139), the staged
slots, conditions and counters of every channel cleared, the load buffer emptied (R10), the signature reset (R181), and
the port's conditions and counters cleared (R178). -/
def State.restartBlocks (s : State) : State :=
  let s1 := allChans.foldl State.restartClose (s.withWait [])
  { s1 with
    channels := s1.channels.map fun ch => { ch with staged := .empty, conditions := .clear, counters := .zero }
    law := { s1.law with buffer := .empty }
    sig := .reset
    port := s1.port.conditionsRead.countersRead }

/-- RESTART (R168): its DONE is queued before the other blocks act. -/
def restartRequest (tag : Byte) (s : State) : State :=
  if Config.replyLimit ≤ s.link.replies.length then s.onPort Port.countOverrun
  else (s.restartLink.pushReply tag 0x02#8 (.done [])).restartBlocks

/-! ## Request frames -/

/-- The owner of a request and its fields (sections 10.5 and R164): KIND first, then the body's length. RESTART is not
among them; it queues its own reply. -/
def requestOf (kind : Byte) (body : List Byte) : Request :=
  match catalogueLength kind with
  | none => refuse .kind
  | some n =>
    if body.length ≠ n then refuse .format
    else
      match kind.toNat with
      | 0x01 => identRequest
      | 0x08 => portSetRequest (byteAt body 0) (byteAt body 1) (byteAt body 2)
      | 0x09 => portHoldRequest
      | 0x0A => portRunRequest
      | 0x0B => mapSetRequest (byteAt body 0) (byteAt body 1) (byteAt body 2)
      | 0x0C => mapClearRequest (byteAt body 0) (byteAt body 1)
      | 0x10 => lawLoadRequest (byteAt body 0) (byteAt body 1) (halves 64 (body.drop 2))
      | 0x11 => lawCommitRequest (byteAt body 0)
      | 0x18 => profileRequest (byteAt body 0) (body.drop 1)
      | 0x19 => openRequest (byteAt body 0)
      | 0x1A => applyRequest (byteAt body 0) (byteAt body 1)
      | 0x1B => closeRequest (byteAt body 0)
      | 0x1C => retrainRequest (byteAt body 0)
      | 0x1D => frozenRequest (byteAt body 0) true
      | 0x1E => frozenRequest (byteAt body 0) false
      | 0x20 => readStatusRequest (byteAt body 0)
      | 0x21 => readConditionsRequest (byteAt body 0)
      | 0x22 => readCountersRequest (byteAt body 0)
      | 0x23 => readTapsRequest (byteAt body 0) (byteAt body 1)
      | 0x24 => readPoolRequest (byteAt body 0)
      | 0x25 => readPortRequest
      | 0x28 => noticeMaskRequest (byteAt body 0) (byteAt body 1)
      | 0x29 => noticeEnableRequest (byteAt body 0)
      | 0x30 => sigStartRequest (byteAt body 0) (byteAt body 1) (halfAt body 2)
      | 0x31 => sigReadRequest
      | _ => refuse .kind

/-- The arrival of a checked request frame (R163, R164). -/
def requestArrival (tag kind : Byte) (body : List Byte) (s : State) : State :=
  if kind = 0x02#8 ∧ body = [] then restartRequest tag s else serve tag kind (requestOf kind body) s

/-! ## The receive framer -/

/-- The gap timer runs while the framer is in LENGTH or COLLECT (R162). -/
def Framer.gapTimerRuns : Framer → Bool
  | .hunt => false
  | .length => true
  | .collect _ _ => true

/-- The framer replaced. -/
def State.withFramer (s : State) (f : Framer) : State := s.onLink fun l => { l with framer := f }

/-- A frame dropped (R161): counted, no reply, back to HUNT. -/
def State.dropFrame (s : State) : State := (s.onPort Port.countBadFrame).withFramer .hunt

/-- The last CRC byte taken (R160, R161): `bytes` are TAG, KIND, body and CRC, in order. -/
def State.checkFrame (s : State) (len : Nat) (bytes : List Byte) : State :=
  let covered := bytes.take len
  if crc (byteOf len :: covered) = halfAt bytes len then
    requestArrival (byteAt bytes 0) (byteAt bytes 1) (covered.drop 2) (s.withFramer .hunt)
  else s.dropFrame

/-- A received byte acts on the framer (R161). -/
def receiveByte (b : Byte) (framingError : Bool) (s : State) : State :=
  match s.link.framer with
  | .hunt => if b = 0xC5#8 ∧ ¬framingError then s.withFramer .length else s
  | .length =>
    if framingError then s.dropFrame
    else if 2 ≤ b.toNat ∧ b.toNat ≤ 200 then s.withFramer (.collect b.toNat [])
    else s.dropFrame
  | .collect len stored =>
    if framingError then s.dropFrame
    else if stored.length + 1 < len + 2 then s.withFramer (.collect len (stored ++ [b]))
    else s.checkFrame len (stored ++ [b])

/-! ## Meanings -/

/-- The line rate of the straps (section 7 of the general description). -/
def rateOf (br1 br0 : Bool) : LineRate :=
  match br1, br0 with
  | false, false => .baud9600
  | false, true => .baud19200
  | true, false => .baud57600
  | true, true => .baud115200

/-- POWER_ON_RESET (R138 and the power-on column of every chapter). The model's queue is no state of the part and
stands (log 15). -/
def execPowerOnReset (br1 br0 : Bool) (s : State) : Host.Outcome State Fault Refusal :=
  .next { State.powerOn (rateOf br1 br0) with pending := s.pending }

/-- RECEIVED_BYTE. -/
def execReceivedByte (b : Byte) (framingError : Bool) (s : State) : Host.Outcome State Fault Refusal :=
  .next (receiveByte b framingError s)

/-- GAP_TIMEOUT (R162): in HUNT the timer does not run, and nothing expires. -/
def execGapTimeout (s : State) : Host.Outcome State Fault Refusal :=
  .next (if s.link.framer.gapTimerRuns then (s.onPort Port.countGapTimeout).withFramer .hunt else s)

/-- UNKNOWN_REQUEST: a frame arrives whose KIND is no request code (R164). -/
def execUnknownRequest (tag kind : Byte) (body : List Byte) (s : State) : Host.Outcome State Fault Refusal :=
  .next (requestArrival tag kind body s)

/-- IDENT. -/
def execIdent (tag : Byte) (s : State) : Host.Outcome State Fault Refusal :=
  .next (serve tag 0x01#8 identRequest s)

/-- RESTART. -/
def execRestart (tag : Byte) (s : State) : Host.Outcome State Fault Refusal := .next (restartRequest tag s)

/-- NOTICE-MASK. -/
def execNoticeMask (tag source mask : Byte) (s : State) : Host.Outcome State Fault Refusal :=
  .next (serve tag 0x28#8 (noticeMaskRequest source mask) s)

/-- NOTICE-ENABLE. -/
def execNoticeEnable (tag enable : Byte) (s : State) : Host.Outcome State Fault Refusal :=
  .next (serve tag 0x29#8 (noticeEnableRequest enable) s)

/-- FRAME_SENT (R169): the transmitter is idle, and the arbiter chooses the next frame. With no frame on TXD there is
no end of one. -/
def execFrameSent (s : State) : Host.Outcome State Fault Refusal :=
  .next (if s.link.tx = .idle then s else (s.onLink fun l => { l with tx := .idle }).arbitrate)

end Sys2Proof.Machine
end

