-- ==== Sys2Proof/Machine/PortEvents.lean ====
section
/-!
DEFINITION. The events of the highways and the bit clock: frames and slots (R143, R153), frame pulses (R147 to R150), the
clock monitor (R151) and the signature's fold (R180). Each puts the position count at its own bit clock (log 8).
-/

namespace Sys2Proof.Machine

/-! ## Frames and slots -/

/-- FRAME_BEGIN (R143, R155): with framing running and no frame in progress, the bit clocks before the offset pass, and on
the one whose count equals the offset the frame begins and takes the maps as they stand. In SLAVE with the count past
the offset there is no such bit clock before the next pulse position, so no frame begins and nothing changes. -/
def execFrameBegin (s : State) : Host.Outcome State Fault Refusal :=
  if s.port.framing ∧ s.port.frame = none ∧ s.port.countReaches s.port.offset then
    .next (s.onPort fun p =>
      { p with
        position := p.offset
        frame := some
          { lineMap := p.lineMap, exchangeMap := p.exchangeMap, arrived := [], lineBegun := 0, exchangeBegun := 0 } })
  else .next s

/-- The value after a code is folded (R180). -/
def foldCode (value : Nat) (code : Byte) : Nat :=
  ((if 65536 ≤ 2 * value then 2 * value - 65535 else 2 * value) + code.toNat) % 65536

/-- A signature run whose remaining count is 0 is DONE and raises SIGNATURE (R180). -/
def State.completeSignature (s : State) : State :=
  if s.sig.state = .running ∧ s.sig.remaining = 0 then
    (s.onSig fun g => { g with state := .done }).portNotice .signature
  else s

/-- The signature unit sees a slot sent: a fresh code of the watched stream of the watched channel is folded (R180). -/
def State.watchSlot (s : State) (c : Chan) (stream : SigStream) (fresh : Bool) (code : Byte) : State :=
  if s.sig.state = .running ∧ s.sig.channel = c ∧ s.sig.stream = stream ∧ fresh then
    (s.onSig fun g =>
      { g with value := foldCode g.value code, remaining := g.remaining - 1 }).completeSignature
  else s

/-- The stream that leaves on a highway's OUT side: Sout on the line highway, Rout on the exchange highway (R153). -/
def outStream : Highway → SigStream
  | .line => .sout
  | .exchange => .rout

/-- A channel's last output code of a stream. -/
def Channel.lastCode (ch : Channel) : SigStream → Byte
  | .sout => ch.lastSout
  | .rout => ch.lastRout

/-- A channel's fresh mark of a stream. -/
def Channel.freshMark (ch : Channel) : SigStream → Bool
  | .sout => ch.freshSout
  | .rout => ch.freshRout

/-- A slot sent clears the stream's fresh mark (R18). -/
def Channel.markSent (ch : Channel) : SigStream → Channel
  | .sout => { ch with freshSout := false }
  | .rout => { ch with freshRout := false }

/-- A frame's map of a highway. -/
def Frame.mapOf (f : Frame) : Highway → SlotMap
  | .line => f.lineMap
  | .exchange => f.exchangeMap

/-- A slot of a frame begins on a highway. -/
def Frame.beginSlot (f : Frame) (h : Highway) (n : Slot) : Frame :=
  match h with
  | .line => { f with lineBegun := n.val + 1 }
  | .exchange => { f with exchangeBegun := n.val + 1 }

/-- The OUT slot begun on a highway carries a code, or is not driven. -/
def Port.drive (p : Port) (h : Highway) (code : Option Byte) : Port :=
  match h with
  | .line => { p with lout := code }
  | .exchange => { p with xout := code }

/-- The slot `n` of a highway begins in frame `f`: the count is at its first bit, and the pin drives what it carries bit by
bit as the count goes on (`Port.outPin`). -/
def Port.beginSlot (p : Port) (f : Frame) (h : Highway) (n : Slot) (code : Option Byte) : Port :=
  { p with position := slotPosition p.offset n.val 0, frame := some (f.beginSlot h n) }.drive h code

/-- SLOT_SENT (R18, R153): an assigned slot carries the stream's last output code and clears its fresh mark, and the
signature unit sees it; an unassigned slot is not driven. A slot begins once in a frame. DESIGN CHOICE (log 21): a slot
counts as sent from its first bit, so that one cut before its last bit is not sent again; the rules do not say. -/
def execSlotSent (h : Highway) (n : Slot) (s : State) : Host.Outcome State Fault Refusal :=
  match s.port.framing, s.port.frame with
  | true, some f =>
    if n.val < f.begun h then .next s
    else
      match (f.mapOf h)[n.val] with
      | none => .next (s.onPort fun p => p.beginSlot f h n none)
      | some c =>
        let st := outStream h
        let code := (s.chan c).lastCode st
        .next (((s.onPort fun p => p.beginSlot f h n (some code)).onChan c fun ch => ch.markSent st).watchSlot
          c st ((s.chan c).freshMark st) code)
  | _, _ => .next s

/-- SIGNATURE_DONE (R180). -/
def execSignatureDone (s : State) : Host.Outcome State Fault Refusal := .next s.completeSignature

/-- FRAME_COMPLETE (R153): the last bit of slot 31 of the frame in progress is taken. DESIGN CHOICE (log 24): the rules give
no order of this and of an arrival whose later slot is 31, which that same bit ends (R152). The command taken first acts
first: after this one the frame delivers no arrival. -/
def execFrameComplete (s : State) : Host.Outcome State Fault Refusal :=
  if s.port.framing ∧ s.port.frame.isSome then
    .next (s.onPort fun p =>
      { p with
        position := slotPosition p.offset 31 7
        frame := none
        complete := p.complete + 1#32
        lout := none
        xout := none })
  else .next s

/-! ## Frame pulses -/

/-- MASTER_FRAME_PULSE (R147): the bit clocks up to the count's return to 0 pass; the count is 0, and FP is high for that
bit clock (`Port.fpPin`). -/
def execMasterFramePulse (s : State) : Host.Outcome State Fault Refusal :=
  if s.port.clocked ∧ s.port.mode = .master then .next (s.onPort fun p => { p with position := 0x00#8 })
  else .next s

/-- The port is aligned by a pulse: the position count and the missed-pulse count are 0, the awaiting-pulse mark is
clear. -/
def Port.align (p : Port) : Port := { p with position := 0x00#8, missed := 0, awaiting := false }

/-- A pulse that regains sync (R150). -/
def State.regain (s : State) (position : Byte) : State :=
  (s.onPort fun p =>
    { (if position = 0x00#8 then p else p.cutFrame).align with sync := .locked }).portNotice .sync

/-- FRAME_PULSE (R146, R148, R150): an external pulse in SLAVE with the port clocked. `position` 0 is the expected
position. -/
def execFramePulse (position : Byte) (s : State) : Host.Outcome State Fault Refusal :=
  if s.port.clocked ∧ s.port.mode = .slave then
    if s.port.sync = .lost then .next (s.regain position)
    else if s.port.awaiting ∨ position = 0x00#8 then .next (s.onPort Port.align)
    else .next (s.onPort fun p => p.cutFrame.align.recordSlip)
  else .next s

/-- The end of a run of missed pulses (R149): with the sync state IN sync is lost; with it LOST already, a port that
awaited its first pulse begins flywheel framing and nothing is counted. -/
def State.endMissedRun (s : State) : State :=
  if s.port.missed = 4 then
    if s.port.sync = .locked then s.loseSync else s.onPort fun p => { p with awaiting := false }
  else s

/-- MISSED_PULSE (R148, R149): an expected position passes with no pulse in SLAVE. The count returns to 0 on its own, and
the missed-pulse count advances, to 4 at most. -/
def execMissedPulse (s : State) : Host.Outcome State Fault Refusal :=
  if s.port.clocked ∧ s.port.mode = .slave then
    .next ((s.onPort fun p =>
      { p with position := 0x00#8, missed := min 4 (p.missed + 1) }).endMissedRun)
  else .next s

/-- SYNC_LOSS (R149): in SLAVE, the missed-pulse count at 4 while the sync state is IN. -/
def execSyncLoss (s : State) : Host.Outcome State Fault Refusal :=
  if s.port.clocked ∧ s.port.mode = .slave ∧ s.port.sync = .locked ∧ s.port.missed = 4 then .next s.loseSync
  else .next s

/-! ## The clock monitor -/

/-- CLOCK_LOSS (R151): 8 µs without an edge. -/
def execClockLoss (s : State) : Host.Outcome State Fault Refusal :=
  if s.port.clock = .ok then
    let s1 := (s.onPort fun p => { p.latchClockLow with clock := .lost }).portNotice .clock
    .next (if s.port.runState = .run then s1.stopFraming else s1)
  else .next s

/-- CLOCK_RETURN (R151): the first edge after a loss. -/
def execClockReturn (s : State) : Host.Outcome State Fault Refusal :=
  if s.port.clock = .lost then
    let s1 := (s.onPort fun p => { p with clock := .ok }).portNotice .clock
    .next (if s.port.runState = .run then s1.onPort Port.startFraming else s1)
  else .next s

end Sys2Proof.Machine
end

