-- ==== Sys2Proof/Machine/Events.lean ====
section
/-!
DEFINITION. The events found inside a sample, each as one operation with its trigger: SAMPLE_ARRIVAL calls them at
their points of R15, and the event rows of the table call them on their own (log 2).
-/

namespace Sys2Proof.Machine

/-! ## Talk detector -/

/-- The DT hangover count at 0 clears the DT flag (R79). -/
def Channel.endHangover (ch : Channel) : Channel :=
  if ch.dtFlag && ch.dtHangover == 0 then { ch with dtFlag := false } else ch

/-! ## Placement: evaluation at dwell end -/

/-- The windows weighed: those whose blocks took part in the sample; the FOUND ones, or where the list has no FOUND
window, every placed one (R50). -/
def Channel.weighedWindows (ch : Channel) (tookPart : List BlockNo) : List Window :=
  (if ch.foundWindows.isEmpty then ch.windows else ch.foundWindows).filter fun w =>
    w.block.any fun b => tookPart.contains b

/-- An add (R52): the scout's block becomes a FOUND window where it stands, and a new scout block is taken, or the
channel joins the wait list, latches STARVED and raises STARVED. -/
def State.addScout (s : State) (c : Chan) (k : Scout) : State :=
  let s1 := s.onChan c fun ch =>
    { ch with
      windows := insertWindow { pos := k.pos, kind := .found, block := some k.block } ch.windows
      scout := none }
  match s1.freeBlocks with
  | f :: _ => (s1.handover f c).onChan c fun ch => ch.placeScoutAfter k.pos f
  | [] => ((s1.joinScout c).onChan c Channel.latchStarved).chanNotice c .starved

/-- A swap (R53): the scout's block becomes a FOUND window, and the block `b` of the weakest FOUND window `w`, zeroed,
becomes the scout's. -/
def State.swapScout (s : State) (c : Chan) (k : Scout) (w : Window) (b : BlockNo) : State :=
  (s.zeroBlock b).onChan c fun ch =>
    ({ ch with
        windows := insertWindow { pos := k.pos, kind := .found, block := some k.block }
          (ch.windows.filter fun v => v.pos != w.pos) }.placeScoutAfter k.pos b).countScoutSwap

/-- A discard (R54): the scout's block is zeroed and the scout moves on. -/
def State.discardScout (s : State) (c : Chan) (k : Scout) : State :=
  (s.zeroBlock k.block).onChan c fun ch => ch.placeScoutAfter k.pos k.block

/-- Evaluation of the scout `k` (R50, R51) with quota `quota`, among the blocks that took part in the sample. -/
def State.evaluate (s : State) (c : Chan) (quota : Nat) (tookPart : List BlockNo) (k : Scout) : State :=
  let ch := s.chan c
  let weak := weakest s.windowEnergy (ch.weighedWindows tookPart)
  let least := match weak with
    | some w => s.windowEnergy w
    | none => 0
  if 2 * least < energy (s.block k.block).taps then
    if ch.quotaCount < quota then s.addScout c k
    else
      match weak with
      | some w =>
        match w.kind, w.block with
        | .found, some b => s.swapScout c k w b
        | _, _ => s.discardScout c k
      | none => s.discardScout c k
  else s.discardScout c k

/-- The dwell end (R48, R50): a scout whose evaluation the sample's dwell advance has made due is evaluated among the
blocks that took part in that sample. A count that merely stands at or above the dwell length waits for the next
adapting sample (R48, R49). -/
def State.endDwell (s : State) (c : Chan) (quota : Nat) : State :=
  match (s.chan c).scout with
  | some k =>
    match k.due with
    | some tookPart => s.evaluate c quota tookPart k
    | none => s
  | none => s

/-! ## Adaptation control: the limits of the runs -/

/-- Reaching TRACK (R88): a convergence run of 2048 in ACQUIRE. -/
def State.reachTrack (s : State) (c : Chan) : State :=
  (s.onChan c fun ch => { ch with service := .track, convRun := 0 }).chanNotice c .mode

/-- A path change (R89): a change run of 512 in TRACK. -/
def State.pathChange (s : State) (c : Chan) : State :=
  (s.onChan c fun ch => { ch with service := .acquire, changeRun := 0 }.countPathChange).chanNotice c .mode

/-- The scout's dwell count set to 0 (R60). -/
def Channel.restartDwell (ch : Channel) : Channel :=
  { ch with scout := ch.scout.map fun k => { k with dwell := 0, due := none } }

/-- A divergence (R60, R90). -/
def State.diverge (s : State) (c : Chan) : State :=
  let s1 := (s.zeroHeldTaps c).onChan c fun ch =>
    { ch.restartDwell with service := .acquire, convRun := 0, changeRun := 0, divRun := 0
      }.latchDiverged.countDivergence
  let s2 := s1.chanNotice c .diverged
  if (s.chan c).service = .track then s2.chanNotice c .mode else s2

/-- The divergence run has reached its limit. -/
def Channel.diverging (ch : Channel) : Bool := decide (1024 ≤ ch.divRun)

/-- In ACQUIRE, the convergence run has reached its limit. -/
def Channel.converged (ch : Channel) : Bool := ch.service == .acquire && decide (2048 ≤ ch.convRun)

/-- In TRACK, the change run has reached its limit. -/
def Channel.pathMoved (ch : Channel) : Bool := ch.service == .track && decide (512 ≤ ch.changeRun)

/-- The sample settled in the order of R91. -/
def State.settleRuns (s : State) (c : Chan) : State :=
  if (s.chan c).diverging then s.diverge c
  else if (s.chan c).converged then s.reachTrack c
  else if (s.chan c).pathMoved then s.pathChange c
  else s

/-! ## Suppressor -/

/-- The release on a sample: engaged with the hangover run down to 0 (R100, its fifth row). -/
def Channel.releaseSuppressor (ch : Channel) : Channel :=
  if ch.inSample && ch.engaged && ch.nlpHangover == 0 then { ch with engaged := false } else ch

/-- The noise floor taken on the sample that ends a run of 128 IDLE samples (R101). -/
def Channel.updateNoiseFloor (ch : Channel) (p : Profile) : Channel :=
  if ch.inSample && ch.talk == .idle && decide (0 < ch.quietRun) && ch.quietRun % 128 == 0 then
    { ch with noiseFloor := min (level ch.sumS) (floorOf p.floor - 1) }
  else ch

/-! ## Tone monitor -/

/-- The exit to NORMAL on the sample whose quiet run becomes 2000 (R110). -/
def State.returnToNormal (s : State) (c : Chan) : State :=
  if (s.chan c).inSample ∧ (s.chan c).quietRun = 2000 ∧ (s.chan c).toneMode ≠ .normal then
    (s.onChan c fun ch => { ch with toneMode := .normal }).chanNotice c .mode
  else s

/-- The tone mode a detection event asks for (the table of R107). -/
def toneModeAfter (policy : TonePolicy) (mode : ToneMode) (reversal : Bool) : ToneMode :=
  match policy, mode, reversal with
  | .nlpOnly, .normal, _ => .nlpOff
  | .full, .normal, true => .bypass
  | .full, .normal, false => .nlpOff
  | .full, .nlpOff, true => .bypass
  | _, m, _ => m

/-- A stream's tone run has reached 3200 (R106). -/
def ToneRun.complete (t : ToneRun) : Bool := decide (3200 ≤ t.count)

/-- A stream that has reported starts afresh (R106). -/
def ToneRun.restart (t : ToneRun) : ToneRun := if t.complete then .zero else t

/-- Whether the detection event carries "with reversal" (R106). -/
def Channel.toneReversal (ch : Channel) : Bool :=
  (ch.toneS.complete && ch.toneS.reversal) || (ch.toneX.complete && ch.toneX.reversal)

/-- A tone detection event, where a stream's run has reached 3200 (R106, R107). -/
def State.detectTone (s : State) (c : Chan) (p : Profile) : State :=
  let ch := s.chan c
  if ch.toneS.complete || ch.toneX.complete then
    let s1 := s.onChan c fun ch => { ch with toneS := ch.toneS.restart, toneX := ch.toneX.restart }
    let mode := toneModeAfter p.tonePolicy ch.toneMode ch.toneReversal
    if mode = ch.toneMode then s1
    else
      ((s1.onChan c fun ch => { ch with toneMode := mode }.latchTone.countToneBypass).chanNotice c .tone).chanNotice
        c .mode
  else s

/-! ## Level controller -/

/-- A step of g by −1 that is due: made within the limits, held otherwise (R119). -/
def Channel.stepDown (ch : Channel) (p : Profile) : Channel :=
  if p.gmin + 1 ≤ ch.gain ∧ ch.gain ≤ p.gmax + 1 then { ch with gain := ch.gain - 1 }
  else ch.latchClipped.countClip

/-- A step of g by +1 that is due: made within the limits, held otherwise (R119). -/
def Channel.stepUp (ch : Channel) (p : Profile) : Channel :=
  if ch.gain + 1 ≤ p.gmax ∧ p.gmin ≤ ch.gain + 1 then { ch with gain := ch.gain + 1 }
  else ch.latchClipped.countClip

/-- The predicted send level (R118). -/
def Channel.predicted (ch : Channel) : Nat := level ch.sumV * gainOf ch.gain / 4096

/-- The action at a period end (R118). -/
def Channel.alcAction (ch : Channel) (p : Profile) : Channel :=
  if p.target * 19 < ch.predicted * 16 then { ch with releaseCount := 0 }.stepDown p
  else if ch.predicted * 32 < p.target * 27 then
    if ch.releaseCount + 1 < 4 then { ch with releaseCount := ch.releaseCount + 1 }
    else { ch with releaseCount := 0 }.stepUp p
  else { ch with releaseCount := 0 }

/-- The end of an ALC period of 128 counted samples (R117, R118). -/
def Channel.endPeriod (ch : Channel) (p : Profile) : Channel :=
  if 128 ≤ ch.periodCount then { ch with periodCount := 0 }.alcAction p else ch

/-! ## Life cycle -/

/-- The end of OPENING, where the opening count has reached B + 1024 (R131). -/
def State.endOpening (s : State) (c : Chan) (p : Profile) : State :=
  if (s.chan c).life = .opening ∧ bulkOffset p + 1024 ≤ (s.chan c).openingCount then
    (s.onChan c fun ch => { ch with life := .active }).chanNotice c .mode
  else s

/-- The quiet point of a pending apply (R134): within the work of a sample on which the quiet run stands at 400 or more,
and so never between two samples, whatever the quiet run then is (R122). -/
def State.quietPoint (s : State) (c : Chan) : State :=
  match (s.chan c).staged with
  | .pending q =>
    if (s.chan c).inSample ∧ (s.chan c).life = .active ∧ 400 ≤ (s.chan c).quietRun then s.applyTakesEffect c q else s
  | _ => s

end Sys2Proof.Machine
end

