-- ==== Sys2Proof/Machine/Sample.lean ====
section
/-!
DEFINITION. The work of one sample: the receive path (R13, R14), the ten steps of the send path and the steering work
in the order of R15, the transparent arrival of a CLOSED channel (R132), and the arrival itself (R152).
-/

namespace Sys2Proof.Machine

/-- What is fixed for one sample of an open channel: the profile and the context as they stood at its start, and the
values the codes give before the history moves (R4, R13). -/
structure Arrival where
  profile : Profile
  start : Channel
  rout : Byte
  /-- r, the expansion of the Rin code. -/
  r : Int
  /-- The reference sample. -/
  x : Int
  /-- s, the expansion of the Sin code. -/
  send : Int
  deriving DecidableEq, Repr

/-- The receive path of R13 and the expansion of step 1 of R15. -/
def State.receive (s : State) (c : Chan) (p : Profile) (rin sin : Byte) : Arrival :=
  let r := expand (s.law.table p.lineLaw) rin
  let rout := compress (s.law.table p.exchangeLaw) (scale r (gainOf (s.chan c).padIndex))
  { profile := p, start := s.chan c, rout := rout, r := r
    x := expand (s.law.table p.exchangeLaw) rout
    send := expand (s.law.table p.exchangeLaw) sin }

/-! ## Steps 1 to 3 -/

/-- The push into the history ring (R14, R21), and step 2: the leaky sums of x and s (R16). -/
def Channel.hear (ch : Channel) (a : Arrival) : Channel :=
  { ch with
    ring := (a.x :: ch.ring).take 2048
    recentS := (a.send :: ch.recentS).take 32
    sumX := track ch.sumX a.x
    sumS := track ch.sumS a.send }

/-- The double-talk test (R78). -/
def Channel.qualifies (ch : Channel) (a : Arrival) : Bool :=
  decide (floorOf a.profile.floor ≤ level ch.sumS) &&
    decide (spanPeak a.profile ch.ring < a.send.natAbs * lossDivisor a.profile.echoLoss)

/-- The DT flag and the hangover moved (R79). -/
def Channel.moveDt (ch : Channel) (qualifies : Bool) : Channel :=
  if qualifies then
    if ch.dtFlag then { ch with dtHangover := 240 }
    else { ch with dtFlag := true, dtHangover := 240 }.countDtOnset
  else if ch.dtFlag then { ch with dtHangover := ch.dtHangover - 1 }.endHangover
  else ch

/-- The talk state of the sample (R77, R80). -/
def Channel.talkState (ch : Channel) (p : Profile) : Talk :=
  if ch.dtFlag then .double
  else if floorOf p.floor ≤ level ch.sumX then .far
  else if floorOf p.floor ≤ level ch.sumS then .near
  else .idle

/-- The talk state set and the quiet run moved (R80, R81). -/
def Channel.setTalk (ch : Channel) (t : Talk) : Channel :=
  { ch with talk := t, quietRun := if t = .idle then min 65535 (ch.quietRun + 1) else 0 }

/-- Overload is judged on r and s (R83). -/
def Arrival.overloaded (a : Arrival) : Bool := decide (32000 ≤ a.r.natAbs) || decide (32000 ≤ a.send.natAbs)

/-- An overloaded sample latches OVERLOAD (R83). -/
def Channel.noteOverload (ch : Channel) (a : Arrival) : Channel :=
  if a.overloaded then ch.latchOverload else ch

/-- A stream's tone run moved by its judgement (R106). -/
def ToneRun.move (t : ToneRun) (j : ToneJudgement) : ToneRun :=
  if j.inBand then { count := t.count + 1, reversal := t.reversal || j.reversal } else .zero

/-- The judgement of a stream of a channel: out of band until 32 samples have been taken since OPEN (R105). -/
def Channel.judge (ch : Channel) (recent : List Int) : ToneJudgement :=
  if 32 ≤ ch.recentS.length then judgeTone recent else { inBand := false, reversal := false }

/-- Both tone runs moved (R106). The latest values of x are the youngest of the ring (R14). -/
def Channel.moveTones (ch : Channel) : Channel :=
  { ch with
    toneS := ch.toneS.move (ch.judge ch.recentS)
    toneX := ch.toneX.move (ch.judge (ch.ring.take 32)) }

/-- Step 3 within the channel: the talk detector, then the tone measurement. -/
def Channel.classify (ch : Channel) (a : Arrival) : Channel :=
  let moved := ch.moveDt (ch.qualifies a)
  ((moved.setTalk (moved.talkState a.profile)).noteOverload a).moveTones

/-- Steps 1 to 3 of R15; the exit to NORMAL comes before a detection (R111). -/
def State.stepsOneToThree (s : State) (c : Chan) (a : Arrival) : State :=
  ((s.onChan c fun ch => (ch.hear a).classify a).returnToNormal c).detectTone c a.profile

/-! ## Steps 4 and 5 -/

/-- The blocks that take part in the sample: the covered ones whose check passes, with their positions (R25, R26). -/
def State.takingPart (s : State) (c : Chan) : List (Pos × BlockNo) :=
  (s.chan c).covered.filter fun k => !(s.block k.2).altered

/-- ŷ (R27). -/
def State.echoEstimate (s : State) (c : Chan) (p : Profile) : Int :=
  estimateOf (((s.takingPart c).map fun k =>
    dot (s.block k.2).taps (pairedValues p (s.chan c).ring k.1)).sum)

/-- P (R30). -/
def State.power (s : State) (c : Chan) (p : Profile) : Nat :=
  ((s.takingPart c).map fun k => sumSquares (pairedValues p (s.chan c).ring k.1)).sum

/-- The residual (R28, R29). -/
def residual (a : Arrival) (estimate : Int) : Int :=
  if a.start.toneMode = .bypass then a.send else saturate (a.send - estimate)

/-- The leaky sum of e takes the sample (R16). -/
def Channel.trackResidual (ch : Channel) (e : Int) : Channel := { ch with sumE := track ch.sumE e }

/-! ## Step 6 -/

/-- The adaptation permission (R84). -/
def Channel.permits (ch : Channel) (a : Arrival) : Bool :=
  a.start.life == .active && !a.start.frozen && a.start.toneMode != .bypass && ch.talk == .far && !a.overloaded

/-- The update of one block (R31). -/
def State.updateBlock (s : State) (ring : List Int) (p : Profile) (e : Int) (power : Nat) (k : Pos × BlockNo) : State :=
  s.writeTaps k.2 (List.zipWith (movedTap p.step e power) (s.block k.2).taps (pairedValues p ring k.1))

/-- The dwell count advances where the scout's block took part (R47); at or above the dwell length of `mode`, the
service mode at the start of the sample, the scout's evaluation is due (R48). -/
def Channel.advanceDwell (ch : Channel) (mode : Service) (tookPart : List BlockNo) : Channel :=
  match ch.scout with
  | some k =>
    if tookPart.contains k.block then
      { ch with
        scout := some
          { k with
            dwell := k.dwell + 1
            due := if dwellLength mode ≤ k.dwell + 1 then some tookPart else none } }
    else ch
  | none => ch

/-- A permitted sample: the taps updated, the dwell advanced and, at dwell end, the scout evaluated (R31, R47, R48). -/
def State.adapt (s : State) (c : Chan) (a : Arrival) (cover : List (Pos × BlockNo)) (e : Int) (power : Nat) : State :=
  let s1 := cover.foldl (fun t k => t.updateBlock (s.chan c).ring a.profile e power k) s
  (s1.onChan c fun ch => ch.advanceDwell a.start.service (cover.map Prod.snd)).endDwell c a.profile.quota

/-- A sample is counted by the service-mode runs (R87). -/
def Channel.counted (ch : Channel) (a : Arrival) : Bool :=
  a.start.life == .active && ch.talk == .far && !a.overloaded && a.start.toneMode != .bypass

/-- One run counter of those that count in the current mode (R87). -/
def moveRun (run : Nat) (holds : Bool) : Nat := if holds then run + 1 else 0

/-- The runs moved on a counted sample (R87). -/
def Channel.moveRuns (ch : Channel) : Channel :=
  let diverging := moveRun ch.divRun (decide (2 * level ch.sumS < level ch.sumE))
  match ch.service with
  | .acquire =>
    { ch with convRun := moveRun ch.convRun (decide (level ch.sumE * 4 ≤ level ch.sumS)), divRun := diverging }
  | .track =>
    { ch with changeRun := moveRun ch.changeRun (decide (level ch.sumS < level ch.sumE * 2)), divRun := diverging }

/-- Step 6 of R15: adaptation where it is permitted, then the run counting. -/
def State.stepSix (s : State) (c : Chan) (a : Arrival) (cover : List (Pos × BlockNo)) (e : Int) (power : Nat) : State :=
  let s1 := if (s.chan c).permits a then s.adapt c a cover e power else s
  if (s.chan c).counted a then (s1.onChan c Channel.moveRuns).settleRuns c else s1

/-! ## Steps 7 and 8 -/

/-- The sample meets the engagement conditions (R100). -/
def Channel.meetsEngagement (ch : Channel) (a : Arrival) : Bool :=
  a.start.service == .track && a.start.toneMode == .normal && a.profile.nlpMode != .pass && ch.talk == .far &&
    decide (level ch.sumE * marginDivisor a.profile.nlpMargin ≤ level ch.sumX)

/-- The engaged flag and the hangover moved: the first row of R100 that fits. -/
def Channel.moveEngaged (ch : Channel) (a : Arrival) : Channel :=
  if a.start.service ≠ .track ∨ a.start.toneMode ≠ .normal ∨ a.profile.nlpMode = .pass then
    { ch with engaged := false, nlpHangover := 0 }
  else if ch.talk = .near ∨ ch.talk = .double then { ch with engaged := false, nlpHangover := 0 }
  else if ch.meetsEngagement a then { ch with engaged := true, nlpHangover := 64 }
  else if ch.engaged = true ∧ 0 < ch.nlpHangover then { ch with nlpHangover := ch.nlpHangover - 1 }
  else ch.releaseSuppressor

/-- The suppressor output v, with the flag and the floor as this step has moved them and the register before its
advance (R99, R101, R103). -/
def Channel.suppressed (ch : Channel) (p : Profile) (e : Int) : Int :=
  if ch.engaged then
    match p.nlpMode with
    | .pass => e
    | .soft => e.tdiv 4
    | .noise => comfortNoise ch.noiseReg ch.noiseFloor
    | .silent => 0
  else e

/-- The generator advanced (R102), and step 8: the leaky sum of v (R16). -/
def Channel.trackOutput (ch : Channel) (v : Int) : Channel :=
  { ch with noiseReg := nextNoise ch.noiseReg, sumV := track ch.sumV v }

/-! ## Steps 9 and 10 -/

/-- The applied gain index (R115). -/
def Arrival.appliedIndex (a : Arrival) : Nat := if a.start.toneMode = .bypass then 24 else a.start.gain

/-- A sample counts into the ALC period (R117). -/
def Channel.countsForAlc (ch : Channel) (a : Arrival) : Bool :=
  a.profile.alcOn && a.start.life == .active && a.start.toneMode == .normal &&
    (ch.talk == .near || ch.talk == .double) && !ch.engaged

/-- ALC period counting (R117, R118). -/
def Channel.countPeriod (ch : Channel) (a : Arrival) : Channel :=
  if ch.countsForAlc a then { ch with periodCount := ch.periodCount + 1 }.endPeriod a.profile else ch

/-- The two output codes handed to the port (R18). -/
def Channel.emit (ch : Channel) (rout sout : Byte) : Channel :=
  { ch with lastRout := rout, lastSout := sout, freshRout := true, freshSout := true }

/-- Steps 7 to 10 of R15 for the residual `e`. -/
def State.stepsSevenToTen (s : State) (c : Chan) (a : Arrival) (e : Int) : State :=
  let s1 := s.onChan c fun ch => (ch.moveEngaged a).updateNoiseFloor a.profile
  let v := (s1.chan c).suppressed a.profile e
  let w := scale v (gainOf a.appliedIndex)
  s1.onChan c fun ch =>
    ((ch.trackOutput v).countPeriod a).emit a.rout (compress (s.law.table a.profile.lineLaw) w)

/-! ## The end of the sample's work -/

/-- The opening count advances on an OPENING sample (R131). -/
def Channel.countOpening (ch : Channel) (a : Arrival) : Channel :=
  if a.start.life = .opening then { ch with openingCount := ch.openingCount + 1 } else ch

/-- After the Sout code is formed: the end of OPENING (R131) or, on a sample of an ACTIVE channel, the quiet point
(R134). -/
def State.endSample (s : State) (c : Chan) (a : Arrival) : State :=
  let s1 := s.onChan c fun ch => ch.countOpening a
  if a.start.life = .opening then s1.endOpening c a.profile else s1.quietPoint c

/-- The work of a sample begins, and ends: the mark that ties to it the events R100, R101, R110 and R134 judge on a sample
alone (log 23). -/
def Channel.setInSample (ch : Channel) (b : Bool) : Channel := { ch with inSample := b }

/-- The whole work of one sample of an open channel (R13 to R15). -/
def State.workSample (s : State) (c : Chan) (a : Arrival) : State :=
  let s3 := (s.onChan c fun ch => ch.setInSample true).stepsOneToThree c a
  let cover := s3.takingPart c
  let e := residual a (s3.echoEstimate c a.profile)
  let s5 := (s3.testBlocks c (s3.chan c).covered).onChan c fun ch => ch.trackResidual e
  let s6 := s5.stepSix c a cover e (s3.power c a.profile)
  ((s6.stepsSevenToTen c a e).endSample c a).onChan c fun ch => ch.setInSample false

/-- A sample arrival of channel `c` once it is taken (R132, R152): transparent for a CLOSED channel, worked for an open
one. -/
def State.takeArrival (s : State) (c : Chan) (rin sin : Byte) : Host.Outcome State Fault Refusal :=
  if (s.chan c).life = .closed then .next (s.onChan c fun ch => ch.emit rin sin)
  else
    match (s.chan c).profile with
    | some p => .next (s.settleNotice (s.workSample c (s.receive c p rin sin)))
    | none => .fault .noActiveProfile

/-! ## The arrival -/

/-- Disturbances alter the stored values and the check codes of some blocks (R26, log 4). The altered values stand for
every read that R26 does not test, as the energies of a quota reduction are (R61). -/
def State.disturb (s : State) (upset : List Disturbance) : State :=
  upset.foldl (fun t d => t.setBlock d.block { t.block d.block with taps := d.taps, altered := true }) s

/-- The slots a channel holds in both maps of a frame (R152). -/
def Frame.slotsOf (f : Frame) (c : Chan) : Option (Slot × Slot) :=
  match slotOf f.lineMap c, slotOf f.exchangeMap c with
  | some n, some m => some (n, m)
  | _, _ => none

/-- The port after the last bit of the later of two slots, with channel `c`'s arrival noted in the frame. -/
def Port.noteArrival (p : Port) (f : Frame) (c : Chan) (slots : Slot × Slot) : Port :=
  { p with
    position := slotPosition p.offset (max slots.1.val slots.2.val) 7
    frame := some { f with arrived := c :: f.arrived } }

/-- SAMPLE_ARRIVAL: the frame in progress delivers channel `c`'s arrival where its maps give `c` a slot on both highways
and `c` has had none from it (R152); otherwise the codes are discarded. DESIGN CHOICE (log 24): an arrival whose later slot is
31 falls on the bit clock that completes the frame, and given after FRAME_COMPLETE it finds no frame and is discarded. -/
def execSampleArrival (c : Chan) (rin sin : Byte) (upset : List Disturbance) (s : State) :
    Host.Outcome State Fault Refusal :=
  let s1 := s.disturb upset
  match s1.port.framing, s1.port.frame with
  | true, some f =>
    match f.slotsOf c with
    | some slots =>
      if c ∈ f.arrived then .next s1
      else (s1.onPort fun p => p.noteArrival f c slots).takeArrival c rin sin
    | none => .next s1
  | _, _ => .next s1

end Sys2Proof.Machine
end

