-- ==== Sys2Proof/Machine/SampleEvents.lean ====
section
/-!
DEFINITION. The meanings of the event rows of a channel: each is the event of its rule, where its trigger stands in the
state; where it does not stand there is no such event, and nothing changes (log 2). A CLOSED channel has none.
-/

namespace Sys2Proof.Machine

/-- An event of an open channel, with its active profile. -/
def channelEvent (c : Chan) (act : Profile → State → State) (s : State) : Host.Outcome State Fault Refusal :=
  if (s.chan c).life = .closed then .next s
  else
    match (s.chan c).profile with
    | some p => .next (s.settleNotice (act p s))
    | none => .fault .noActiveProfile

/-- DT_HANGOVER_END (R79). -/
def execDtHangoverEnd (c : Chan) (s : State) : Host.Outcome State Fault Refusal :=
  channelEvent c (fun _ t => t.onChan c Channel.endHangover) s

/-- DWELL_END (R48, R50): the evaluation that a sample's dwell advance has made due. A dwell count that stands at or above
the dwell length without that advance (kept from TRACK into ACQUIRE, or on a channel that is FROZEN or in BYPASS) is no
dwell end, and nothing changes (R48, R49; log 22). -/
def execDwellEnd (c : Chan) (s : State) : Host.Outcome State Fault Refusal :=
  channelEvent c (fun p t => if (t.chan c).life = .active then t.endDwell c p.quota else t) s

/-- END_OF_OPENING (R131). -/
def execEndOfOpening (c : Chan) (s : State) : Host.Outcome State Fault Refusal :=
  channelEvent c (fun p t => t.endOpening c p) s

/-- REACH_TRACK (R88): not where the divergence run has reached its limit too (R91). -/
def execReachTrack (c : Chan) (s : State) : Host.Outcome State Fault Refusal :=
  channelEvent c (fun _ t =>
    if (t.chan c).life = .active ∧ (t.chan c).converged ∧ ¬(t.chan c).diverging then t.reachTrack c else t) s

/-- PATH_CHANGE (R89): not where the divergence run has reached its limit too (R91). -/
def execPathChange (c : Chan) (s : State) : Host.Outcome State Fault Refusal :=
  channelEvent c (fun _ t =>
    if (t.chan c).life = .active ∧ (t.chan c).pathMoved ∧ ¬(t.chan c).diverging then t.pathChange c else t) s

/-- DIVERGENCE (R90). -/
def execDivergence (c : Chan) (s : State) : Host.Outcome State Fault Refusal :=
  channelEvent c (fun _ t => if (t.chan c).life = .active ∧ (t.chan c).diverging then t.diverge c else t) s

/-- NLP_RELEASE (R100): within the work of a sample (log 23). -/
def execNlpRelease (c : Chan) (s : State) : Host.Outcome State Fault Refusal :=
  channelEvent c (fun _ t => t.onChan c Channel.releaseSuppressor) s

/-- NOISE_FLOOR_UPDATE (R101): within the work of a sample (log 23). -/
def execNoiseFloorUpdate (c : Chan) (s : State) : Host.Outcome State Fault Refusal :=
  channelEvent c (fun p t => t.onChan c fun ch => ch.updateNoiseFloor p) s

/-- TONE_DETECTION (R106, R107). -/
def execToneDetection (c : Chan) (s : State) : Host.Outcome State Fault Refusal :=
  channelEvent c (fun p t => t.detectTone c p) s

/-- RETURN_TO_NORMAL (R110): within the work of a sample (log 23). -/
def execReturnToNormal (c : Chan) (s : State) : Host.Outcome State Fault Refusal :=
  channelEvent c (fun _ t => t.returnToNormal c) s

/-- QUIET_POINT (R122, R134): within the work of an IDLE sample, and so not where an apply has just been marked with the
quiet run already at 400 or more (log 23). -/
def execQuietPoint (c : Chan) (s : State) : Host.Outcome State Fault Refusal :=
  channelEvent c (fun _ t => t.quietPoint c) s

/-- ALC_PERIOD_END (R118). -/
def execAlcPeriodEnd (c : Chan) (s : State) : Host.Outcome State Fault Refusal :=
  channelEvent c (fun p t =>
    if (t.chan c).life = .active ∧ p.alcOn then t.onChan c fun ch => ch.endPeriod p else t) s

end Sys2Proof.Machine
end

