-- ==== Sys2Proof/Machine/Dispatch.lean ====
section
/-!
DEFINITION. The meaning of each command: one arm for each constructor of `Instr`.
-/

namespace Sys2Proof.Machine

def exec (i : Instr) (s : State) : Host.Outcome State Fault Refusal :=
  match i with
  | .powerOnReset br1 br0 => Sys2Proof.Machine.execPowerOnReset br1 br0 s
  | .receivedByte b framingError => Sys2Proof.Machine.execReceivedByte b framingError s
  | .gapTimeout => Sys2Proof.Machine.execGapTimeout s
  | .unknownRequest tag kind body => Sys2Proof.Machine.execUnknownRequest tag kind body s
  | .ident tag => Sys2Proof.Machine.execIdent tag s
  | .restart tag => Sys2Proof.Machine.execRestart tag s
  | .portSet tag mode offset edge => Sys2Proof.Machine.execPortSet tag mode offset edge s
  | .portHold tag => Sys2Proof.Machine.execPortHold tag s
  | .portRun tag => Sys2Proof.Machine.execPortRun tag s
  | .mapSet tag highway slot channel => Sys2Proof.Machine.execMapSet tag highway slot channel s
  | .mapClear tag highway slot => Sys2Proof.Machine.execMapClear tag highway slot s
  | .lawLoad tag table quarter entries => Sys2Proof.Machine.execLawLoad tag table quarter entries s
  | .lawCommit tag table => Sys2Proof.Machine.execLawCommit tag table s
  | .profile tag channel record => Sys2Proof.Machine.execProfile tag channel record s
  | .openChannel tag channel => Sys2Proof.Machine.execOpenChannel tag channel s
  | .applyProfile tag channel force => Sys2Proof.Machine.execApplyProfile tag channel force s
  | .closeChannel tag channel => Sys2Proof.Machine.execCloseChannel tag channel s
  | .retrain tag channel => Sys2Proof.Machine.execRetrain tag channel s
  | .freeze tag channel => Sys2Proof.Machine.execFreeze tag channel s
  | .thaw tag channel => Sys2Proof.Machine.execThaw tag channel s
  | .readStatus tag channel => Sys2Proof.Machine.execReadStatus tag channel s
  | .readConditions tag source => Sys2Proof.Machine.execReadConditions tag source s
  | .readCounters tag source => Sys2Proof.Machine.execReadCounters tag source s
  | .readTaps tag channel selector => Sys2Proof.Machine.execReadTaps tag channel selector s
  | .readPool tag start => Sys2Proof.Machine.execReadPool tag start s
  | .readPort tag => Sys2Proof.Machine.execReadPort tag s
  | .noticeMask tag source mask => Sys2Proof.Machine.execNoticeMask tag source mask s
  | .noticeEnable tag enable => Sys2Proof.Machine.execNoticeEnable tag enable s
  | .sigStart tag channel stream count => Sys2Proof.Machine.execSigStart tag channel stream count s
  | .sigRead tag => Sys2Proof.Machine.execSigRead tag s
  | .frameSent => Sys2Proof.Machine.execFrameSent s
  | .sampleArrival c rin sin upset => Sys2Proof.Machine.execSampleArrival c rin sin upset s
  | .dtHangoverEnd c => Sys2Proof.Machine.execDtHangoverEnd c s
  | .dwellEnd c => Sys2Proof.Machine.execDwellEnd c s
  | .endOfOpening c => Sys2Proof.Machine.execEndOfOpening c s
  | .reachTrack c => Sys2Proof.Machine.execReachTrack c s
  | .pathChange c => Sys2Proof.Machine.execPathChange c s
  | .divergence c => Sys2Proof.Machine.execDivergence c s
  | .nlpRelease c => Sys2Proof.Machine.execNlpRelease c s
  | .noiseFloorUpdate c => Sys2Proof.Machine.execNoiseFloorUpdate c s
  | .toneDetection c => Sys2Proof.Machine.execToneDetection c s
  | .returnToNormal c => Sys2Proof.Machine.execReturnToNormal c s
  | .quietPoint c => Sys2Proof.Machine.execQuietPoint c s
  | .alcPeriodEnd c => Sys2Proof.Machine.execAlcPeriodEnd c s
  | .frameBegin => Sys2Proof.Machine.execFrameBegin s
  | .slotSent highway slot => Sys2Proof.Machine.execSlotSent highway slot s
  | .signatureDone => Sys2Proof.Machine.execSignatureDone s
  | .frameComplete => Sys2Proof.Machine.execFrameComplete s
  | .masterFramePulse => Sys2Proof.Machine.execMasterFramePulse s
  | .framePulse position => Sys2Proof.Machine.execFramePulse position s
  | .missedPulse => Sys2Proof.Machine.execMissedPulse s
  | .syncLoss => Sys2Proof.Machine.execSyncLoss s
  | .clockLoss => Sys2Proof.Machine.execClockLoss s
  | .clockReturn => Sys2Proof.Machine.execClockReturn s

end Sys2Proof.Machine
end

