-- ==== Sys2Proof/WellFormed.lean ====
section
/-!
DEFINITION. Well-formed commands: the operands a row of the table admits where their types do not already say so.
-/

namespace Sys2Proof

/-- Whether a command's operands are ones its row admits. -/
def Instr.wellFormed : Instr → Bool
  | .unknownRequest _ kind body =>
    -- R164: no request code of the catalogue; R159: a body of 0..198 bytes.
    (Machine.catalogueLength kind).isNone && decide (body.length ≤ 198)
  | .lawLoad _ _ _ entries => decide (entries.length = 64)  -- R7
  | .profile _ _ record => decide (record.length = 23)  -- section 10.10.3
  | .sampleArrival _ _ _ upset => decide (upset.map Disturbance.block).Nodup  -- one disturbance for a block (R26)
  | .powerOnReset _ _ => true
  | .receivedByte _ _ => true
  | .gapTimeout => true
  | .ident _ => true
  | .restart _ => true
  | .portSet _ _ _ _ => true
  | .portHold _ => true
  | .portRun _ => true
  | .mapSet _ _ _ _ => true
  | .mapClear _ _ _ => true
  | .lawCommit _ _ => true
  | .openChannel _ _ => true
  | .applyProfile _ _ _ => true
  | .closeChannel _ _ => true
  | .retrain _ _ => true
  | .freeze _ _ => true
  | .thaw _ _ => true
  | .readStatus _ _ => true
  | .readConditions _ _ => true
  | .readCounters _ _ => true
  | .readTaps _ _ _ => true
  | .readPool _ _ => true
  | .readPort _ => true
  | .noticeMask _ _ _ => true
  | .noticeEnable _ _ => true
  | .sigStart _ _ _ _ => true
  | .sigRead _ => true
  | .frameSent => true
  | .dtHangoverEnd _ => true
  | .dwellEnd _ => true
  | .endOfOpening _ => true
  | .reachTrack _ => true
  | .pathChange _ => true
  | .divergence _ => true
  | .nlpRelease _ => true
  | .noiseFloorUpdate _ => true
  | .toneDetection _ => true
  | .returnToNormal _ => true
  | .quietPoint _ => true
  | .alcPeriodEnd _ => true
  | .frameBegin => true
  | .slotSent _ _ => true
  | .signatureDone => true
  | .frameComplete => true
  | .masterFramePulse => true
  | .framePulse _ => true
  | .missedPulse => true
  | .syncLoss => true
  | .clockLoss => true
  | .clockReturn => true

end Sys2Proof
end

