-- ==== Sys2Proof/Safety.lean ====
section
/-!
DEFINITION. What counts as a sound state of the part: the laws the manual states of every moment between two steps,
grouped by the block that owns them. Each is decidable. Claims say that reset has them and that every step keeps them.
-/

namespace Sys2Proof.Machine

/-! ## Counters -/

/-- A channel's counters lie in 0..255 (R177). -/
abbrev ChanCounters.bounded (k : ChanCounters) : Prop :=
  k.dtOnsets ≤ 255 ∧ k.pathChanges ≤ 255 ∧ k.divergences ≤ 255 ∧ k.scoutSwaps ≤ 255 ∧ k.toneBypasses ≤ 255 ∧
    k.clipEvents ≤ 255

/-- The port counters lie in 0..255 (R177). -/
abbrev Port.countersBounded (p : Port) : Prop :=
  p.slips ≤ 255 ∧ p.syncLosses ≤ 255 ∧ p.badFrames ≤ 255 ∧ p.gapTimeouts ≤ 255 ∧ p.overruns ≤ 255

/-- Every counter lies in 0..255 (R177: "This is a law of the device"). -/
abbrev State.CountersBounded (s : State) : Prop :=
  (∀ c : Chan, (s.chan c).counters.bounded) ∧ s.port.countersBounded

/-! ## Queues -/

/-- The queues of the link: at most 4 replies (R165), no two notices of one source and kind, each with an occurrence
count in 1..255 (R170), and nothing queued while the transmitter is idle (R169). -/
abbrev Link.QueuesSound (l : Link) : Prop :=
  l.replies.length ≤ 4 ∧
    (l.notices.map fun n => (n.source, n.kind)).Nodup ∧
    (∀ n ∈ l.notices, 1 ≤ n.count ∧ n.count ≤ 255) ∧
    (l.tx = .idle → l.replies = [] ∧ l.notices = [])

/-- The queues of the state's link are sound. -/
abbrev State.QueuesSound (s : State) : Prop := s.link.QueuesSound

/-! ## Life cycle and gain -/

/-- A channel holds an active profile exactly while it is not CLOSED (R130, R136). -/
abbrev State.ProfilesHeld (s : State) : Prop :=
  ∀ c : Chan, ((s.chan c).life = .closed ↔ (s.chan c).profile = none)

/-- The level fields of a stored profile are within their limits (R125, R126). -/
abbrev Profile.LevelsSound (p : Profile) : Prop :=
  p.gmin ≤ p.gmax ∧ p.gmax ≤ 48 ∧ p.fixedIndex ≤ 48 ∧ p.padIndex ≤ 48

/-- The profiles of a staged slot, as a list of none or one. -/
def Staged.records : Staged → List Profile
  | .empty => []
  | .staged p => [p]
  | .pending p => [p]

/-- The law of R116 for one channel: g and the pad lie in 0..48, and with ALC on g lies within gmin..gmax of the active
profile; and the records that can bring new limits respect R126. -/
abbrev Channel.GainSound (ch : Channel) : Prop :=
  ch.gain ≤ 48 ∧ ch.padIndex ≤ 48 ∧
    (∀ p ∈ ch.profile, p.LevelsSound ∧ (p.alcOn = true → p.gmin ≤ ch.gain ∧ ch.gain ≤ p.gmax)) ∧
    (∀ p ∈ ch.staged.records, p.LevelsSound)

/-- The law of R116 for every channel. -/
abbrev State.GainSound (s : State) : Prop := ∀ c : Chan, (s.chan c).GainSound

/-! ## Running counts of a channel -/

/-- The counts of a channel lie between samples in the ranges their rules give: DT hangover 0..240 and 0 with the flag
clear (R79), quiet run 0..65535 (R81), the three runs below their limits (section 5.6), suppressor hangover 0..64 (R100),
noise register 1..32767 (R102), tone runs below 3200 (R106), ALC period 0..127 (R117) and release 0..3 (R118), the
scout's dwell count 0..2047 with no evaluation due (R48), and the opening count of an OPENING channel below B + 1024
(R131). No sample is in work. -/
abbrev Channel.CountsSound (ch : Channel) : Prop :=
  ch.dtHangover ≤ 240 ∧ (ch.dtFlag = true ↔ 0 < ch.dtHangover) ∧ ch.quietRun ≤ 65535 ∧
    ch.convRun < 2048 ∧ ch.changeRun < 512 ∧ ch.divRun < 1024 ∧ ch.nlpHangover ≤ 64 ∧
    (1 ≤ ch.noiseReg ∧ ch.noiseReg ≤ 32767) ∧ ch.toneS.count < 3200 ∧ ch.toneX.count < 3200 ∧
    ch.periodCount ≤ 127 ∧ ch.releaseCount ≤ 3 ∧ (∀ k ∈ ch.scout, k.dwell ≤ 2047 ∧ k.due = none) ∧
    (ch.life = .opening → ∀ p ∈ ch.profile, ch.openingCount < 32 * p.bulk + 1024) ∧ ch.inSample = false

/-- The counts of every channel are sound. -/
abbrev State.CountsSound (s : State) : Prop := ∀ c : Chan, (s.chan c).CountsSound

/-! ## Values of the signal path -/

/-- A linear value (R1). -/
abbrev Linear (v : Int) : Prop := -32767 ≤ v ∧ v ≤ 32767

/-- The law store holds linear values alone (R3, R7). -/
abbrev LawStore.Linear (l : LawStore) : Prop :=
  (∀ v ∈ l.a.entries, Machine.Linear v) ∧ (∀ v ∈ l.b.entries, Machine.Linear v) ∧
    ∀ q ∈ l.buffer.quarters.toList, ∀ vs ∈ q, ∀ v ∈ vs, Machine.Linear v

/-- A channel's history holds linear values, and its leaky sums lie in 0..1,048,575 (R16, R21). -/
abbrev Channel.SignalSound (ch : Channel) : Prop :=
  ch.ring.length = 2048 ∧ (∀ v ∈ ch.ring, Machine.Linear v) ∧
    ch.sumX ≤ 1048575 ∧ ch.sumS ≤ 1048575 ∧ ch.sumE ≤ 1048575 ∧ ch.sumV ≤ 1048575 ∧
    ch.noiseFloor ≤ 95 ∧ 1 ≤ ch.noiseReg ∧ ch.noiseReg ≤ 32767

/-- The tables, the histories and the levels hold what R1, R3 and R16 allow. -/
abbrev State.SignalSound (s : State) : Prop := s.law.Linear ∧ ∀ c : Chan, (s.chan c).SignalSound

/-- A tap value (section 1.1). -/
abbrev TapValue (t : Int) : Prop := -8388608 ≤ t ∧ t ≤ 8388607

/-- Every block stores 32 tap values (R24), each in its range (R32). -/
abbrev State.TapsSound (s : State) : Prop :=
  ∀ b : BlockNo, (s.block b).taps.length = 32 ∧ ∀ t ∈ (s.block b).taps, TapValue t

/-! ## Slot maps -/

/-- A map names a channel at most once (R154). -/
abbrev SlotMap.NamesOnce (m : SlotMap) : Prop :=
  ∀ n k : Slot, ∀ c : Chan, m[n.val] = some c → m[k.val] = some c → n = k

/-- Both maps name a channel at most once, and an open channel has a slot in both (R154). -/
abbrev State.MapsSound (s : State) : Prop :=
  s.port.lineMap.NamesOnce ∧ s.port.exchangeMap.NamesOnce ∧
    ∀ c : Chan, (s.chan c).life ≠ .closed →
      (∃ n : Slot, s.port.lineMap[n.val] = some c) ∧ ∃ n : Slot, s.port.exchangeMap[n.val] = some c

/-! ## Port -/

/-- The port's states agree: a MASTER port is IN sync (R144, R147), the missed-pulse count is at most 4 (R148), the
awaiting mark stands only while a SLAVE port is clocked (R145, R146), and a frame is in progress only while framing. -/
abbrev Port.Sound (p : Port) : Prop :=
  (p.mode = .master → p.sync = .locked) ∧ p.missed ≤ 4 ∧
    (p.awaiting = true → p.mode = .slave ∧ p.clocked = true) ∧ (p.frame.isSome = true → p.framing = true)

/-- The port of the state is sound. -/
abbrev State.PortSound (s : State) : Prop := s.port.Sound

/-! ## Pool and placement -/

/-- The blocks of a channel's windows and scout are distinct, and they are exactly the blocks the pool records as held
by it (R63). -/
abbrev State.HoldersAgree (s : State) : Prop :=
  ∀ c : Chan, ((s.chan c).covered.map Prod.snd).Nodup ∧
    ∀ b : BlockNo, ((s.block b).condition = .held c ↔ b ∈ (s.chan c).covered.map Prod.snd)

/-- While the wait list holds any entry, the free set is empty (R68). -/
abbrev State.WaitMeansEmpty (s : State) : Prop := s.wait ≠ [] → s.freeBlocks = []

/-- Every PIN entry stands ahead of every SCOUT entry (R66). -/
abbrev State.PinsFirst (s : State) : Prop :=
  s.wait = s.wait.filter WaitEntry.isPin ++ s.wait.filter fun e => !e.isPin

/-- The placement of one channel (R41 to R44): the list ascends by position, the scout's position is not a window's, a
FOUND window holds a block, the PINNED windows stand at the pins, and the quota count is within the quota. A CLOSED
channel has neither windows nor scout. -/
abbrev Channel.PlacementSound (ch : Channel) : Prop :=
  ch.windows.Pairwise (fun v w => v.pos < w.pos) ∧ (∀ k ∈ ch.scout, k.pos ∉ ch.windowPositions) ∧
    (∀ w ∈ ch.windows, w.kind = .found → w.block.isSome = true) ∧
    (∀ p ∈ ch.profile,
      (ch.windows.filter fun w => w.kind == .pinned).map Window.pos = p.pins ∧ ch.quotaCount ≤ p.quota) ∧
    (ch.life = .closed → ch.windows = [] ∧ ch.scout = none)

/-- The placement of every channel. -/
abbrev State.PlacementSound (s : State) : Prop := ∀ c : Chan, (s.chan c).PlacementSound

/-- The wait entries of every channel (R42, R66): none for a CLOSED channel; a SCOUT entry exactly where an open channel
has no scout record; a PIN entry exactly for each vacant pin; no two equal entries. -/
abbrev State.WaitSound (s : State) : Prop :=
  s.wait.Nodup ∧ ∀ c : Chan,
    ((s.chan c).life = .closed → ∀ e ∈ s.wait, e.chan ≠ c) ∧
    ((s.chan c).life ≠ .closed →
      (({ chan := c, claim := .scout } : WaitEntry) ∈ s.wait ↔ (s.chan c).scout = none) ∧
        ∀ p : Pos, ({ chan := c, claim := .pin p } : WaitEntry) ∈ s.wait ↔
          ∃ w ∈ (s.chan c).windows, w.pos = p ∧ w.kind = .pinned ∧ w.block = none)

/-- The fields of a stored profile that placement and the echo model rest on (section 10.10.3, R125): Q in 2..8, at most 4
pins and at most Q - 1, ascending and so distinct, the bulk offset field in 0..32 and the step in 1..64. -/
abbrev Profile.FieldsSound (p : Profile) : Prop :=
  2 ≤ p.quota ∧ p.quota ≤ 8 ∧ p.pins.Pairwise (fun a b => a < b) ∧ p.pins.length ≤ 4 ∧ p.pins.length ≤ p.quota - 1 ∧
    p.bulk ≤ 32 ∧ 1 ≤ p.step ∧ p.step ≤ 64

/-- The record of a pending apply, where there is one. -/
def Staged.pendingRecord : Staged → Option Profile
  | .pending q => some q
  | _ => none

/-- A pending apply waits on an ACTIVE channel, and keeps its bulk offset and its pins (R133). -/
abbrev Channel.PendingSound (ch : Channel) : Prop :=
  ∀ q ∈ ch.staged.pendingRecord, ch.life = .active ∧ ∀ p ∈ ch.profile, q.bulk = p.bulk ∧ q.pins = p.pins

/-- The active profile, the staged record and the pending apply of every channel are sound. -/
abbrev State.ProfilesSound (s : State) : Prop :=
  ∀ c : Chan, (∀ p ∈ (s.chan c).profile, p.FieldsSound) ∧ (∀ p ∈ (s.chan c).staged.records, p.FieldsSound) ∧
    (s.chan c).PendingSound

/-- The whole of the pool and placement laws, with the profile laws they rest on. -/
structure State.PoolSound (s : State) : Prop where
  profilesHeld : s.ProfilesHeld
  profilesSound : s.ProfilesSound
  holders : s.HoldersAgree
  waitMeansEmpty : s.WaitMeansEmpty
  pinsFirst : s.PinsFirst
  placement : s.PlacementSound
  waits : s.WaitSound

/-! ## Signature -/

/-- A running signature has codes left to fold and watches an ACTIVE channel (R179, R180). -/
abbrev State.SignatureSound (s : State) : Prop :=
  s.sig.remaining ≤ 65535 ∧ s.sig.value ≤ 65535 ∧
    (s.sig.state = .running → 0 < s.sig.remaining ∧ (s.chan s.sig.channel).life = .active)

/-! ## Terms of the claims about channels -/

/-- `t` agrees with `s` but for the context of channel `c`, the tap blocks and the wait list. -/
abbrev State.AgreesBut (s t : State) (c : Chan) : Prop :=
  t.law = s.law ∧ t.port = s.port ∧ t.link = s.link ∧ t.sig = s.sig ∧ t.pending = s.pending ∧
    ∀ d : Chan, d ≠ c → t.chan d = s.chan d

/-- The lowest-numbered position that is not occupied (R44). -/
abbrev LowestFree (occupied : List Pos) (q : Pos) : Prop := q ∉ occupied ∧ ∀ r : Pos, r < q → r ∈ occupied

/-- `q` is the first unoccupied position after `p`, continuing from 31 to 0 (R44): it lies `n` steps on, and every
position fewer steps on is occupied. -/
abbrev NextFree (occupied : List Pos) (p q : Pos) : Prop :=
  q ∉ occupied ∧ ∃ n : Nat, 1 ≤ n ∧ n ≤ 32 ∧ q.val = (p.val + n) % 32 ∧
    ∀ m : Nat, 1 ≤ m → m < n → ∀ r : Pos, r.val = (p.val + m) % 32 → r ∈ occupied

/-- The window `w` is the weakest of a list: of least energy, and of those at the lowest position (R50, R61). -/
abbrev State.IsWeakest (s : State) (ws : List Window) (w : Window) : Prop :=
  w ∈ ws ∧ ∀ v ∈ ws, s.windowEnergy w < s.windowEnergy v ∨ (s.windowEnergy w = s.windowEnergy v ∧ w.pos ≤ v.pos)

/-- The windows an evaluation weighs: of those whose blocks took part in the sample, the FOUND ones, or where the list has
no FOUND window, all (R50). -/
def Channel.weighed (ch : Channel) (tookPart : List BlockNo) : List Window :=
  ch.windows.filter fun w =>
    w.block.any (fun b => tookPart.contains b) && (w.kind == .found || ch.windows.all fun v => v.kind != .found)

/-- A block after disturbances (R26): the values the last of its own leaves, and a check code that no longer fits. -/
def State.upsetBlock (s : State) (upset : List Disturbance) (b : BlockNo) : Block :=
  match upset.reverse.find? fun d => d.block == b with
  | some d => { s.block b with taps := d.taps, altered := true }
  | none => s.block b

/-- The state once every block a channel holds has been tested, each whose test fails handled as a block fault in turn, in
ascending position with the scout last (R26, R71). -/
def State.tested (s : State) (c : Chan) : State :=
  (s.chan c).covered.foldl (fun t k => if (t.block k.2).altered then t.blockFault c k.2 else t) s

/-! ## Blocks returned and handed on -/

/-- The windows of channel `d` once blocks have been handed over to wait entries in order: each vacant pin that an entry of
`d` names holds the first block given for it (R58, R68). -/
def fillPins (d : Chan) (handed : List (WaitEntry × BlockNo)) (ws : List Window) : List Window :=
  ws.map fun w =>
    if w.kind = .pinned ∧ w.block = none then
      { w with
        block := (handed.find? fun k => decide (k.1 = { chan := d, claim := .pin w.pos })).map Prod.snd }
    else w

/-- Channel `d`, which returned nothing itself, once blocks have been handed over to wait entries in order (R57, R68): its
named pins are filled, its SCOUT entry gives it a scout with dwell count 0 at the next unoccupied position after the last
scout position, and nothing else of it changes. -/
abbrev Channel.ServedBy (before after : Channel) (d : Chan) (handed : List (WaitEntry × BlockNo)) : Prop :=
  after =
    { before with
      windows := fillPins d handed before.windows, scout := after.scout, lastScout := after.lastScout } ∧
  ((∀ k ∈ handed, k.1 ≠ { chan := d, claim := .scout }) →
    after.scout = before.scout ∧ after.lastScout = before.lastScout) ∧
  ∀ b : BlockNo, (({ chan := d, claim := .scout } : WaitEntry), b) ∈ handed →
    ∃ q : Pos, NextFree (before.windows.map Window.pos) before.lastScout q ∧
      after.scout = some { pos := q, block := b, dwell := 0 } ∧ after.lastScout = q

/-- What the return of blocks, one at a time in order, leaves of them and of the wait list (R65, R68, R69): each goes
zeroed to the entry then at the head, which leaves the list, and once the list is empty joins the free set as it is. -/
abbrev State.Returns (s t : State) (returned : List BlockNo) : Prop :=
  t.wait = s.wait.drop returned.length ∧
  (∀ k ∈ s.wait.zip returned,
    t.block k.2 = { taps := List.replicate 32 0, condition := .held k.1.chan, altered := false }) ∧
  ∀ b ∈ returned.drop s.wait.length, t.block b = { s.block b with condition := .free }

/-- The window `v` leaves before `w` (R61): less energy, or the same at a lower position. -/
abbrev State.Weaker (s : State) (v w : Window) : Prop :=
  s.windowEnergy v < s.windowEnergy w ∨ (s.windowEnergy v = s.windowEnergy w ∧ v.pos < w.pos)

/-- What an apply that takes effect leaves of the channels, the blocks and the wait list (steps 1 to 4 of R135, with R61
and R121): the record is the active profile and the slot EMPTY, the pad and g follow it, and as many FOUND windows as
exceed the quota have left, weakest first, each block returned in turn; every other field of the channel is kept. -/
abbrev State.ApplyGives (s t : State) (c : Chan) (old new : Profile) : Prop :=
  let before := s.chan c
  ∃ gone : List (Window × BlockNo),
    let returned := gone.map Prod.snd
    let handed := s.wait.zip returned
    let kept := fun n : Nat => before.windows.filter fun w => w ∉ (gone.take n).map Prod.fst
    gone.length = before.windows.length + 1 - new.quota ∧
    (∀ k ∈ gone, k.1 ∈ before.windows ∧ k.1.kind = .found ∧ k.1.block = some k.2) ∧
    (gone.map Prod.fst).Pairwise s.Weaker ∧
    (∀ w ∈ before.windows, w.kind = .found → w ∉ gone.map Prod.fst → ∀ k ∈ gone, s.Weaker k.1 w) ∧
    s.Returns t returned ∧ (∀ b : BlockNo, b ∉ returned → t.block b = s.block b) ∧
    t.chan c =
      { before with
        profile := some new, staged := .empty, padIndex := new.padIndex
        gain := if new.alcOn then max new.gmin (min new.gmax before.gain) else new.fixedIndex
        periodCount := if old.alcOn = new.alcOn then before.periodCount else 0
        releaseCount := if old.alcOn = new.alcOn then before.releaseCount else 0
        windows := fillPins c handed (kept gone.length)
        scout := (t.chan c).scout, lastScout := (t.chan c).lastScout } ∧
    ((∀ k ∈ handed, k.1 ≠ { chan := c, claim := .scout }) →
      (t.chan c).scout = before.scout ∧ (t.chan c).lastScout = before.lastScout) ∧
    (∀ (n : Nat) (b : BlockNo), handed[n]? = some ({ chan := c, claim := .scout }, b) →
      ∃ q : Pos, NextFree ((kept (n + 1)).map Window.pos) before.lastScout q ∧
        (t.chan c).scout = some { pos := q, block := b, dwell := 0 } ∧ (t.chan c).lastScout = q) ∧
    ∀ d : Chan, d ≠ c → (s.chan d).ServedBy (t.chan d) d handed

/-- What the evaluation of channel `c`'s scout `k` leaves of its placement, the blocks and the wait list (R50 to R54), with
the blocks `tookPart` that took part in the sample: an add with a free block or without one, a swap, or a discard. -/
abbrev State.EvaluationGives (s t : State) (c : Chan) (quota : Nat) (tookPart : List BlockNo) (k : Scout) : Prop :=
  let before := s.chan c
  let weighed := before.weighed tookPart
  let found : Prop := ∃ w ∈ weighed, w.kind = .found
  let scoutEnergy := sumSquares (s.block k.block).taps
  let qualifies : Prop :=
    if weighed = [] then 0 < scoutEnergy else ∃ w ∈ weighed, 2 * s.windowEnergy w < scoutEnergy
  let gained : Window := { pos := k.pos, kind := .found, block := some k.block }
  let zeroed := fun b : BlockNo => { s.block b with taps := List.replicate 32 0, altered := false }
  let ws := (t.chan c).windows
  let placed := fun (scout : Option Scout) (last : Pos) (starved : Bool) (swaps : Nat) =>
    (t.chan c).scout = scout ∧ (t.chan c).lastScout = last ∧ (t.chan c).conditions.starved = starved ∧
      (t.chan c).counters.scoutSwaps = swaps
  let starved := before.conditions.starved
  let swaps := before.counters.scoutSwaps
  ws.Pairwise (fun v w => v.pos < w.pos) ∧
  (qualifies → before.windows.length + 1 < quota →
    (∀ w : Window, w ∈ ws ↔ w ∈ before.windows ∨ w = gained) ∧
    (∀ f : BlockNo, s.freeBlocks.head? = some f →
      (∃ q : Pos, NextFree (ws.map Window.pos) k.pos q ∧
        placed (some { pos := q, block := f, dwell := 0 }) q starved swaps) ∧
      t.wait = s.wait ∧
      ∀ b : BlockNo, t.block b =
        if b = f then { taps := List.replicate 32 0, condition := .held c, altered := false } else s.block b) ∧
    (s.freeBlocks = [] →
      placed none before.lastScout true swaps ∧
      t.wait = s.wait ++ [{ chan := c, claim := .scout }] ∧ ∀ b : BlockNo, t.block b = s.block b)) ∧
  (qualifies → before.windows.length + 1 = quota → found →
    ∃ (w : Window) (b : BlockNo) (q : Pos), s.IsWeakest weighed w ∧ w.block = some b ∧
      (∀ v : Window, v ∈ ws ↔ (v ∈ before.windows ∧ v ≠ w) ∨ v = gained) ∧
      NextFree (ws.map Window.pos) k.pos q ∧
      placed (some { pos := q, block := b, dwell := 0 }) q starved (min 255 (swaps + 1)) ∧
      t.wait = s.wait ∧ ∀ b' : BlockNo, t.block b' = if b' = b then zeroed b else s.block b') ∧
  (¬qualifies ∨ (before.windows.length + 1 = quota ∧ ¬found) →
    ws = before.windows ∧
    (∃ q : Pos, NextFree (ws.map Window.pos) k.pos q ∧
      placed (some { pos := q, block := k.block, dwell := 0 }) q starved swaps) ∧
    t.wait = s.wait ∧ ∀ b : BlockNo, t.block b = if b = k.block then zeroed k.block else s.block b)

/-- The frame `f` is in progress and is still to deliver channel `c`'s arrival: its maps hold `c` in the line slot `n` and
the exchange slot `m` and in no other, and `c` has had none from it (R152). -/
abbrev State.AwaitsArrival (s : State) (c : Chan) (f : Frame) (n m : Slot) : Prop :=
  s.port.runState = .run ∧ s.port.clock = .ok ∧ s.port.awaiting = false ∧ s.port.frame = some f ∧ c ∉ f.arrived ∧
    (∀ k : Slot, f.lineMap[k.val] = some c ↔ k = n) ∧ ∀ k : Slot, f.exchangeMap[k.val] = some c ↔ k = m

/-- The ring value at a delay (R21). -/
def atDelay (ring : List Int) (d : Nat) : Int := ring.getD d 0

/-- The delay that tap `j` of a block at position `q` pairs with (R24). -/
def delayOf (p : Profile) (q : Pos) (j : Nat) : Nat := 32 * p.bulk + 32 * q.val + j

/-- What one sample of an open channel brings, told from the profile, the tables and the codes (R13, R14, R27 to R30): the
value r, the Rout code, the reference x, the value s, the ring after the push, the blocks that take part, the echo
estimate, the residual and the normalising power. -/
structure SampleValues where
  r : Int
  rout : Byte
  x : Int
  send : Int
  ring : List Int
  cover : List (Pos × BlockNo)
  e : Int
  power : Nat
  deriving DecidableEq, Repr

/-- The values of a sample of channel `c` with profile `p`, the codes `rin` and `sin`, and the disturbances `upset`. -/
def State.sampleValues (s : State) (c : Chan) (p : Profile) (rin sin : Byte) (upset : List Disturbance) : SampleValues :=
  let line := s.law.table p.lineLaw
  let exchange := s.law.table p.exchangeLaw
  let r := expand line rin
  let rout := compress exchange (scale r (gainOf (s.chan c).padIndex))
  let x := expand exchange rout
  let send := expand exchange sin
  let ring := (x :: (s.chan c).ring).take 2048
  let cover := (s.chan c).covered.filter fun k => !(s.block k.2).altered && !upset.any fun d => d.block == k.2
  let products := cover.map fun k =>
    ((List.range 32).map fun j => (s.block k.2).taps.getD j 0 * atDelay ring (delayOf p k.1 j)).sum
  let squares := cover.map fun k =>
    ((List.range 32).map fun j => (atDelay ring (delayOf p k.1 j)).natAbs ^ 2).sum
  { r, rout, x, send, ring, cover
    e := if (s.chan c).toneMode = .bypass then send else max (-32767) (min 32767 (send - estimateOf products.sum))
    power := squares.sum }

/-- A sample is overloaded (R83). -/
abbrev SampleValues.Overloaded (a : SampleValues) : Prop := 32000 ≤ a.r.natAbs ∨ 32000 ≤ a.send.natAbs

/-- A sample permits adaptation (R84), told from the channel before and after it. -/
abbrev Channel.SamplePermits (before after : Channel) (a : SampleValues) : Prop :=
  before.life = .active ∧ before.frozen = false ∧ before.toneMode ≠ .bypass ∧ after.talk = .far ∧ ¬a.Overloaded

/-- A counted sample brings the divergence run to 1024 (R87, R90), told from the channel before and after it. -/
abbrev Channel.SampleDiverges (before after : Channel) (a : SampleValues) : Prop :=
  before.life = .active ∧ after.talk = .far ∧ ¬a.Overloaded ∧ before.toneMode ≠ .bypass ∧
    2 * (after.sumS / 32) < after.sumE / 32 ∧ 1024 ≤ before.divRun + 1

/-- The dwell length by the service mode (R48). -/
abbrev Channel.dwellEnd (ch : Channel) : Nat := if ch.service = .acquire then 512 else 2048

/-- The blocks after the update of a permitted sample (R31): every tap of a block that takes part is moved, and the check
codes fit; no other block changes. -/
def State.updated (s : State) (p : Profile) (a : SampleValues) : State :=
  { s with
    blocks := Vector.ofFn fun b : BlockNo =>
      match a.cover.find? fun k => k.2 == b with
      | some k =>
        { s.block b with
          taps := (List.range 32).map fun j =>
            movedTap p.step a.e a.power ((s.block b).taps.getD j 0) (atDelay a.ring (delayOf p k.1 j))
          altered := false }
      | none => s.block b }

/-- The notice events of a sample of channel `c` in their order, told from the states before and after it: MODE of the exit
to NORMAL (R110), TONE and MODE of a detection that changes the tone mode (R107, R111), FAULT for each block that fails
its test (R71), STARVED where the evaluation leaves no scout (R52), DIVERGED (R90), MODE for a change of service mode
(R92), MODE at the end of OPENING (R131), and APPLIED (R135). -/
def State.sampleNotices (s t : State) (c : Chan) (a : SampleValues) (upset : List Disturbance) : List NoticeKind :=
  let before := s.chan c
  let after := t.chan c
  let standing := if after.quietRun = 2000 then ToneMode.normal else before.toneMode
  let failing := before.covered.filter fun k => (s.upsetBlock upset k.2).altered
  (if standing ≠ before.toneMode then [.mode] else []) ++
  (if after.toneMode ≠ standing then [.tone, .mode] else []) ++
  List.replicate failing.length .fault ++
  (if (((s.disturb upset).tested c).chan c).scout ≠ none ∧ after.scout = none then [.starved] else []) ++
  (if before.SampleDiverges after a then [.diverged] else []) ++
  (if after.service ≠ before.service then [.mode] else []) ++
  (if after.life ≠ before.life then [.mode] else []) ++
  (if after.staged ≠ before.staged then [.applied] else [])

/-- Notice events of channel `c` raised in order. -/
def State.raiseNotices (s : State) (c : Chan) (kinds : List NoticeKind) : State :=
  kinds.foldl (fun u k => u.raiseNotice (.channel c) k) s

/-- The 32 values of a stream that its tone measurement is made on, by their index 0..31, from a list newest first
(R105). -/
def toneValue (recent : List Int) (i : Nat) : Int := recent.getD (31 - i) 0

/-- d_i of R105, for i in 2..31. -/
def toneResidue (recent : List Int) (i : Nat) : Int :=
  32 * (toneValue recent i + toneValue recent (i - 2)) + 5 * toneValue recent (i - 1)

/-- E of R105. -/
def tonePower (recent : List Int) : Int := ((List.range 32).map fun i => toneValue recent i ^ 2).sum

/-- D of R105. -/
def toneOutside (recent : List Int) : Int := ((List.range 30).map fun i => toneResidue recent (i + 2) ^ 2).sum

/-- `largest` is P of R105. -/
abbrev IsLargestPair (recent : List Int) (largest : Int) : Prop :=
  (∃ j : Nat, 2 ≤ j ∧ j ≤ 30 ∧ largest = toneResidue recent j ^ 2 + toneResidue recent (j + 1) ^ 2) ∧
    ∀ j : Nat, 2 ≤ j → j ≤ 30 → toneResidue recent j ^ 2 + toneResidue recent (j + 1) ^ 2 ≤ largest

/-- What a tone run is after a sample, before a detection is reported (R105, R106): a stream in band counts on, and a
reversal in it is kept; any other starts again from 0. `recent` holds the stream's latest values, newest first, and
`full` says that 32 samples have been taken since OPEN. -/
abbrev ToneRun.Follows (before after : ToneRun) (recent : List Int) (full : Prop) : Prop :=
  ∃ largest : Int, IsLargestPair recent largest ∧
    let inBand : Prop :=
      full ∧ 0 < tonePower recent ∧ (toneOutside recent - largest) * 900 ≤ tonePower recent * 1024
    (inBand → after.count = before.count + 1 ∧
      (after.reversal = true ↔ before.reversal = true ∨ tonePower recent * 1024 ≤ largest * 8)) ∧
    (¬inBand → after = { count := 0, reversal := false })

/-! ## Terms of the claims about requests -/

/-- The seven snapshot bytes of a notice body (section 10.10.5), in the codes of section 10.10.2. -/
def State.sourceBytes (s : State) : Source → List Byte
  | .channel c =>
    [match (s.chan c).life with | .closed => 0x00#8 | .opening => 0x01#8 | .active => 0x02#8,
      match (s.chan c).service with | .acquire => 0x00#8 | .track => 0x01#8,
      match (s.chan c).toneMode with | .normal => 0x00#8 | .nlpOff => 0x01#8 | .bypass => 0x02#8,
      if (s.chan c).frozen then 0x01#8 else 0x00#8,
      match (s.chan c).staged with | .empty => 0x00#8 | .staged _ => 0x01#8 | .pending _ => 0x02#8,
      if ∃ e ∈ s.wait, e.chan = c then 0x01#8 else 0x00#8,
      byteOf ((List.finRange 192).filter fun b => (s.block b).condition = .held c).length]
  | .port =>
    [match s.port.runState with | .hold => 0x00#8 | .run => 0x01#8,
      match s.port.sync with | .locked => 0x00#8 | .lost => 0x01#8,
      match s.port.clock with | .ok => 0x00#8 | .lost => 0x01#8,
      match s.sig.state with | .idle => 0x00#8 | .running => 0x01#8 | .done => 0x02#8 | .aborted => 0x03#8,
      byteOf s.sig.channel.val,
      match s.sig.stream with | .sout => 0x00#8 | .rout => 0x01#8,
      0x00#8]

/-- The reply queue has room for a reply (R163). -/
abbrev State.HasRoom (s : State) : Prop := s.link.replies.length < 4

/-- The record of a DONE reply: KIND 80h, the request's TAG, and the request's KIND ahead of its fields (R159, R164). -/
def doneRecord (tag kind : Byte) (fields : List Byte) : Record := { kind := 0x80#8, tag := tag, body := kind :: fields }

/-- The record of a REFUSED reply: KIND 81h, the request's TAG, the request's KIND and the reason (R159, R164). -/
def refusedRecord (tag kind reason : Byte) : Record := { kind := 0x81#8, tag := tag, body := [kind, reason] }

/-- The link once a reply has joined the tail of the reply queue: an idle transmitter begins the head of that queue
(R163, R169). -/
def Link.withReply (l : Link) (r : Record) : Link :=
  match l.tx, l.replies ++ [r] with
  | .idle, first :: rest => { l with tx := .reply first, replies := rest }
  | _, queue => { l with replies := queue }

/-- The state once a reply has joined the reply queue; nothing else differs. -/
def State.answered (s : State) (r : Record) : State := { s with link := s.link.withReply r }

/-- The reply on the line, if one is being sent. -/
def Transmitter.reply? : Transmitter → List Record
  | .reply r => [r]
  | _ => []

/-- The replies the host has not yet received: the one on the line and those queued, in order. -/
def Link.outgoing (l : Link) : List Record := l.tx.reply? ++ l.replies

end Sys2Proof.Machine

namespace Sys2Proof

/-- The TAG and the request code of a request row (section 10.5); none for an event row and for an unknown request. -/
def Instr.request? : Instr → Option (Byte × Byte)
  | .ident tag => some (tag, 0x01#8)
  | .restart tag => some (tag, 0x02#8)
  | .portSet tag _ _ _ => some (tag, 0x08#8)
  | .portHold tag => some (tag, 0x09#8)
  | .portRun tag => some (tag, 0x0A#8)
  | .mapSet tag _ _ _ => some (tag, 0x0B#8)
  | .mapClear tag _ _ => some (tag, 0x0C#8)
  | .lawLoad tag _ _ _ => some (tag, 0x10#8)
  | .lawCommit tag _ => some (tag, 0x11#8)
  | .profile tag _ _ => some (tag, 0x18#8)
  | .openChannel tag _ => some (tag, 0x19#8)
  | .applyProfile tag _ _ => some (tag, 0x1A#8)
  | .closeChannel tag _ => some (tag, 0x1B#8)
  | .retrain tag _ => some (tag, 0x1C#8)
  | .freeze tag _ => some (tag, 0x1D#8)
  | .thaw tag _ => some (tag, 0x1E#8)
  | .readStatus tag _ => some (tag, 0x20#8)
  | .readConditions tag _ => some (tag, 0x21#8)
  | .readCounters tag _ => some (tag, 0x22#8)
  | .readTaps tag _ _ => some (tag, 0x23#8)
  | .readPool tag _ => some (tag, 0x24#8)
  | .readPort tag => some (tag, 0x25#8)
  | .noticeMask tag _ _ => some (tag, 0x28#8)
  | .noticeEnable tag _ => some (tag, 0x29#8)
  | .sigStart tag _ _ _ => some (tag, 0x30#8)
  | .sigRead tag => some (tag, 0x31#8)
  | .unknownRequest tag kind _ => some (tag, kind)
  | _ => none

/-- A body without fields. -/
def noField (i : Instr) (body : List Byte) : Option Instr := if body = [] then some i else none

/-- A body of one byte. -/
def oneField (f : Byte → Instr) : List Byte → Option Instr
  | [a] => some (f a)
  | _ => none

/-- A body of two bytes. -/
def twoFields (f : Byte → Byte → Instr) : List Byte → Option Instr
  | [a, b] => some (f a b)
  | _ => none

/-- A body of three bytes. -/
def threeFields (f : Byte → Byte → Byte → Instr) : List Byte → Option Instr
  | [a, b, c] => some (f a b c)
  | _ => none

/-- The body of LAW-LOAD: table, quarter and 64 entries of two bytes, high byte first. -/
def lawLoadFields (tag : Byte) : List Byte → Option Instr
  | table :: quarter :: entries =>
    if entries.length = 128 then some (.lawLoad tag table quarter (Machine.halves 64 entries)) else none
  | _ => none

/-- The body of PROFILE: the channel and the 23 bytes of the record. -/
def profileFields (tag : Byte) : List Byte → Option Instr
  | channel :: record => if record.length = 23 then some (.profile tag channel record) else none
  | _ => none

/-- The body of SIG-START: channel, stream, and the count in two bytes, high byte first. -/
def sigStartFields (tag : Byte) : List Byte → Option Instr
  | [channel, stream, high, low] => some (.sigStart tag channel stream (high ++ low))
  | _ => none

/-- The request row that a checked frame spells, by its KIND and the fields of its body (section 10.5); none for a KIND
outside the catalogue and for a body of another length. -/
def Instr.spelled? (tag kind : Byte) (body : List Byte) : Option Instr :=
  match kind.toNat with
  | 0x01 => noField (.ident tag) body
  | 0x02 => noField (.restart tag) body
  | 0x08 => threeFields (.portSet tag) body
  | 0x09 => noField (.portHold tag) body
  | 0x0A => noField (.portRun tag) body
  | 0x0B => threeFields (.mapSet tag) body
  | 0x0C => twoFields (.mapClear tag) body
  | 0x10 => lawLoadFields tag body
  | 0x11 => oneField (.lawCommit tag) body
  | 0x18 => profileFields tag body
  | 0x19 => oneField (.openChannel tag) body
  | 0x1A => twoFields (.applyProfile tag) body
  | 0x1B => oneField (.closeChannel tag) body
  | 0x1C => oneField (.retrain tag) body
  | 0x1D => oneField (.freeze tag) body
  | 0x1E => oneField (.thaw tag) body
  | 0x20 => oneField (.readStatus tag) body
  | 0x21 => oneField (.readConditions tag) body
  | 0x22 => oneField (.readCounters tag) body
  | 0x23 => twoFields (.readTaps tag) body
  | 0x24 => oneField (.readPool tag) body
  | 0x25 => noField (.readPort tag) body
  | 0x28 => twoFields (.noticeMask tag) body
  | 0x29 => oneField (.noticeEnable tag) body
  | 0x30 => sigStartFields tag body
  | 0x31 => noField (.sigRead tag) body
  | _ => none

/-- The command a checked frame stands for: the row it spells, or an unknown request (R164). -/
def Instr.ofFrame (tag kind : Byte) (body : List Byte) : Instr :=
  (Instr.spelled? tag kind body).getD (.unknownRequest tag kind body)

end Sys2Proof
end

