-- ==== Sys2Proof/Certificates/Slice0/Obligations.lean ====
section
/-!
DEFINITION. The statements for the provers. Each names the rules of spec/ it rests on; what is the model's own choice
is said with the number of its log entry.
-/

open Sys2Proof Sys2Proof.Machine

/-! ## The queue of commands -/

/-- A step with commands waiting runs the one at the front on the state with the queue's rest. -/
def Obligations.StepRunsFrontCommand : Prop :=
  ∀ (s : State) (i : Instr) (rest : List Instr),
    s.pending = i :: rest → step s = exec i { s with pending := rest }

/-- The model's choice (log 1; R143 and R147 give the count): a step with no command waiting is one bit clock that brings
no event of the table. While the port counts, the count advances by 1, and in MASTER returns from 255 to 0; in SLAVE at
255, where the next bit clock is the expected position of a pulse, nothing changes. -/
def Obligations.IdleStepIsOneBitClock : Prop :=
  ∀ s : State, s.pending = [] →
    step s = .next
      (if s.port.runState = .run ∧ s.port.clock = .ok ∧ (s.port.mode = .master ∨ s.port.position.toNat < 255) then
        { s with port := { s.port with position := s.port.position + 1#8 } }
      else s)

/-! ## Power-on reset -/

/-- POWER_ON_RESET gives every piece of state the value its chapter gives after power-on (R3, R10, R20, R138, R157, R173,
R178, R181), whatever stood before, with the line rate of the straps. The table entries and the tap values, which the
rules leave undefined there, are not named. The queue of commands is the model's own and stands (log 15). -/
def Obligations.PowerOnResetValues : Prop :=
  ∀ (br1 br0 : Bool) (s : State), ∃ t : State,
    exec (.powerOnReset br1 br0) s = .next t ∧
    (t.law.a.valid = false ∧ t.law.b.valid = false ∧ t.law.a.idle = none ∧ t.law.b.idle = none ∧
      t.law.buffer.target = none ∧ ∀ q : Fin 4, t.law.buffer.quarters[q.val] = none) ∧
    (∀ c : Chan, t.chan c =
      { life := .closed, profile := none, staged := .empty, openingCount := 0
        ring := List.replicate 2048 0
        sumX := 0, sumS := 0, sumE := 0, sumV := 0
        dtFlag := false, dtHangover := 0, talk := .idle, quietRun := 0
        service := .acquire, convRun := 0, changeRun := 0, divRun := 0, frozen := false
        engaged := false, nlpHangover := 0, noiseFloor := 0, noiseReg := c.val + 1
        toneMode := .normal
        toneS := { count := 0, reversal := false }, toneX := { count := 0, reversal := false }, recentS := []
        padIndex := 24, gain := 24, periodCount := 0, releaseCount := 0
        windows := [], scout := none, lastScout := 0
        lastRout := 0x00#8, lastSout := 0x00#8, freshRout := false, freshSout := false
        conditions :=
          { diverged := false, starved := false, tone := false, clipped := false, overload := false, fault := false }
        counters :=
          { dtOnsets := 0, pathChanges := 0, divergences := 0, scoutSwaps := 0, toneBypasses := 0, clipEvents := 0 }
        mask := 0x3F#8 }) ∧
    (∀ b : BlockNo, (t.block b).condition = .free ∧ (t.block b).altered = false) ∧ t.wait = [] ∧
    t.port =
      { mode := .master, offset := 0x00#8, edge := .rising, runState := .hold, sync := .locked, clock := .ok
        position := 0x00#8, missed := 0, awaiting := false
        lineMap := Vector.replicate 32 none, exchangeMap := Vector.replicate 32 none
        complete := 0#32, dropped := 0#32, frame := none, lout := none, xout := none
        slip := false, inSync := true, clockOk := true
        slips := 0, syncLosses := 0, badFrames := 0, gapTimeouts := 0, overruns := 0, mask := 0x07#8 } ∧
    t.link =
      { framer := .hunt, replies := [], notices := [], tx := .idle, enable := false
        rate := if br1 then (if br0 then .baud115200 else .baud57600) else (if br0 then .baud19200 else .baud9600) } ∧
    t.sig = { state := .idle, channel := 0, stream := .sout, remaining := 0, value := 0 } ∧
    t.pending = s.pending

/-! ## The receive framer -/

/-- A received byte moves the framer as the rows of R161 give, but for a frame whose CRC matches, and changes nothing
else but the bad-frame counter of a dropped frame. A frame is a LEN byte, its TAG, KIND and body, and the two bytes of
its CRC. An expiry of the gap timer, which runs in LENGTH and COLLECT, drops the frame and counts a gap timeout (R162);
in HUNT, where it does not run, GAP_TIMEOUT changes nothing (the model's choice, log 2). RXD spells a byte as a low start
bit, its 8 bits least significant first, and a stop bit, which is a framing error when it is low (R158). -/
def Obligations.FramerTakesBytesAndGaps : Prop :=
  ∀ (s : State) (b : Byte),
    let framed := fun f : Framer => ({ s with link := { s.link with framer := f } } : State)
    let dropped : State :=
      { framed .hunt with port := { s.port with badFrames := min 255 (s.port.badFrames + 1) } }
    (s.link.framer = .hunt →
      exec (.receivedByte 0xC5#8 false) s = .next (framed .length) ∧
      (b ≠ 0xC5#8 → exec (.receivedByte b false) s = .next s) ∧
      exec (.receivedByte b true) s = .next s) ∧
    (s.link.framer = .length →
      (2 ≤ b.toNat ∧ b.toNat ≤ 200 → exec (.receivedByte b false) s = .next (framed (.collect b.toNat []))) ∧
      (b.toNat < 2 ∨ 200 < b.toNat → exec (.receivedByte b false) s = .next dropped) ∧
      exec (.receivedByte b true) s = .next dropped) ∧
    (∀ (len : Nat) (stored : List Byte), s.link.framer = .collect len stored →
      (stored.length + 1 < len + 2 →
        exec (.receivedByte b false) s = .next (framed (.collect len (stored ++ [b])))) ∧
      exec (.receivedByte b true) s = .next dropped) ∧
    (∀ (tag kind high : Byte) (body : List Byte), body.length ≤ 198 →
      s.link.framer = .collect (body.length + 2) (tag :: kind :: body ++ [high]) →
      crc (byteOf (body.length + 2) :: tag :: kind :: body) ≠ high ++ b →
      exec (.receivedByte b false) s = .next dropped) ∧
    (s.link.framer ≠ .hunt →
      exec .gapTimeout s = .next
        { framed .hunt with port := { s.port with gapTimeouts := min 255 (s.port.gapTimeouts + 1) } }) ∧
    (s.link.framer = .hunt → exec .gapTimeout s = .next s) ∧
    ∀ stop : Bool,
      byteOnLine false (Vector.ofFn fun i : Fin 8 => b.getLsbD i.val) stop =
        some (.receivedByte b (if stop then false else true))

/-- The last CRC byte of a frame whose CRC matches is the arrival of the request the frame spells (R161, R163): the step
does what the request's own row does, with the framer back in HUNT. -/
def Obligations.CheckedFrameIsItsRequest : Prop :=
  ∀ (s : State) (tag kind high low : Byte) (body : List Byte), body.length ≤ 198 →
    s.link.framer = .collect (body.length + 2) (tag :: kind :: body ++ [high]) →
    crc (byteOf (body.length + 2) :: tag :: kind :: body) = high ++ low →
    exec (.receivedByte low false) s =
      exec (Instr.ofFrame tag kind body) { s with link := { s.link with framer := .hunt } }

/-! ## Requests and replies -/

/-- R163 and R164: with 4 replies queued a request is discarded, with the overrun counter advanced and nothing else
changed; otherwise exactly one reply, DONE or REFUSED, with the request's TAG and its KIND as first body byte, joins
the tail of what is to be sent. RESTART is the one request that takes earlier replies out of the queue first (R168). -/
def Obligations.EveryRequestIsAnsweredOnce : Prop :=
  ∀ (i : Instr) (tag kind : Byte) (s : State), i.wellFormed = true → i.request? = some (tag, kind) →
    (4 ≤ s.link.replies.length →
      exec i s = .next { s with port := { s.port with overruns := min 255 (s.port.overruns + 1) } }) ∧
    (s.HasRoom → ∃ (t : State) (r : Record), exec i s = .next t ∧
      r.tag = tag ∧ (r.kind = 0x80#8 ∨ r.kind = 0x81#8) ∧ r.body.head? = some kind ∧
      t.link.outgoing =
        (if kind = 0x02#8 then s.link.tx.reply? else s.link.outgoing) ++ [r])

/-- The refusals of R164: a frame whose KIND is no request code of the catalogue is refused with KIND, and one whose body
has another length than the catalogue gives with FORMAT. And a request that is refused, whatever the reason, leaves
everything but its own reply as it was; READ-TAPS is left out here, since its refusal may follow the handling of a
fault it found (R38), and is stated on its own. -/
def Obligations.RefusalsChangeNothing : Prop :=
  (∀ (tag kind : Byte) (body : List Byte) (s : State), s.HasRoom →
    (kind.toNat ∉ [0x01, 0x02, 0x08, 0x09, 0x0A, 0x0B, 0x0C, 0x10, 0x11, 0x18, 0x19, 0x1A, 0x1B, 0x1C, 0x1D, 0x1E,
        0x20, 0x21, 0x22, 0x23, 0x24, 0x25, 0x28, 0x29, 0x30, 0x31] →
      exec (.unknownRequest tag kind body) s = .next (s.answered (refusedRecord tag kind 0x02#8))) ∧
    (∀ n : Nat, catalogueLength kind = some n → body.length ≠ n →
      exec (.unknownRequest tag kind body) s = .next (s.answered (refusedRecord tag kind 0x01#8)))) ∧
  (∀ (i : Instr) (tag kind : Byte) (s t : State) (r : Record), i.wellFormed = true → i.request? = some (tag, kind) →
    kind ≠ 0x02#8 → kind ≠ 0x23#8 → s.HasRoom → exec i s = .next t →
    t.link.outgoing = s.link.outgoing ++ [r] → r.kind = 0x81#8 →
    ∃ reason : Byte, t = s.answered (refusedRecord tag kind reason))

/-- FRAME_SENT: the arbiter sends the head reply where there is one, otherwise the head notice, whose body is filled from
its source as it then stands (R169, R171, section 10.10.5); with nothing queued the transmitter is idle. Nothing else
changes. With no frame on TXD a FRAME_SENT changes nothing (the model's choice, log 2). TXD carries the bytes of a frame
back to back, each a low start bit, 8 bits least significant first and a high stop bit, and is high where no frame is
sent (R158, R159). -/
def Obligations.FrameSentBeginsTheNext : Prop :=
  ∀ s : State,
    (s.link.tx = .idle → exec .frameSent s = .next s) ∧
    (s.link.tx ≠ .idle →
      (∀ (r : Record) (rest : List Record), s.link.replies = r :: rest →
        exec .frameSent s = .next { s with link := { s.link with replies := rest, tx := .reply r } }) ∧
      (∀ (n : Notice) (rest : List Notice), s.link.replies = [] → s.link.notices = n :: rest →
        exec .frameSent s = .next
          { s with
            link :=
              { s.link with
                notices := rest
                tx := .notice n
                  { kind := 0xC0#8, tag := 0x00#8
                    body := [sourceCode n.source, noticeCode n.kind, byteOf n.count] ++ s.sourceBytes n.source } } }) ∧
      (s.link.replies = [] → s.link.notices = [] →
        exec .frameSent s = .next { s with link := { s.link with tx := .idle } })) ∧
    (∀ k : Nat, Transmitter.idle.txd k = true) ∧
    ∀ (n : Notice) (r : Record) (tx : Transmitter), tx = .reply r ∨ tx = .notice n r →
      let covered := byteOf (r.body.length + 2) :: r.tag :: r.kind :: r.body
      let bytes := 0xC5#8 :: covered ++ [byteOf ((crc covered).toNat / 256), byteOf (crc covered).toNat]
      (∀ (i : Nat) (b : Byte), bytes[i]? = some b →
        tx.txd (10 * i) = false ∧ (∀ j : Nat, j < 8 → tx.txd (10 * i + 1 + j) = b.getLsbD j) ∧
          tx.txd (10 * i + 9) = true) ∧
      ∀ k : Nat, 10 * bytes.length ≤ k → tx.txd k = true

/-- A notice event (R170) with the master enable off or the kind masked leaves everything as it was. One that passes
coalesces with the queued notice of its source and kind, or joins the tail with count 1, while a frame is being sent;
with the transmitter idle and both queues empty it begins at once, filled from its source (R169, R171, section
10.10.5). -/
def Obligations.NoticeEventQueuesOrCoalesces : Prop :=
  ∀ (s : State) (u : Source) (k : NoticeKind),
    (s.link.enable = false ∨ (s.maskOf u).getLsbD (maskBit k) = false → s.raiseNotice u k = s) ∧
    (s.link.enable = true → (s.maskOf u).getLsbD (maskBit k) = true →
      (s.link.tx ≠ .idle →
        (∀ (before after : List Notice) (n : Nat),
          s.link.notices = before ++ { source := u, kind := k, count := n } :: after →
          (s.link.notices.map fun m => (m.source, m.kind)).Nodup →
          s.raiseNotice u k =
            { s with
              link :=
                { s.link with
                  notices := before ++ { source := u, kind := k, count := min 255 (n + 1) } :: after } }) ∧
        ((∀ m ∈ s.link.notices, m.source ≠ u ∨ m.kind ≠ k) →
          s.raiseNotice u k =
            { s with
              link := { s.link with notices := s.link.notices ++ [{ source := u, kind := k, count := 1 }] } })) ∧
      (s.link.tx = .idle → s.link.replies = [] → s.link.notices = [] →
        s.raiseNotice u k =
          { s with
            link :=
              { s.link with
                tx := .notice { source := u, kind := k, count := 1 }
                  { kind := 0xC0#8, tag := 0x00#8
                    body := [sourceCode u, noticeCode k, 0x01#8] ++ s.sourceBytes u } } }))

/-- R166: IDENT is answered with the part code 3220 (0C94h), the revision 1, the channel count 32, the block count 192 and
the number of retired blocks, and changes nothing else; RESTART keeps the retired count. -/
def Obligations.IdentNamesThePart : Prop :=
  ∀ (tag : Byte) (s : State), s.HasRoom →
    exec (.ident tag) s = .next
      (s.answered (doneRecord tag 0x01#8 [0x0C#8, 0x94#8, 0x01#8, 0x20#8, 0xC0#8, byteOf s.retiredCount])) ∧
    s.retiredCount ≤ 192 ∧
    ∀ t : State, exec (.restart tag) s = .next t → t.retiredCount = s.retiredCount

/-- RESTART (R168, and the rules it names: R10, R76, R139, R173, R178, R181): with room in the reply queue, the next state
field by field. The transmitter's frame goes on, the reply of RESTART is the only one queued, and every field not
written here is kept. -/
def Obligations.RestartValues : Prop :=
  ∀ (tag : Byte) (s : State), s.HasRoom → ∃ t : State,
    exec (.restart tag) s = .next t ∧
    t.law = { s.law with buffer := { target := none, quarters := Vector.replicate 4 none } } ∧
    (∀ c : Chan, t.chan c =
      if (s.chan c).life = .closed then
        { s.chan c with staged := .empty, conditions := .clear, counters := .zero, mask := 0x3F#8 }
      else
        { s.chan c with
          staged := .empty, conditions := .clear, counters := .zero, mask := 0x3F#8
          life := .closed, profile := none, frozen := false, windows := [], scout := none }) ∧
    (∀ b : BlockNo, t.block b =
      match (s.block b).condition with
      | .held c => if (s.chan c).life = .closed then s.block b else { s.block b with condition := .free }
      | _ => s.block b) ∧
    t.wait = [] ∧
    t.port =
      { s.port with
        mask := 0x07#8, slip := false, inSync := s.port.sync == .locked, clockOk := s.port.clock == .ok
        slips := 0, syncLosses := 0, badFrames := 0, gapTimeouts := 0, overruns := 0 } ∧
    t.link =
      ({ s.link with enable := false, notices := [], replies := [], framer := .hunt } : Link).withReply
        (doneRecord tag 0x02#8 []) ∧
    t.sig = { state := .idle, channel := 0, stream := .sout, remaining := 0, value := 0 } ∧
    t.pending = s.pending

/-- R172: NOTICE-MASK replaces the mask of the source it names and NOTICE-ENABLE sets the master enable; each is answered
with what it set, refused with RANGE outside its values, and changes no queued notice and nothing else. After
power-on reset and after RESTART every mask passes every kind of its source and the master enable is off. -/
def Obligations.NoticeMaskAndEnable : Prop :=
  ∀ (tag m : Byte) (s : State), s.HasRoom →
    (∀ c : Chan, m.toNat < 64 →
      exec (.noticeMask tag (byteOf c.val) m) s = .next
        ((s.setChan c { s.chan c with mask := m }).answered (doneRecord tag 0x28#8 [byteOf c.val, m]))) ∧
    (m.toNat < 8 →
      exec (.noticeMask tag 0x40#8 m) s = .next
        (({ s with port := { s.port with mask := m } } : State).answered (doneRecord tag 0x28#8 [0x40#8, m]))) ∧
    (∀ source : Byte,
      (31 < source.toNat ∧ source ≠ 0x40#8) ∨ (source.toNat ≤ 31 ∧ 64 ≤ m.toNat) ∨ (source = 0x40#8 ∧ 8 ≤ m.toNat) →
      exec (.noticeMask tag source m) s = .next (s.answered (refusedRecord tag 0x28#8 0x03#8))) ∧
    exec (.noticeEnable tag 0x00#8) s = .next
      (({ s with link := { s.link with enable := false } } : State).answered (doneRecord tag 0x29#8 [0x00#8])) ∧
    exec (.noticeEnable tag 0x01#8) s = .next
      (({ s with link := { s.link with enable := true } } : State).answered (doneRecord tag 0x29#8 [0x01#8])) ∧
    (1 < m.toNat → exec (.noticeEnable tag m) s = .next (s.answered (refusedRecord tag 0x29#8 0x03#8))) ∧
    (∀ (br1 br0 : Bool) (t : State),
      exec (.powerOnReset br1 br0) s = .next t ∨ exec (.restart tag) s = .next t →
      t.link.enable = false ∧ t.port.mask = 0x07#8 ∧ ∀ c : Chan, (t.chan c).mask = 0x3F#8)

/-! ## The highway port -/

/-- PORT-SET (R144): in HOLD the three settings replace the configuration, and a port set to MASTER while sync is LOST is
IN sync again and raises SYNC; in RUN it is refused with STATE; a mode or an edge of no value is refused with RANGE. -/
def Obligations.PortSetReplacesConfiguration : Prop :=
  ∀ (tag offset : Byte) (s : State), s.HasRoom →
    (∀ (m : PortMode) (e : Edge),
      (s.port.runState = .hold →
        let set : State :=
          { s with
            port :=
              { s.port with
                mode := m, offset := offset, edge := e, sync := if m = .master then .locked else s.port.sync } }
        exec (.portSet tag (modeCode m) offset (edgeCode e)) s = .next
          ((if m = .master ∧ s.port.sync = .lost then set.raiseNotice .port .sync else set).answered
            (doneRecord tag 0x08#8 [modeCode m, offset, edgeCode e]))) ∧
      (s.port.runState = .run →
        exec (.portSet tag (modeCode m) offset (edgeCode e)) s = .next
          (s.answered (refusedRecord tag 0x08#8 0x04#8)))) ∧
    (∀ mode edge : Byte, 1 < mode.toNat ∨ 1 < edge.toNat →
      exec (.portSet tag mode offset edge) s = .next (s.answered (refusedRecord tag 0x08#8 0x03#8)))

/-- PORT-HOLD and PORT-RUN (R145, R146, R151). Framing that stops drops the frame in progress, stops driving both OUT
pins, and clears the awaiting-pulse mark and every fresh mark; framing that starts sets the position and missed-pulse
counts to 0 and, in SLAVE, the awaiting-pulse mark. A request for the state that stands changes nothing. That framing
starts within the step of PORT-RUN, and not on the bit clock after it, is the model's choice (log 18). -/
def Obligations.PortHoldAndRun : Prop :=
  ∀ (tag : Byte) (s : State), s.HasRoom →
    (s.port.runState = .run →
      exec (.portHold tag) s = .next
        (({ s with
            port :=
              { s.port with
                runState := .hold, awaiting := false, frame := none, lout := none, xout := none
                dropped := if s.port.frame = none then s.port.dropped else s.port.dropped + 1#32 }
            channels := s.channels.map fun ch => { ch with freshRout := false, freshSout := false } } : State).answered
          (doneRecord tag 0x09#8 [0x00#8])) ∧
      exec (.portRun tag) s = .next (s.answered (doneRecord tag 0x0A#8 [0x01#8]))) ∧
    (s.port.runState = .hold →
      exec (.portHold tag) s = .next (s.answered (doneRecord tag 0x09#8 [0x00#8])) ∧
      (s.port.clock = .ok →
        exec (.portRun tag) s = .next
          (({ s with
              port :=
                { s.port with
                  runState := .run, position := 0x00#8, missed := 0, awaiting := s.port.mode == .slave } } :
              State).answered (doneRecord tag 0x0A#8 [0x01#8]))) ∧
      (s.port.clock = .lost →
        exec (.portRun tag) s = .next
          (({ s with port := { s.port with runState := .run } } : State).answered
            (doneRecord tag 0x0A#8 [0x01#8]))))

/-- MAP-SET and MAP-CLEAR (R154, R155): what each answers and writes, by the entry named, the life state of the channel
and the other slots of that highway; nothing but the entry and the reply changes. -/
def Obligations.MapRequestsWriteOneEntry : Prop :=
  ∀ (tag : Byte) (h : Highway) (n : Slot) (c : Chan) (s : State), s.HasRoom →
    let code := if h = .line then 0x00#8 else 0x01#8
    let map := if h = .line then s.port.lineMap else s.port.exchangeMap
    let written := fun entry : Option Chan =>
      ({ s with
          port :=
            if h = .line then { s.port with lineMap := s.port.lineMap.set n.val entry }
            else { s.port with exchangeMap := s.port.exchangeMap.set n.val entry } } : State)
    let setDone := doneRecord tag 0x0B#8 [code, byteOf n.val, byteOf c.val]
    let clearDone := doneRecord tag 0x0C#8 [code, byteOf n.val]
    (map[n.val] = some c →
      exec (.mapSet tag code (byteOf n.val) (byteOf c.val)) s = .next (s.answered setDone)) ∧
    (map[n.val] ≠ some c → (s.chan c).life ≠ .closed →
      exec (.mapSet tag code (byteOf n.val) (byteOf c.val)) s = .next
        (s.answered (refusedRecord tag 0x0B#8 0x04#8))) ∧
    (map[n.val] ≠ some c → (s.chan c).life = .closed →
      (map[n.val] ≠ none ∨ ∃ k : Slot, map[k.val] = some c) →
      exec (.mapSet tag code (byteOf n.val) (byteOf c.val)) s = .next
        (s.answered (refusedRecord tag 0x0B#8 0x08#8))) ∧
    (map[n.val] = none → (s.chan c).life = .closed → (∀ k : Slot, map[k.val] ≠ some c) →
      exec (.mapSet tag code (byteOf n.val) (byteOf c.val)) s = .next ((written (some c)).answered setDone)) ∧
    (map[n.val] = none →
      exec (.mapClear tag code (byteOf n.val)) s = .next (s.answered clearDone)) ∧
    (map[n.val] = some c → (s.chan c).life = .closed →
      exec (.mapClear tag code (byteOf n.val)) s = .next ((written none).answered clearDone)) ∧
    (map[n.val] = some c → (s.chan c).life ≠ .closed →
      exec (.mapClear tag code (byteOf n.val)) s = .next (s.answered (refusedRecord tag 0x0C#8 0x04#8))) ∧
    (∀ highway slot channel : Byte,
      (1 < highway.toNat ∨ 31 < slot.toNat ∨ 31 < channel.toNat →
        exec (.mapSet tag highway slot channel) s = .next (s.answered (refusedRecord tag 0x0B#8 0x03#8))) ∧
      (1 < highway.toNat ∨ 31 < slot.toNat →
        exec (.mapClear tag highway slot) s = .next (s.answered (refusedRecord tag 0x0C#8 0x03#8))))

/-- FRAME_BEGIN, FRAME_COMPLETE and MASTER_FRAME_PULSE while the port frames (R143, R147, R153, R155): a frame begins
where the count equals the offset, with the maps as they stand; it is complete 255 bit clocks on, with the
complete-frame count advanced; in MASTER the frame pulse is driven exactly where the position count is 0. The model's
choices: the bit clocks up to the offset pass within FRAME_BEGIN, and a SLAVE port whose count is past the offset begins
no frame before its next pulse position (log 8); both OUT pins are let go in the step of FRAME_COMPLETE (log 17). -/
def Obligations.FramesBeginAndComplete : Prop :=
  ∀ s : State, s.port.runState = .run → s.port.clock = .ok →
    (s.port.awaiting = false → s.port.frame = none →
      s.port.mode = .slave → s.port.offset.toNat < s.port.position.toNat → exec .frameBegin s = .next s) ∧
    (s.port.awaiting = false → s.port.frame = none →
      s.port.mode = .master ∨ s.port.position.toNat ≤ s.port.offset.toNat →
      exec .frameBegin s = .next
        { s with
          port :=
            { s.port with
              position := s.port.offset
              frame := some
                { lineMap := s.port.lineMap, exchangeMap := s.port.exchangeMap, arrived := []
                  lineBegun := 0, exchangeBegun := 0 } } }) ∧
    (s.port.awaiting = false → s.port.frame ≠ none →
      exec .frameComplete s = .next
        { s with
          port :=
            { s.port with
              position := s.port.offset + 255#8, frame := none, complete := s.port.complete + 1#32
              lout := none, xout := none } }) ∧
    (s.port.mode = .master →
      exec .masterFramePulse s = .next { s with port := { s.port with position := 0x00#8 } } ∧
      s.port.fpPin = some (decide (s.port.position = 0x00#8)))

/-- SLOT_SENT (R18, R143, R153): an assigned OUT slot of the frame in progress drives the last Sout code of its channel on
LOUT, or the last Rout code on XOUT, and clears that stream's fresh mark, and the signature unit sees the slot; an
unassigned slot is not driven. The pin carries bit b of the code, the most significant first, on bit clock b of the
slot, and is at high impedance on every bit clock outside the slot. That a slot counts as sent from its first bit is the
model's choice (log 21). -/
def Obligations.SlotSentDrivesLastCode : Prop :=
  ∀ (s : State) (f : Frame) (n : Slot),
    s.port.runState = .run → s.port.clock = .ok → s.port.awaiting = false → s.port.frame = some f →
    let start := s.port.offset + BitVec.ofNat 8 (8 * n.val)
    (f.lineBegun ≤ n.val →
      (f.lineMap[n.val] = none →
        exec (.slotSent .line n) s = .next
          { s with
            port := { s.port with position := start, lout := none, frame := some { f with lineBegun := n.val + 1 } } }) ∧
      (∀ c : Chan, f.lineMap[n.val] = some c →
        exec (.slotSent .line n) s = .next
          ((({ s with
                port :=
                  { s.port with
                    position := start, lout := some (s.chan c).lastSout
                    frame := some { f with lineBegun := n.val + 1 } } } : State).setChan c
              { s.chan c with freshSout := false }).watchSlot c .sout (s.chan c).freshSout (s.chan c).lastSout))) ∧
    (f.exchangeBegun ≤ n.val →
      (f.exchangeMap[n.val] = none →
        exec (.slotSent .exchange n) s = .next
          { s with
            port :=
              { s.port with position := start, xout := none, frame := some { f with exchangeBegun := n.val + 1 } } }) ∧
      (∀ c : Chan, f.exchangeMap[n.val] = some c →
        exec (.slotSent .exchange n) s = .next
          ((({ s with
                port :=
                  { s.port with
                    position := start, xout := some (s.chan c).lastRout
                    frame := some { f with exchangeBegun := n.val + 1 } } } : State).setChan c
              { s.chan c with freshRout := false }).watchSlot c .rout (s.chan c).freshRout (s.chan c).lastRout))) ∧
    ∀ (q : Port) (code : Byte), q.offset = s.port.offset →
      (q.frame = some { f with lineBegun := n.val + 1 } ∧ q.lout = some code →
        (∀ b : Nat, b < 8 → q.position = start + BitVec.ofNat 8 b → q.outPin .line = some (code.getLsbD (7 - b))) ∧
        ((∀ b : Nat, b < 8 → q.position ≠ start + BitVec.ofNat 8 b) → q.outPin .line = none)) ∧
      (q.frame = some { f with exchangeBegun := n.val + 1 } ∧ q.xout = some code →
        (∀ b : Nat, b < 8 → q.position = start + BitVec.ofNat 8 b → q.outPin .exchange = some (code.getLsbD (7 - b))) ∧
        ((∀ b : Nat, b < 8 → q.position ≠ start + BitVec.ofNat 8 b) → q.outPin .exchange = none)) ∧
      (q.lout = none → q.outPin .line = none) ∧ (q.xout = none → q.outPin .exchange = none) ∧
      (q.frame = none → q.outPin .line = none ∧ q.outPin .exchange = none)

/-- FRAME_PULSE in SLAVE with the port clocked (R146, R148, R150). In sync and aligned: at the expected position the frame
goes on, anywhere else is a slip, which cuts the frame and is counted. Awaiting its first pulse: the port aligns, with
no slip. Sync lost: it is regained with a SYNC notice, the frame cut unless the pulse is at the expected position. -/
def Obligations.FramePulseAlignsSlipsOrRegains : Prop :=
  ∀ (s : State) (position : Byte),
    s.port.mode = .slave → s.port.runState = .run → s.port.clock = .ok →
    let aligned : Port := { s.port with position := 0x00#8, missed := 0, awaiting := false }
    let cut : Port :=
      { aligned with
        frame := none, lout := none, xout := none
        dropped := if s.port.frame = none then s.port.dropped else s.port.dropped + 1#32 }
    (s.port.sync = .locked → s.port.awaiting = true ∨ position = 0x00#8 →
      exec (.framePulse position) s = .next { s with port := aligned }) ∧
    (s.port.sync = .locked → s.port.awaiting = false → position ≠ 0x00#8 →
      exec (.framePulse position) s = .next
        { s with port := { cut with slips := min 255 (s.port.slips + 1), slip := true } }) ∧
    (s.port.sync = .lost → position = 0x00#8 →
      exec (.framePulse position) s = .next
        (({ s with port := { aligned with sync := .locked } } : State).raiseNotice .port .sync)) ∧
    (s.port.sync = .lost → position ≠ 0x00#8 →
      exec (.framePulse position) s = .next
        (({ s with port := { cut with sync := .locked } } : State).raiseNotice .port .sync))

/-- MISSED_PULSE and SYNC_LOSS in SLAVE with the port clocked (R148, R149): the position count returns to 0 and the
missed-pulse count advances, to 4 at most; at 4 with sync IN, sync is lost, counted, latched and noticed; at 4 with
sync already LOST, a port still awaiting its first pulse begins framing on its own count and nothing is counted.
SYNC_LOSS on its own is the loss, where its trigger stands (log 2). -/
def Obligations.MissedPulsesLoseSync : Prop :=
  ∀ s : State, s.port.mode = .slave → s.port.runState = .run → s.port.clock = .ok →
    let passed : Port := { s.port with position := 0x00#8, missed := s.port.missed + 1 }
    let full : Port := { s.port with position := 0x00#8, missed := 4 }
    let lost := fun p : Port =>
      (({ s with
          port :=
            { p with
              sync := .lost, awaiting := false, syncLosses := min 255 (s.port.syncLosses + 1), inSync := false } } :
          State).raiseNotice .port .sync)
    (s.port.missed < 3 → exec .missedPulse s = .next { s with port := passed }) ∧
    (3 ≤ s.port.missed → s.port.sync = .locked → exec .missedPulse s = .next (lost full)) ∧
    (3 ≤ s.port.missed → s.port.sync = .lost →
      exec .missedPulse s = .next { s with port := { full with awaiting := false } }) ∧
    (s.port.missed = 4 → s.port.sync = .locked → exec .syncLoss s = .next (lost s.port))

/-- CLOCK_LOSS and CLOCK_RETURN (R151): the clock state changes, CLOCK-OK is latched low at a loss, a CLOCK notice is
raised, and in RUN framing stops or starts as at PORT-HOLD and PORT-RUN; in HOLD nothing else changes. -/
def Obligations.ClockLossAndReturn : Prop :=
  ∀ s : State,
    (s.port.clock = .ok →
      let lost := ({ s with port := { s.port with clock := .lost, clockOk := false } } : State).raiseNotice .port .clock
      (s.port.runState = .hold → exec .clockLoss s = .next lost) ∧
      (s.port.runState = .run →
        exec .clockLoss s = .next
          { lost with
            port :=
              { s.port with
                clock := .lost, clockOk := false, awaiting := false, frame := none, lout := none, xout := none
                dropped := if s.port.frame = none then s.port.dropped else s.port.dropped + 1#32 }
            channels := s.channels.map fun ch => { ch with freshRout := false, freshSout := false } })) ∧
    (s.port.clock = .lost →
      let back := ({ s with port := { s.port with clock := .ok } } : State).raiseNotice .port .clock
      (s.port.runState = .hold → exec .clockReturn s = .next back) ∧
      (s.port.runState = .run →
        exec .clockReturn s = .next
          { back with
            port :=
              { s.port with
                clock := .ok, position := 0x00#8, missed := 0, awaiting := s.port.mode == .slave } }))

/-- R156: READ-PORT reports the configuration, the run, sync, awaiting and clock states, the two frame counts and the two
maps as the latest requests left them, and changes nothing. -/
def Obligations.ReadPortReportsThePort : Prop :=
  ∀ (tag : Byte) (s : State), s.HasRoom →
    exec (.readPort tag) s = .next
      (s.answered (doneRecord tag 0x25#8
        ([modeCode s.port.mode, s.port.offset, edgeCode s.port.edge, runCode s.port.runState, syncCode s.port.sync,
            if s.port.awaiting then 0x01#8 else 0x00#8, clockCode s.port.clock]
          ++ be32 s.port.complete.toNat ++ be32 s.port.dropped.toNat
          ++ s.port.lineMap.toList.map mapEntryCode ++ s.port.exchangeMap.toList.map mapEntryCode)))

/-! ## The law store -/

/-- LAW-LOAD (R7): 64 entries within −32767..+32767 become the quarter named, after the quarters held for the other table
are dropped; the reply gives the target and, a bit for each quarter, the quarter set. A table, a quarter or an entry
out of range is refused with RANGE. Neither table is touched. -/
def Obligations.LawLoadStoresOneQuarter : Prop :=
  ∀ (tag : Byte) (entries : List Half) (s : State), s.HasRoom → entries.length = 64 →
    (∀ (t : TableName) (q : Fin 4), (∀ e ∈ entries, -32767 ≤ e.toInt ∧ e.toInt ≤ 32767) →
      ∃ (quarters : Vector (Option (List Int)) 4) (held : Byte),
        exec (.lawLoad tag (tableCode (some t)) (byteOf q.val) entries) s = .next
          (({ s with law := { s.law with buffer := { target := some t, quarters := quarters } } } : State).answered
            (doneRecord tag 0x10#8 [tableCode (some t), held])) ∧
        quarters[q.val] = some (entries.map BitVec.toInt) ∧
        (∀ k : Fin 4, k ≠ q →
          quarters[k.val] = if s.law.buffer.target = some t then s.law.buffer.quarters[k.val] else none) ∧
        held.toNat < 16 ∧ ∀ k : Fin 4, held.getLsbD k.val = (quarters[k.val]).isSome) ∧
    (∀ table quarter : Byte,
      (1 < table.toNat ∨ 3 < quarter.toNat ∨ ∃ e ∈ entries, e.toInt < -32767 ∨ 32767 < e.toInt) →
      exec (.lawLoad tag table quarter entries) s = .next (s.answered (refusedRecord tag 0x10#8 0x03#8)))

/-- LAW-COMMIT that is not refused (R6, R9): the 256 buffered entries replace the named table, which is valid with the
compression of 0 as its idle code; the buffer is emptied; the other table and everything else is kept. -/
def Obligations.LawCommitReplacesTheTable : Prop :=
  ∀ (tag : Byte) (t : TableName) (q0 q1 q2 q3 : List Int) (s : State), s.HasRoom →
    s.law.buffer = { target := some t, quarters := #v[some q0, some q1, some q2, some q3] } →
    (q0 ++ q1 ++ q2 ++ q3).Nodup →
    ∀ idle : Byte, idle = compress { entries := q0 ++ q1 ++ q2 ++ q3, valid := true, idle := none } 0 →
    let table : LawTable := { entries := q0 ++ q1 ++ q2 ++ q3, valid := true, idle := some idle }
    exec (.lawCommit tag (tableCode (some t))) s = .next
      (({ s with
          law :=
            { a := if t = .a then table else s.law.a
              b := if t = .b then table else s.law.b
              buffer := { target := none, quarters := Vector.replicate 4 none } } } : State).answered
        (doneRecord tag 0x11#8 [tableCode (some t), idle]))

/-- R8: LAW-COMMIT is refused with RANGE where the name is neither A nor B, and otherwise with LAW where the buffer's
target is none or the other table, where a quarter is missing, or where two of the buffered entries are equal; the
buffer and the tables stay as they were. -/
def Obligations.LawCommitRefusals : Prop :=
  ∀ (tag : Byte) (s : State), s.HasRoom →
    (∀ table : Byte, 1 < table.toNat →
      exec (.lawCommit tag table) s = .next (s.answered (refusedRecord tag 0x11#8 0x03#8))) ∧
    (∀ t : TableName,
      s.law.buffer.target ≠ some t ∨ (∃ q : Fin 4, s.law.buffer.quarters[q.val] = none) ∨
        (∃ q0 q1 q2 q3 : List Int,
          s.law.buffer.quarters = #v[some q0, some q1, some q2, some q3] ∧ ¬(q0 ++ q1 ++ q2 ++ q3).Nodup) →
      exec (.lawCommit tag (tableCode (some t))) s = .next (s.answered (refusedRecord tag 0x11#8 0x07#8)))

/-! ## Sample arithmetic -/

/-- R5: the compression of `v` is the code whose entry is nearest to `v`, the lowest code of those at the least
difference; in a table whose entries are distinct, an entry compresses to its own code. -/
def Obligations.CompressGivesNearestCode : Prop :=
  ∀ (t : LawTable) (v : Int), t.entries.length = 256 →
    (∀ j : Nat, j < 256 →
      (expand t (compress t v) - v).natAbs ≤ (t.entries.getD j 0 - v).natAbs ∧
      ((t.entries.getD j 0 - v).natAbs = (expand t (compress t v) - v).natAbs → (compress t v).toNat ≤ j)) ∧
    (t.entries.Nodup → ∀ k : Byte, compress t (expand t k) = k)

/-- R2: the product rule. The result is the saturation of the integer nearest to `v × M / 4096`, the one away from zero
where two are equally near; with M = 4096 it is `v`; and it has the sign of `v` or is 0. The multipliers are those of
the gain table (R12): M_g is the integer nearest to 4096 × 10^((g − 24)/40), told here through its 40th power; the table
is strictly increasing, with the entries that R12 lists. -/
def Obligations.ProductRuleRoundsAwayFromZero : Prop :=
  (∀ (v : Int) (m : Nat), -32767 ≤ v → v ≤ 32767 →
    (∃ q : Int, scale v m = max (-32767) (min 32767 q) ∧
      2 * (4096 * q - v * m).natAbs ≤ 4096 ∧
      (2 * (4096 * q - v * m).natAbs = 4096 → (v * m).natAbs ≤ 4096 * q.natAbs)) ∧
    scale v 4096 = v ∧ (0 ≤ v → 0 ≤ scale v m) ∧ (v ≤ 0 → scale v m ≤ 0)) ∧
  (∀ g : Nat, g ≤ 48 →
    0 < gainOf g ∧ (2 * gainOf g - 1) ^ 40 * 10 ^ 24 < 8192 ^ 40 * 10 ^ g ∧
      8192 ^ 40 * 10 ^ g < (2 * gainOf g + 1) ^ 40 * 10 ^ 24) ∧
  (∀ g : Nat, g < 48 → gainOf g < gainOf (g + 1)) ∧
  [0, 8, 12, 16, 21, 22, 23, 24, 25, 26, 27, 32, 36, 40, 48].map gainOf =
    [1029, 1631, 2053, 2584, 3446, 3651, 3867, 4096, 4339, 4596, 4868, 6492, 8173, 10289, 16306]

/-- The echo estimate (R27) is the saturation of the integer nearest to the exact sum over 2^23, the one away from zero
of two equally near. A tap (R31) moves by the integer nearest to step × e × x × 2^23 / (64 × (P + 65536)), the one
toward zero of two equally near, and is clamped to its range. -/
def Obligations.EstimateAndUpdateRounding : Prop :=
  (∀ total : Int, ∃ q : Int, estimateOf total = max (-32767) (min 32767 q) ∧
    2 * (8388608 * q - total).natAbs ≤ 8388608 ∧
    (2 * (8388608 * q - total).natAbs = 8388608 → total.natAbs ≤ 8388608 * q.natAbs)) ∧
  (∀ (step : Nat) (e : Int) (power : Nat) (t x : Int), ∃ d : Int,
    movedTap step e power t x = max (-8388608) (min 8388607 (t + d)) ∧
    2 * (64 * (power + 65536) * d - step * e * x * 8388608).natAbs ≤ 64 * (power + 65536) ∧
    (2 * (64 * (power + 65536) * d - step * e * x * 8388608).natAbs = 64 * (power + 65536) →
      64 * (power + 65536) * d.natAbs ≤ (step * e * x * 8388608).natAbs))

/-! ## Channel life cycle -/

/-- PROFILE (R125, R126, R127 with the layout of section 10.10.3): a record whose fields are within their values, after
the clamps, replaces the staged slot unless an apply is pending, which is refused with BUSY; any other record, and a
channel above 31, is refused with RANGE. The reply lists the clamped fields. -/
def Obligations.ProfileChecksClampsAndStages : Prop :=
  ∀ (tag : Byte) (c : Chan) (r : List Byte) (s : State), s.HasRoom → r.length = 23 →
    let u := fun i : Nat => (byteAt r i).toNat
    let index := fun i : Nat => max 0 (min 48 (byteAt r i).toInt)
    let pins := (r.drop 5).take (u 4)
    let accepted : Prop :=
      u 0 ≤ 1 ∧ u 1 ≤ 1 ∧ u 2 ≤ 32 ∧ 2 ≤ u 3 ∧ u 3 ≤ 8 ∧ u 4 ≤ 4 ∧ u 4 ≤ u 3 - 1 ∧ (∀ p ∈ pins, p.toNat ≤ 31) ∧
        pins.Nodup ∧ u 9 ≤ 31 ∧ u 11 ≤ 2 ∧ u 12 ∈ [0, 6, 12] ∧ u 13 ≤ 3 ∧ u 14 ∈ [6, 12, 18] ∧ u 15 ≤ 2 ∧ u 16 ≤ 1 ∧
        index 19 ≤ index 20
    (accepted → (s.chan c).staged.pendingRecord = none →
      ∃ (p : Profile) (clamped : Byte),
        exec (.profile tag (byteOf c.val) r) s = .next
          ((s.setChan c { s.chan c with staged := .staged p }).answered
            (doneRecord tag 0x18#8 [byteOf c.val, clamped])) ∧
        p.lineLaw = (if u 0 = 0 then .a else .b) ∧ p.exchangeLaw = (if u 1 = 0 then .a else .b) ∧
        p.bulk = u 2 ∧ p.quota = u 3 ∧ p.pins.Pairwise (fun a b => a < b) ∧
        (∀ q : Pos, q ∈ p.pins ↔ byteOf q.val ∈ pins) ∧ p.initialPos.val = u 9 ∧
        (p.step : Int) = max 1 (min 64 (byteAt r 10).toInt) ∧
        p.floor = (if u 11 = 0 then .low else if u 11 = 1 then .normal else .high) ∧
        p.echoLoss = (if u 12 = 0 then .db0 else if u 12 = 6 then .db6 else .db12) ∧
        p.nlpMode = (if u 13 = 0 then .pass else if u 13 = 1 then .soft else if u 13 = 2 then .noise else .silent) ∧
        p.nlpMargin = (if u 14 = 6 then .db6 else if u 14 = 12 then .db12 else .db18) ∧
        p.tonePolicy = (if u 15 = 0 then .ignore else if u 15 = 1 then .nlpOnly else .full) ∧
        p.alcOn = decide (u 16 = 1) ∧ p.target = max 64 (min 8192 (halfAt r 17).toNat) ∧
        (p.gmin : Int) = index 19 ∧ (p.gmax : Int) = index 20 ∧ (p.fixedIndex : Int) = index 21 ∧
        (p.padIndex : Int) = index 22 ∧
        (∀ i : Nat, clamped.getLsbD i =
          decide ((i = 0 ∧ (p.step : Int) ≠ (byteAt r 10).toInt) ∨ (i = 1 ∧ p.target ≠ (halfAt r 17).toNat) ∨
            (i = 2 ∧ (p.gmin : Int) ≠ (byteAt r 19).toInt) ∨ (i = 3 ∧ (p.gmax : Int) ≠ (byteAt r 20).toInt) ∨
            (i = 4 ∧ (p.fixedIndex : Int) ≠ (byteAt r 21).toInt) ∨
            (i = 5 ∧ (p.padIndex : Int) ≠ (byteAt r 22).toInt)))) ∧
    (accepted → (s.chan c).staged.pendingRecord ≠ none →
      exec (.profile tag (byteOf c.val) r) s = .next (s.answered (refusedRecord tag 0x18#8 0x05#8))) ∧
    (¬accepted → exec (.profile tag (byteOf c.val) r) s = .next (s.answered (refusedRecord tag 0x18#8 0x03#8))) ∧
    (∀ channel : Byte, 31 < channel.toNat →
      exec (.profile tag channel r) s = .next (s.answered (refusedRecord tag 0x18#8 0x03#8)))

/-- An accepted OPEN (R45, R116, R130): the staged record becomes the active profile, the lowest free blocks are handed
over zeroed, a window stands at each pin or one at the initial position, in ascending order of blocks, the scout holds
the last block at the lowest unoccupied position, every running field takes its open value, and MODE is raised. -/
def Obligations.OpenBuildsTheChannel : Prop :=
  ∀ (tag : Byte) (c : Chan) (p : Profile) (s : State), s.HasRoom →
    (s.chan c).life = .closed → (s.chan c).staged = .staged p → p.FieldsSound →
    (∃ n : Slot, s.port.lineMap[n.val] = some c) → (∃ n : Slot, s.port.exchangeMap[n.val] = some c) →
    ∀ lineIdle exchangeIdle : Byte,
    (s.law.table p.lineLaw).valid = true → (s.law.table p.lineLaw).idle = some lineIdle →
    (s.law.table p.exchangeLaw).valid = true → (s.law.table p.exchangeLaw).idle = some exchangeIdle →
    let count := if p.pins = [] then 2 else p.pins.length + 1
    let taken := s.freeBlocks.take count
    count ≤ s.freeBlocks.length →
    ∃ (t : State) (scoutPos : Pos) (scoutBlock : BlockNo) (ws : List Window),
      exec (.openChannel tag (byteOf c.val)) s = .next
        ((t.raiseNotice (.channel c) .mode).answered (doneRecord tag 0x19#8 [byteOf c.val])) ∧
      s.AgreesBut t c ∧ t.wait = s.wait ∧
      ws =
        (if p.pins = [] then [{ pos := p.initialPos, kind := .found, block := taken.head? }]
        else List.zipWith (fun q b => { pos := q, kind := .pinned, block := some b }) p.pins taken) ∧
      taken.getLast? = some scoutBlock ∧ LowestFree (ws.map Window.pos) scoutPos ∧
      (∀ b : BlockNo, t.block b =
        if b ∈ taken then { taps := List.replicate 32 0, condition := .held c, altered := false } else s.block b) ∧
      t.chan c =
        { s.chan c with
          life := .opening, profile := some p, staged := .empty, openingCount := 0
          ring := List.replicate 2048 0
          sumX := 0, sumS := 0, sumE := 0, sumV := 0
          dtFlag := false, dtHangover := 0, talk := .idle, quietRun := 0
          service := .acquire, convRun := 0, changeRun := 0, divRun := 0, frozen := false
          engaged := false, nlpHangover := 0, noiseFloor := 0, noiseReg := c.val + 1
          toneMode := .normal
          toneS := { count := 0, reversal := false }, toneX := { count := 0, reversal := false }, recentS := []
          padIndex := p.padIndex
          gain := if p.alcOn then max p.gmin (min p.gmax p.fixedIndex) else p.fixedIndex
          periodCount := 0, releaseCount := 0
          windows := ws, scout := some { pos := scoutPos, block := scoutBlock, dwell := 0 }, lastScout := scoutPos
          lastRout := exchangeIdle, lastSout := lineIdle, freshRout := false, freshSout := false }

/-- The refusals of OPEN (R129), in the order of its table, each leaving everything but the reply as it was. -/
def Obligations.OpenRefusals : Prop :=
  ∀ (tag : Byte) (s : State), s.HasRoom →
    (∀ channel : Byte, 31 < channel.toNat →
      exec (.openChannel tag channel) s = .next (s.answered (refusedRecord tag 0x19#8 0x03#8))) ∧
    ∀ c : Chan,
      let mapped : Prop :=
        (∃ n : Slot, s.port.lineMap[n.val] = some c) ∧ ∃ n : Slot, s.port.exchangeMap[n.val] = some c
      let refused := fun reason : Byte =>
        exec (.openChannel tag (byteOf c.val)) s = .next (s.answered (refusedRecord tag 0x19#8 reason))
      ((s.chan c).life ≠ .closed → refused 0x04#8) ∧
      ((s.chan c).life = .closed → (s.chan c).staged = .empty → refused 0x04#8) ∧
      ∀ p : Profile, (s.chan c).life = .closed → (s.chan c).staged = .staged p →
        let valid : Prop := (s.law.table p.lineLaw).valid = true ∧ (s.law.table p.exchangeLaw).valid = true
        (¬mapped → refused 0x08#8) ∧
        (mapped → ¬valid → refused 0x07#8) ∧
        (mapped → valid → s.freeBlocks.length < (if p.pins = [] then 2 else p.pins.length + 1) → refused 0x06#8)

/-- APPLY on an ACTIVE channel whose staged record keeps the bulk offset and the pins (R133, R135, R121): without force the
slot becomes PENDING; with force, where the windows are within the new quota, the record becomes the active profile, the
pad and the gain index follow it, the slot is EMPTY and APPLIED is raised. Any other APPLY is refused, in the order of
the table. -/
def Obligations.ApplyMarksOrTakesEffect : Prop :=
  ∀ (tag : Byte) (s : State), s.HasRoom →
    (∀ (c : Chan) (p active : Profile),
      (s.chan c).life = .active → (s.chan c).profile = some active → (s.chan c).staged = .staged p →
      let same : Prop := p.bulk = active.bulk ∧ p.pins = active.pins
      let valid : Prop := (s.law.table p.lineLaw).valid = true ∧ (s.law.table p.exchangeLaw).valid = true
      (same → valid →
        exec (.applyProfile tag (byteOf c.val) 0x00#8) s = .next
          ((s.setChan c { s.chan c with staged := .pending p }).answered
            (doneRecord tag 0x1A#8 [byteOf c.val, 0x00#8])) ∧
        ((s.chan c).windows.length + 1 ≤ p.quota →
          exec (.applyProfile tag (byteOf c.val) 0x01#8) s = .next
            (((s.setChan c
                { s.chan c with
                  profile := some p, staged := .empty, padIndex := p.padIndex
                  gain := if p.alcOn then max p.gmin (min p.gmax (s.chan c).gain) else p.fixedIndex
                  periodCount := if active.alcOn = p.alcOn then (s.chan c).periodCount else 0
                  releaseCount := if active.alcOn = p.alcOn then (s.chan c).releaseCount else 0 }).raiseNotice
              (.channel c) .applied).answered (doneRecord tag 0x1A#8 [byteOf c.val, 0x01#8])))) ∧
      ∀ force : Byte, force.toNat ≤ 1 →
        (¬same →
          exec (.applyProfile tag (byteOf c.val) force) s = .next (s.answered (refusedRecord tag 0x1A#8 0x04#8))) ∧
        (same → ¬valid →
          exec (.applyProfile tag (byteOf c.val) force) s = .next (s.answered (refusedRecord tag 0x1A#8 0x07#8)))) ∧
    (∀ channel force : Byte, 31 < channel.toNat ∨ 1 < force.toNat →
      exec (.applyProfile tag channel force) s = .next (s.answered (refusedRecord tag 0x1A#8 0x03#8))) ∧
    (∀ (c : Chan) (force : Byte), force.toNat ≤ 1 →
      ((s.chan c).life ≠ .active ∨ (s.chan c).staged = .empty ∨ (s.chan c).staged.pendingRecord ≠ none) →
      exec (.applyProfile tag (byteOf c.val) force) s = .next (s.answered (refusedRecord tag 0x1A#8 0x04#8)))

/-- A forced APPLY in a sound pool (R61, R121, R133, R135), whether or not it lowers the quota below the windows: the
active profile, the pad, g, the ALC counts, the EMPTY slot, the windows that leave, weakest first, and the place each
returned block goes to (R68, R69; `State.ApplyGives`), then APPLIED and the reply; nothing else changes. The windows come
within the new quota, the windows that stay are windows that stood, in order, and a window that leaves is FOUND and weaker
than every FOUND window that stays, by energy and then by position; a channel within the new quota loses none. -/
def Obligations.ApplyReturnsTheWeakestWindows : Prop :=
  ∀ (tag : Byte) (c : Chan) (p active : Profile) (s t : State), s.HasRoom → s.PoolSound →
    (s.chan c).life = .active → (s.chan c).profile = some active → (s.chan c).staged = .staged p →
    p.bulk = active.bulk → p.pins = active.pins →
    (s.law.table p.lineLaw).valid = true → (s.law.table p.exchangeLaw).valid = true →
    (∃ u : State,
      exec (.applyProfile tag (byteOf c.val) 0x01#8) s = .next
        ((u.raiseNotice (.channel c) .applied).answered (doneRecord tag 0x1A#8 [byteOf c.val, 0x01#8])) ∧
      s.ApplyGives u c active p ∧ u.law = s.law ∧ u.port = s.port ∧ u.link = s.link ∧ u.sig = s.sig ∧
      u.pending = s.pending) ∧
    (exec (.applyProfile tag (byteOf c.val) 0x01#8) s = .next t →
    (t.chan c).quotaCount ≤ p.quota ∧
    ((t.chan c).windows.map Window.pos).Sublist ((s.chan c).windows.map Window.pos) ∧
    (∀ w ∈ (t.chan c).windows, w.kind = .found → w ∈ (s.chan c).windows) ∧
    (∀ w ∈ (s.chan c).windows, w.pos ∉ (t.chan c).windows.map Window.pos →
      w.kind = .found ∧ p.quota ≤ (t.chan c).quotaCount ∧
        ∀ v ∈ (t.chan c).windows, v.kind = .found →
          s.windowEnergy w < s.windowEnergy v ∨ (s.windowEnergy w = s.windowEnergy v ∧ w.pos < v.pos)))

/-- CLOSE (R68, R69, R136, R137): the channel's wait entries leave the list, its blocks go back in ascending order, each to
the entry then at the head, whose pin it fills or whose scout it becomes (R57), or to the free set, a signature that watches the channel is aborted, and the channel is
CLOSED with an EMPTY slot and no windows, scout or profile, everything else of it kept; MODE is raised. A CLOSED
channel is refused with STATE and a channel above 31 with RANGE. The queues of the link are sound (R165, R169, R170). -/
def Obligations.CloseReturnsEveryBlock : Prop :=
  ∀ (tag : Byte) (s : State), s.HasRoom → s.QueuesSound →
    (∀ c : Chan, (s.chan c).life ≠ .closed →
      let held := s.heldBlocks c
      let waiters := s.wait.filter fun e => e.chan ≠ c
      let watched : Prop := s.sig.state = .running ∧ s.sig.channel = c
      ∃ t : State,
        exec (.closeChannel tag (byteOf c.val)) s = .next
          ((t.raiseNotice (.channel c) .mode).answered (doneRecord tag 0x1B#8 [byteOf c.val])) ∧
        t.law = s.law ∧ t.port = s.port ∧ t.pending = s.pending ∧
        t.chan c =
          { s.chan c with
            life := .closed, profile := none, staged := .empty, frozen := false, windows := [], scout := none } ∧
        (∀ d : Chan, d ≠ c → (∀ e ∈ waiters.take held.length, e.chan ≠ d) → t.chan d = s.chan d) ∧
        t.wait = waiters.drop held.length ∧
        (∀ b : BlockNo, b ∉ held → t.block b = s.block b) ∧
        (∀ (i : Nat) (b : BlockNo), held[i]? = some b →
          (∀ e : WaitEntry, waiters[i]? = some e →
            t.block b = { taps := List.replicate 32 0, condition := .held e.chan, altered := false }) ∧
          (waiters[i]? = none → t.block b = { s.block b with condition := .free })) ∧
        (s.wait.Nodup → (∀ d : Chan, (s.chan d).windows.length ≤ 7) →
          ∀ d : Chan, d ≠ c → (s.chan d).ServedBy (t.chan d) d (waiters.zip held)) ∧
        (¬watched → t.sig = s.sig ∧ t.link = s.link) ∧
        (watched →
          t.sig = { s.sig with state := .aborted } ∧
          t.link = (({ s with sig := { s.sig with state := .aborted } } : State).raiseNotice .port .signature).link)) ∧
    (∀ c : Chan, (s.chan c).life = .closed →
      exec (.closeChannel tag (byteOf c.val)) s = .next (s.answered (refusedRecord tag 0x1B#8 0x04#8))) ∧
    (∀ channel : Byte, 31 < channel.toNat →
      exec (.closeChannel tag channel) s = .next (s.answered (refusedRecord tag 0x1B#8 0x03#8)))

/-- A block returned to the pool (R57, R68): with nobody waiting it joins the free set and keeps its values; otherwise it
passes, zeroed, to the channel of the head entry, which leaves the list: into the vacant pin the entry names, or as a
scout with dwell count 0 at the next unoccupied position after the last scout position. -/
def Obligations.ReturnedBlockServesTheHead : Prop :=
  ∀ (s : State) (b : BlockNo),
    (s.wait = [] → s.returnBlock b = s.setBlock b { s.block b with condition := .free }) ∧
    (∀ (e : WaitEntry) (rest : List WaitEntry), s.wait = e :: rest →
      (s.returnBlock b).wait = rest ∧ s.AgreesBut (s.returnBlock b) e.chan ∧
      (s.returnBlock b).block b = { taps := List.replicate 32 0, condition := .held e.chan, altered := false } ∧
      (∀ k : BlockNo, k ≠ b → (s.returnBlock b).block k = s.block k) ∧
      (∀ p : Pos, e.claim = .pin p →
        (s.returnBlock b).chan e.chan =
          { s.chan e.chan with
            windows := (s.chan e.chan).windows.map fun w =>
              if w.pos = p ∧ w.kind = .pinned ∧ w.block = none then { w with block := some b } else w }) ∧
      (e.claim = .scout → (s.chan e.chan).windows.length ≤ 7 →
        ∃ q : Pos, NextFree ((s.chan e.chan).windows.map Window.pos) (s.chan e.chan).lastScout q ∧
          (s.returnBlock b).chan e.chan =
            { s.chan e.chan with scout := some { pos := q, block := b, dwell := 0 }, lastScout := q }))

/-- RETRAIN on an ACTIVE channel of a sound pool (R59, R95): the mode is ACQUIRE with the runs at 0, every block the channel
still holds has zero taps, the windows are the pins alone, which keep their blocks, or without pins the one at the initial
position, with the lowest freed block, else the lowest free block, else no window. The blocks freed and not used go back
zeroed in ascending order, each to the head of the wait list or to the free set (R68, R69). The scout is at the lowest
unoccupied position with dwell count 0, a scout that step 4 itself hands back included (DEDUCED, log 10), and an absent one
stays absent. MODE is raised where the mode was TRACK. An OPENING or CLOSED channel is refused with STATE. -/
def Obligations.RetrainStartsOver : Prop :=
  ∀ (tag : Byte) (s : State), s.HasRoom →
    (∀ (c : Chan) (p : Profile), s.PoolSound → (s.chan c).life = .active → (s.chan c).profile = some p →
      let freed := s.freeBlocks ++ allBlocks.filter fun b =>
        (s.chan c).windows.any fun w => w.kind == .found && w.block == some b
      ∃ t : State,
        exec (.retrain tag (byteOf c.val)) s = .next
          ((if (s.chan c).service = .track then t.raiseNotice (.channel c) .mode else t).answered
            (doneRecord tag 0x1C#8 [byteOf c.val])) ∧
        t.law = s.law ∧ t.port = s.port ∧ t.link = s.link ∧ t.sig = s.sig ∧ t.pending = s.pending ∧
        t.chan c =
          { s.chan c with
            service := .acquire, convRun := 0, changeRun := 0, divRun := 0
            windows := (t.chan c).windows, scout := (t.chan c).scout, lastScout := (t.chan c).lastScout } ∧
        (∀ b : BlockNo, (t.block b).condition = .held c → (t.block b).taps = List.replicate 32 0) ∧
        (p.pins ≠ [] → (t.chan c).windows.map Window.pos = p.pins ∧ ∀ w ∈ (t.chan c).windows, w.kind = .pinned) ∧
        (p.pins = [] →
          (∀ w ∈ (t.chan c).windows, w.pos = p.initialPos ∧ w.kind = .found) ∧
          ((∃ w ∈ (s.chan c).windows, w.kind = .found) →
            ∃ b : BlockNo, (t.chan c).windows = [{ pos := p.initialPos, kind := .found, block := some b }] ∧
              (∃ w ∈ (s.chan c).windows, w.kind = .found ∧ w.block = some b) ∧
              ∀ w ∈ (s.chan c).windows, ∀ k : BlockNo, w.kind = .found → w.block = some k → b ≤ k)) ∧
        (∀ k ∈ (s.chan c).scout, ∃ q : Pos, LowestFree ((t.chan c).windows.map Window.pos) q ∧
          (t.chan c).scout = some { pos := q, block := k.block, dwell := 0 } ∧ (t.chan c).lastScout = q) ∧
        (s.wait = [] → ∀ d : Chan, d ≠ c → t.chan d = s.chan d) ∧
        (∀ b : BlockNo, b ∉ freed → (s.block b).condition ≠ .held c → t.block b = s.block b) ∧
        let left := allBlocks.filter fun b =>
          (s.chan c).windows.any fun w => w.kind == .found && w.block == some b
        let returned := if p.pins = [] then left.drop 1 else left
        let handed := s.wait.zip returned
        let zeroed : State :=
          { s with
            blocks := s.blocks.map fun k =>
              if k.condition = .held c then { k with taps := List.replicate 32 0, altered := false } else k }
        let rebuilt := if p.pins = [] ∧ left = [] then s.freeBlocks.head? else none
        zeroed.Returns t returned ∧
        (∀ b : BlockNo, b ∉ returned → rebuilt ≠ some b → t.block b = zeroed.block b) ∧
        (∀ f ∈ rebuilt,
          t.block f = { taps := List.replicate 32 0, condition := .held c, altered := false }) ∧
        (t.chan c).windows =
          (if p.pins = [] then
            ((left.head?.or rebuilt).map fun b => { pos := p.initialPos, kind := .found, block := some b }).toList
          else fillPins c handed ((s.chan c).windows.filter fun w => w.kind == .pinned)) ∧
        ((s.chan c).scout = none →
          (∀ b : BlockNo, ({ chan := c, claim := .scout }, b) ∈ handed →
            ∃ q : Pos, LowestFree ((t.chan c).windows.map Window.pos) q ∧
              (t.chan c).scout = some { pos := q, block := b, dwell := 0 } ∧ (t.chan c).lastScout = q) ∧
          ((∀ k ∈ handed, k.1 ≠ { chan := c, claim := .scout }) →
            (t.chan c).scout = none ∧ (t.chan c).lastScout = (s.chan c).lastScout)) ∧
        ∀ d : Chan, d ≠ c → (s.chan d).ServedBy (t.chan d) d handed) ∧
    (∀ c : Chan, (s.chan c).life ≠ .active →
      exec (.retrain tag (byteOf c.val)) s = .next (s.answered (refusedRecord tag 0x1C#8 0x04#8))) ∧
    (∀ channel : Byte, 31 < channel.toNat →
      exec (.retrain tag channel) s = .next (s.answered (refusedRecord tag 0x1C#8 0x03#8)))

/-- FREEZE and THAW (R93): on an open channel the FROZEN flag takes the value asked for, MODE is raised where that changed
it, and the reply gives the flag; a CLOSED channel is refused with STATE and a channel above 31 with RANGE. -/
def Obligations.FreezeAndThaw : Prop :=
  ∀ (tag : Byte) (s : State), s.HasRoom →
    (∀ c : Chan, (s.chan c).life ≠ .closed →
      (exec (.freeze tag (byteOf c.val)) s = .next
        ((if (s.chan c).frozen then s
          else (s.setChan c { s.chan c with frozen := true }).raiseNotice (.channel c) .mode).answered
          (doneRecord tag 0x1D#8 [byteOf c.val, 0x01#8]))) ∧
      exec (.thaw tag (byteOf c.val)) s = .next
        ((if (s.chan c).frozen then (s.setChan c { s.chan c with frozen := false }).raiseNotice (.channel c) .mode
          else s).answered (doneRecord tag 0x1E#8 [byteOf c.val, 0x00#8]))) ∧
    (∀ c : Chan, (s.chan c).life = .closed →
      exec (.freeze tag (byteOf c.val)) s = .next (s.answered (refusedRecord tag 0x1D#8 0x04#8)) ∧
      exec (.thaw tag (byteOf c.val)) s = .next (s.answered (refusedRecord tag 0x1E#8 0x04#8))) ∧
    (∀ channel : Byte, 31 < channel.toNat →
      exec (.freeze tag channel) s = .next (s.answered (refusedRecord tag 0x1D#8 0x03#8)) ∧
      exec (.thaw tag channel) s = .next (s.answered (refusedRecord tag 0x1E#8 0x03#8)))

/-! ## Reading the part -/

/-- READ-STATUS (R26, R62, R71, R167, section 10.10.4): every block the channel holds is tested, and one that fails is
handled as a block fault in its turn; then the 59 bytes of the status record tell the channel as it stands, and nothing
else changes. Where every test passes, nothing changes at all. A channel above 31 is refused with RANGE. -/
def Obligations.ReadStatusReportsTheChannel : Prop :=
  ∀ (tag : Byte) (s : State), s.HasRoom →
    (∀ c : Chan, (s.chan c).windows.length ≤ 7 →
      let t := s.tested c
      ∃ fields : List Byte,
        exec (.readStatus tag (byteOf c.val)) s = .next (t.answered (doneRecord tag 0x20#8 fields)) ∧
        ((∀ k ∈ (s.chan c).covered, (s.block k.2).altered = false) → t = s) ∧
        fields.length = 59 ∧
        fields.take 20 =
          [byteOf c.val, lifeCode (t.chan c).life, serviceCode (t.chan c).service, toneModeCode (t.chan c).toneMode,
            (if (t.chan c).frozen then 0x01#8 else 0x00#8), talkCode (t.chan c).talk, stagedCode (t.chan c).staged,
            (if ∃ e ∈ t.wait, e.chan = c then 0x01#8 else 0x00#8)]
          ++ be16 ((t.chan c).sumX / 32) ++ be16 ((t.chan c).sumS / 32) ++ be16 ((t.chan c).sumE / 32)
          ++ be16 ((t.chan c).sumV / 32)
          ++ [byteOf (t.chan c).noiseFloor, byteOf (t.chan c).gain, byteOf (t.chan c).padIndex,
            byteOf (t.chan c).windows.length] ∧
        (∀ (i : Nat) (w : Window), (t.chan c).windows[i]? = some w →
          (fields.drop (20 + 5 * i)).take 5 =
            match w.block with
            | some b =>
              [byteOf w.pos.val, kindCode w.kind, byteOf b.val]
                ++ be16 (min 65535 (sumSquares (t.block b).taps / 4294967296))
            | none => [byteOf w.pos.val, kindCode w.kind, 0xFF#8, 0x00#8, 0x00#8]) ∧
        (∀ i : Nat, (t.chan c).windows.length ≤ i → i < 7 →
          (fields.drop (20 + 5 * i)).take 5 = List.replicate 5 0x00#8) ∧
        fields.drop 55 =
          match (t.chan c).scout with
          | some k => [0x01#8, byteOf k.pos.val] ++ be16 k.dwell
          | none => [0x00#8, 0x00#8, 0x00#8, 0x00#8]) ∧
    (∀ channel : Byte, 31 < channel.toNat →
      exec (.readStatus tag channel) s = .next (s.answered (refusedRecord tag 0x20#8 0x03#8)))

/-- R176 with R175: READ-CONDITIONS reports the source's condition byte, then clears its latched-high marks and moves the
two latched-low values to their present states; a source that is neither is refused with RANGE; no other source is
touched. -/
def Obligations.ReadConditionsReportsAndClears : Prop :=
  ∀ (tag : Byte) (s : State), s.HasRoom →
    (∀ c : Chan, ∃ k : Byte,
      exec (.readConditions tag (byteOf c.val)) s = .next
        ((s.setChan c
          { s.chan c with
            conditions :=
              { diverged := false, starved := false, tone := false, clipped := false, overload := false
                fault := false } }).answered (doneRecord tag 0x21#8 [byteOf c.val, k])) ∧
      k.getLsbD 0 = (s.chan c).conditions.diverged ∧ k.getLsbD 1 = (s.chan c).conditions.starved ∧
      k.getLsbD 2 = (s.chan c).conditions.tone ∧ k.getLsbD 3 = (s.chan c).conditions.clipped ∧
      k.getLsbD 4 = (s.chan c).conditions.overload ∧ k.getLsbD 5 = (s.chan c).conditions.fault ∧
      k.getLsbD 6 = false ∧ k.getLsbD 7 = false) ∧
    (∃ k : Byte,
      exec (.readConditions tag 0x40#8) s = .next
        (({ s with
            port :=
              { s.port with
                slip := false, inSync := decide (s.port.sync = .locked), clockOk := decide (s.port.clock = .ok) } } :
            State).answered (doneRecord tag 0x21#8 [0x40#8, k])) ∧
      k.getLsbD 0 = s.port.slip ∧ k.getLsbD 1 = s.port.inSync ∧ k.getLsbD 2 = s.port.clockOk ∧
      ∀ i : Nat, 3 ≤ i → k.getLsbD i = false) ∧
    (∀ source : Byte, 31 < source.toNat → source ≠ 0x40#8 →
      exec (.readConditions tag source) s = .next (s.answered (refusedRecord tag 0x21#8 0x03#8)))

/-- R177: READ-COUNTERS reports the source's counters, one byte each in the order of the table, then sets them to 0; a
source that is neither is refused with RANGE; a READ-COUNTERS that is itself discarded counts one overrun and clears
nothing. -/
def Obligations.ReadCountersReportsAndClears : Prop :=
  ∀ (tag : Byte) (s : State),
    (s.HasRoom →
      (∀ c : Chan,
        exec (.readCounters tag (byteOf c.val)) s = .next
          ((s.setChan c
            { s.chan c with
              counters :=
                { dtOnsets := 0, pathChanges := 0, divergences := 0, scoutSwaps := 0, toneBypasses := 0
                  clipEvents := 0 } }).answered
            (doneRecord tag 0x22#8
              [byteOf c.val, byteOf (s.chan c).counters.dtOnsets, byteOf (s.chan c).counters.pathChanges,
                byteOf (s.chan c).counters.divergences, byteOf (s.chan c).counters.scoutSwaps,
                byteOf (s.chan c).counters.toneBypasses, byteOf (s.chan c).counters.clipEvents]))) ∧
      exec (.readCounters tag 0x40#8) s = .next
        (({ s with
            port := { s.port with slips := 0, syncLosses := 0, badFrames := 0, gapTimeouts := 0, overruns := 0 } } :
            State).answered
          (doneRecord tag 0x22#8
            [0x40#8, byteOf s.port.slips, byteOf s.port.syncLosses, byteOf s.port.badFrames,
              byteOf s.port.gapTimeouts, byteOf s.port.overruns])) ∧
      (∀ source : Byte, 31 < source.toNat → source ≠ 0x40#8 →
        exec (.readCounters tag source) s = .next (s.answered (refusedRecord tag 0x22#8 0x03#8)))) ∧
    (4 ≤ s.link.replies.length → ∀ source : Byte,
      exec (.readCounters tag source) s = .next
        { s with port := { s.port with overruns := min 255 (s.port.overruns + 1) } })

/-- READ-TAPS (R36, R37, R38): the place a position or the scout selector names is answered with its role, position, block,
energy code and 32 taps, and nothing changes; where nothing with a block stands there, or the channel is CLOSED, it is
refused with STATE; a channel or a selector out of range is refused with RANGE. A block that fails its test is handled
as a fault first, and the request is answered against what then stands: a rebuilt pin or scout with its fresh block, and
a vacant pin, a lost FOUND window, an absent scout or a position the scout has left with STATE. -/
def Obligations.ReadTapsAnswersThePlace : Prop :=
  ∀ (tag : Byte) (s : State), s.HasRoom →
    (∀ (c : Chan) (selector : Byte), (s.chan c).life ≠ .closed →
      let answer := fun (t : State) (role : Byte) (p : Pos) (b : BlockNo) =>
        t.answered
          (doneRecord tag 0x23#8
            ([byteOf c.val, selector, role, byteOf p.val, byteOf b.val]
              ++ be16 (min 65535 (sumSquares (t.block b).taps / 4294967296)) ++ (t.block b).taps.flatMap be24))
      (∀ (w : Window) (before after : List Window) (b : BlockNo), selector = byteOf w.pos.val →
        (s.chan c).windows = before ++ w :: after → (∀ v ∈ before, v.pos ≠ w.pos) → w.block = some b →
        (s.block b).altered = false →
        exec (.readTaps tag (byteOf c.val) selector) s = .next (answer s (kindCode w.kind) w.pos b)) ∧
      (∀ k ∈ (s.chan c).scout,
        selector = 0x80#8 ∨ (selector = byteOf k.pos.val ∧ ∀ w ∈ (s.chan c).windows, w.pos ≠ k.pos) →
        (s.block k.block).altered = false →
        exec (.readTaps tag (byteOf c.val) selector) s = .next (answer s 0x02#8 k.pos k.block)) ∧
      (∀ p : Pos, selector = byteOf p.val → (∀ w ∈ (s.chan c).windows, w.pos = p → w.block = none) →
        (∀ k ∈ (s.chan c).scout, k.pos = p → ∃ w ∈ (s.chan c).windows, w.pos = p) →
        exec (.readTaps tag (byteOf c.val) selector) s = .next (s.answered (refusedRecord tag 0x23#8 0x04#8))) ∧
      (selector = 0x80#8 → (s.chan c).scout = none →
        exec (.readTaps tag (byteOf c.val) selector) s = .next (s.answered (refusedRecord tag 0x23#8 0x04#8))) ∧
      (∀ k ∈ (s.chan c).scout, selector = 0x80#8 → (s.block k.block).altered = true →
        let handled := s.blockFault c k.block
        (∀ k2 ∈ (handled.chan c).scout,
          exec (.readTaps tag (byteOf c.val) selector) s = .next (answer handled 0x02#8 k2.pos k2.block)) ∧
        ((handled.chan c).scout = none →
          exec (.readTaps tag (byteOf c.val) selector) s = .next
            (handled.answered (refusedRecord tag 0x23#8 0x04#8)))) ∧
      (s.PoolSound →
        (∀ w ∈ (s.chan c).windows, ∀ b : BlockNo, selector = byteOf w.pos.val → w.block = some b →
          (s.block b).altered = true →
          let handled := s.blockFault c b
          let refused :=
            exec (.readTaps tag (byteOf c.val) selector) s = .next
              (handled.answered (refusedRecord tag 0x23#8 0x04#8))
          (w.kind = .pinned →
            (∀ f : BlockNo, s.freeBlocks.head? = some f →
              exec (.readTaps tag (byteOf c.val) selector) s = .next (answer handled 0x00#8 w.pos f)) ∧
            (s.freeBlocks = [] → refused)) ∧
          (w.kind = .found → refused)) ∧
        (∀ k ∈ (s.chan c).scout, selector = byteOf k.pos.val → (s.block k.block).altered = true →
          let handled := s.blockFault c k.block
          (∀ k2 ∈ (handled.chan c).scout, k2.pos = k.pos →
            exec (.readTaps tag (byteOf c.val) selector) s = .next (answer handled 0x02#8 k2.pos k2.block)) ∧
          ((∀ k2 ∈ (handled.chan c).scout, k2.pos ≠ k.pos) →
            exec (.readTaps tag (byteOf c.val) selector) s = .next
              (handled.answered (refusedRecord tag 0x23#8 0x04#8)))))) ∧
    (∀ (c : Chan) (selector : Byte), (s.chan c).life = .closed → selector.toNat ≤ 31 ∨ selector = 0x80#8 →
      exec (.readTaps tag (byteOf c.val) selector) s = .next (s.answered (refusedRecord tag 0x23#8 0x04#8))) ∧
    (∀ channel selector : Byte, 31 < channel.toNat ∨ (31 < selector.toNat ∧ selector ≠ 0x80#8) →
      exec (.readTaps tag channel selector) s = .next (s.answered (refusedRecord tag 0x23#8 0x03#8)))

/-- READ-POOL (R75): the free, held and retired counts, which add up to 192, the length of the wait list, up to 80 of its
entries from the start index on, and every channel's held count; nothing changes. A start index above 159 is refused
with RANGE. -/
def Obligations.ReadPoolReportsThePool : Prop :=
  ∀ (tag start : Byte) (s : State), s.HasRoom →
    (start.toNat ≤ 159 → ∃ free held retired : Nat,
      exec (.readPool tag start) s = .next
        (s.answered (doneRecord tag 0x24#8
          ([byteOf free, byteOf held, byteOf retired, byteOf s.wait.length, start]
            ++ ((s.wait.drop start.toNat).take 80).flatMap (fun e =>
              [byteOf e.chan.val, match e.claim with | .pin p => byteOf p.val | .scout => 0x80#8])
            ++ (List.finRange 32).map fun c =>
              byteOf (((List.finRange 192).filter fun b => (s.block b).condition = .held c).length)))) ∧
      free = ((List.finRange 192).filter fun b => (s.block b).condition = .free).length ∧
      retired = ((List.finRange 192).filter fun b => (s.block b).condition = .retired).length ∧
      held = ((List.finRange 32).map fun c =>
        ((List.finRange 192).filter fun b => (s.block b).condition = .held c).length).sum ∧
      free + held + retired = 192) ∧
    (159 < start.toNat → exec (.readPool tag start) s = .next (s.answered (refusedRecord tag 0x24#8 0x03#8)))

/-! ## The signature unit -/

/-- SIG-START (R179) sets the record for a new run of an ACTIVE channel, from IDLE, DONE and ABORTED alike; its refusals
come in the order of the table. A watched slot that is sent fresh is folded (R180): the value doubled, less 65535 where
the result is 65536 or more, plus the code, modulo 65536; at remaining count 0 the run is DONE and SIGNATURE is raised,
which is what SIGNATURE_DONE does on its own (log 2). Any other slot leaves the record as it stands. -/
def Obligations.SignatureStartsAndFolds : Prop :=
  (∀ (tag : Byte) (s : State), s.HasRoom →
    (∀ (c : Chan) (stream : SigStream) (count : Half), count ≠ 0#16 →
      let code := if stream = .sout then 0x00#8 else 0x01#8
      (s.sig.state ≠ .running → (s.chan c).life = .active →
        exec (.sigStart tag (byteOf c.val) code count) s = .next
          (({ s with
              sig := { state := .running, channel := c, stream := stream, remaining := count.toNat, value := 0 } } :
              State).answered
            (doneRecord tag 0x30#8 ([byteOf c.val, code] ++ be16 count.toNat)))) ∧
      (s.sig.state = .running →
        exec (.sigStart tag (byteOf c.val) code count) s = .next (s.answered (refusedRecord tag 0x30#8 0x05#8))) ∧
      (s.sig.state ≠ .running → (s.chan c).life ≠ .active →
        exec (.sigStart tag (byteOf c.val) code count) s = .next (s.answered (refusedRecord tag 0x30#8 0x04#8)))) ∧
    (∀ (channel stream : Byte) (count : Half), 31 < channel.toNat ∨ 1 < stream.toNat ∨ count = 0#16 →
      exec (.sigStart tag channel stream count) s = .next (s.answered (refusedRecord tag 0x30#8 0x03#8)))) ∧
  (∀ (s : State) (c : Chan) (stream : SigStream) (fresh : Bool) (code : Byte),
    let watched : Prop := s.sig.state = .running ∧ s.sig.channel = c ∧ s.sig.stream = stream ∧ fresh = true
    let doubled := 2 * s.sig.value
    let folded : Signature :=
      { s.sig with
        remaining := s.sig.remaining - 1
        value := ((if 65536 ≤ doubled then doubled - 65535 else doubled) + code.toNat) % 65536 }
    (¬watched → s.watchSlot c stream fresh code = s) ∧
    (watched → 1 < s.sig.remaining → s.watchSlot c stream fresh code = { s with sig := folded }) ∧
    (watched → s.sig.remaining = 1 →
      s.watchSlot c stream fresh code =
        ({ s with sig := { folded with state := .done } } : State).raiseNotice .port .signature)) ∧
  ∀ s : State, s.sig.state = .running → s.sig.remaining = 0 →
    exec .signatureDone s = .next
      (({ s with sig := { s.sig with state := .done } } : State).raiseNotice .port .signature)

/-- R182: SIG-READ is answered DONE in every state with the state, the channel, the stream and the remaining count, and with
the value where the state is DONE and nowhere else; it changes nothing. -/
def Obligations.SigReadReportsTheRecord : Prop :=
  ∀ (tag : Byte) (s : State), s.HasRoom →
    exec (.sigRead tag) s = .next
      (s.answered (doneRecord tag 0x31#8
        ([sigStateCode s.sig.state, byteOf s.sig.channel.val, if s.sig.stream = .sout then 0x00#8 else 0x01#8]
          ++ be16 s.sig.remaining ++ if s.sig.state = .done then be16 s.sig.value else [])))

/-! ## Block faults -/

/-- A block fault of a block that a channel holds in one role (R58, R64, R67, R71): the block is retired with its values
kept, FAULT is latched and noticed, and then a lost scout or pin takes the lowest free block, zeroed, or joins the wait
list, a scout at its tail and a pin behind the last PIN entry, while a lost FOUND window leaves the list. -/
def Obligations.BlockFaultRetiresAndRebuilds : Prop :=
  ∀ (s : State) (c : Chan) (b : BlockNo), s.PoolSound → (s.block b).condition = .held c →
    let ch := (s.blockFault c b).chan c
    let base : Channel := { s.chan c with conditions := { (s.chan c).conditions with fault := true } }
    let fresh : Block := { taps := List.replicate 32 0, condition := .held c, altered := false }
    ((s.blockFault c b).block b = { s.block b with condition := .retired } ∧
      (∀ k : BlockNo, k ≠ b → s.freeBlocks.head? ≠ some k → (s.blockFault c b).block k = s.block k) ∧
      (∀ d : Chan, d ≠ c → (s.blockFault c b).chan d = s.chan d) ∧
      (s.blockFault c b).law = s.law ∧ (s.blockFault c b).port = s.port ∧ (s.blockFault c b).sig = s.sig ∧
      (s.blockFault c b).pending = s.pending ∧
      (s.blockFault c b).link =
        (((s.setBlock b { s.block b with condition := .retired }).setChan c base).raiseNotice
          (.channel c) .fault).link) ∧
    (∀ k ∈ (s.chan c).scout, k.block = b →
      (∀ f : BlockNo, s.freeBlocks.head? = some f →
        (s.blockFault c b).block f = fresh ∧ (s.blockFault c b).wait = s.wait ∧
        ∃ q : Pos, NextFree ((s.chan c).windows.map Window.pos) (s.chan c).lastScout q ∧
          ch = { base with scout := some { pos := q, block := f, dwell := 0 }, lastScout := q }) ∧
      (s.freeBlocks = [] →
        ch = { base with scout := none } ∧ (s.blockFault c b).wait = s.wait ++ [{ chan := c, claim := .scout }])) ∧
    (∀ w ∈ (s.chan c).windows, w.block = some b →
      (w.kind = .found →
        ch = { base with windows := (s.chan c).windows.filter fun v => v.pos ≠ w.pos } ∧
        (s.blockFault c b).wait = s.wait ∧ ∀ f : BlockNo, f ≠ b → (s.blockFault c b).block f = s.block f) ∧
      (w.kind = .pinned →
        (∀ f : BlockNo, s.freeBlocks.head? = some f →
          (s.blockFault c b).block f = fresh ∧ (s.blockFault c b).wait = s.wait ∧
          ch =
            { base with
              windows := (s.chan c).windows.map fun v => if v.pos = w.pos then { v with block := some f } else v }) ∧
        (s.freeBlocks = [] →
          ch =
            { base with
              windows := (s.chan c).windows.map fun v => if v.pos = w.pos then { v with block := none } else v } ∧
          ∃ pins scouts : List WaitEntry, s.wait = pins ++ scouts ∧ (∀ e ∈ pins, e.claim ≠ .scout) ∧
            (∀ e ∈ scouts, e.claim = .scout) ∧
            (s.blockFault c b).wait = pins ++ { chan := c, claim := .pin w.pos } :: scouts)))

/-! ## Sample arrivals -/

/-- SAMPLE_ARRIVAL of a CLOSED channel that its frame owes an arrival (R18, R132, R152): the Rin code becomes the last Rout
code and the Sin code the last Sout code, both fresh, and the frame has delivered it; nothing else changes, but the blocks
that disturbances have altered (R26, log 4). The count is left on the last bit of the later slot (log 8). Where no frame
owes the channel an arrival the codes are discarded (R152); where there is no frame because FRAME_COMPLETE was taken before
the arrival of a slot 31 of its bit clock, the discard is the model's DESIGN CHOICE (log 24), R152 and R153 giving no order
of the two. A code is the eight bits its input slot brings, the most significant first (R143). -/
def Obligations.ClosedChannelPassesCodes : Prop :=
  ∀ (c : Chan) (rin sin : Byte) (upset : List Disturbance) (s : State),
    let upsetBlock := s.upsetBlock upset
    (∀ (f : Frame) (n m : Slot), s.AwaitsArrival c f n m → (s.chan c).life = .closed → ∃ t : State,
      exec (.sampleArrival c rin sin upset) s = .next t ∧
      t.chan c = { s.chan c with lastRout := rin, lastSout := sin, freshRout := true, freshSout := true } ∧
      t.port =
        { s.port with
          position := s.port.offset + BitVec.ofNat 8 (8 * max n.val m.val + 7)
          frame := some { f with arrived := c :: f.arrived } } ∧
      (∀ d : Chan, d ≠ c → t.chan d = s.chan d) ∧ (∀ b : BlockNo, t.block b = upsetBlock b) ∧
      t.law = s.law ∧ t.wait = s.wait ∧ t.link = s.link ∧ t.sig = s.sig ∧ t.pending = s.pending) ∧
    ((s.port.frame = none ∨
        ∃ f : Frame, s.port.frame = some f ∧
          (c ∈ f.arrived ∨ (∀ k : Slot, f.lineMap[k.val] ≠ some c) ∨ ∀ k : Slot, f.exchangeMap[k.val] ≠ some c)) →
      ∃ t : State, exec (.sampleArrival c rin sin upset) s = .next t ∧
        (∀ b : BlockNo, t.block b = upsetBlock b) ∧ t.law = s.law ∧ t.channels = s.channels ∧ t.wait = s.wait ∧
        t.port = s.port ∧ t.link = s.link ∧ t.sig = s.sig ∧ t.pending = s.pending) ∧
    arrivalOnPins c (Vector.ofFn fun b : Fin 8 => rin.getLsbD (7 - b.val))
      (Vector.ofFn fun b : Fin 8 => sin.getLsbD (7 - b.val)) upset = .sampleArrival c rin sin upset

/-- SAMPLE_ARRIVAL of an open channel (R13 to R16, R27 to R29, R99 to R103, R115): the ring, the four leaky sums, the
noise register, the engaged flag with its hangover, the noise floor and both output codes follow from the codes, the
tables, the profile and the state before. In a sound pool a held block that fails its test is retired with its values
and leaves its role, and FAULT is latched (R26, R71); where the sample moves no tap and makes no apply, the pool and the
placement are those that the block faults leave. The blocks that fail and the values they then hold are those of the
disturbances the command brings, which is the model's choice (log 4). The notices are those `State.sampleNotices` lists, in
that order (R71, R52, R90, R92, R107, R110, R131, R135), with snapshots read after the sample (log 9); the framer, the
queued replies, the enable and the rate are kept. FROZEN and the mask are kept; the profile, the staged slot and the pad
where no apply is made; STARVED and the scout swaps where the sample is not FAR. No other channel's context is written but
for the windows and the scout a returned block fills, and no table, signature or port field but the arrival. -/
def Obligations.OpenChannelComputesCodes : Prop :=
  ∀ (c : Chan) (rin sin : Byte) (upset : List Disturbance) (s : State) (f : Frame) (n m : Slot) (p : Profile),
    s.AwaitsArrival c f n m → (s.chan c).life ≠ .closed → (s.chan c).profile = some p →
    let a := s.sampleValues c p rin sin upset
    let before := s.chan c
    ∃ t : State, exec (.sampleArrival c rin sin upset) s = .next t ∧
      let v : Int :=
        if (t.chan c).engaged then
          match p.nlpMode with
          | .pass => a.e
          | .soft => a.e.tdiv 4
          | .noise => (((before.noiseReg : Int) - 16384) * (t.chan c).noiseFloor).tdiv 8192
          | .silent => 0
        else a.e
      let applied := if before.toneMode = .bypass then 24 else before.gain
      let divisor := match p.nlpMargin with | .db6 => 2 | .db12 => 4 | .db18 => 8
      let talk := (t.chan c).talk
      let nearEnd : Prop := talk = .near ∨ talk = .double
      let inForce : Prop := before.service = .track ∧ before.toneMode = .normal ∧ p.nlpMode ≠ .pass
      let meets : Prop := inForce ∧ talk = .far ∧ (t.chan c).sumE / 32 * divisor ≤ (t.chan c).sumX / 32
      let moved := ((t.chan c).engaged, (t.chan c).nlpHangover)
      let failing := fun b : BlockNo => b ∈ before.covered.map Prod.snd ∧ (s.upsetBlock upset b).altered = true
      let handled := (s.disturb upset).tested c
      (¬inForce ∨ nearEnd → moved = (false, 0)) ∧
      (meets → moved = (true, 64)) ∧
      (inForce → ¬nearEnd → ¬meets →
        (before.engaged = true → 0 < before.nlpHangover → moved = (true, before.nlpHangover - 1)) ∧
        (before.engaged = true → before.nlpHangover = 0 → moved = (false, 0)) ∧
        (before.engaged = false → moved = (false, before.nlpHangover))) ∧
      (t.chan c).noiseFloor =
        (if talk = .idle ∧ (t.chan c).quietRun % 128 = 0 then
          min ((t.chan c).sumS / 32) (match p.floor with | .low => 23 | .normal => 47 | .high => 95)
        else before.noiseFloor) ∧
      (s.PoolSound →
        (∀ b : BlockNo, failing b →
          t.block b = { s.upsetBlock upset b with condition := .retired } ∧
            b ∉ (t.chan c).covered.map Prod.snd) ∧
        ((t.chan c).conditions.fault = true ↔ before.conditions.fault = true ∨ ∃ b : BlockNo, failing b) ∧
        (before.life = .opening ∨ talk ≠ .far → before.staged.pendingRecord = none →
          t.blocks = handled.blocks ∧ t.wait = handled.wait ∧
            ∀ d : Chan, (t.chan d).windows = (handled.chan d).windows ∧
              (t.chan d).scout = (handled.chan d).scout ∧ (t.chan d).lastScout = (handled.chan d).lastScout)) ∧
      (s.PoolSound →
        t.link = (({ t with link := s.link } : State).raiseNotices c (s.sampleNotices t c a upset)).link) ∧
      (t.link.framer = s.link.framer ∧ t.link.enable = s.link.enable ∧ t.link.rate = s.link.rate ∧
        (s.QueuesSound → t.link.replies = s.link.replies)) ∧
      ((t.chan c).frozen = before.frozen ∧ (t.chan c).mask = before.mask ∧ (t.chan c).inSample = false ∧
        (before.life = .opening ∨ before.staged.pendingRecord = none ∨ (t.chan c).quietRun < 400 →
          (t.chan c).profile = before.profile ∧ (t.chan c).staged = before.staged ∧
            (t.chan c).padIndex = before.padIndex) ∧
        (talk ≠ .far →
          (t.chan c).conditions.starved = before.conditions.starved ∧
            (t.chan c).counters.scoutSwaps = before.counters.scoutSwaps)) ∧
      (t.chan c).ring = a.ring ∧
      (t.chan c).sumX = before.sumX - before.sumX / 32 + a.x.natAbs ∧
      (t.chan c).sumS = before.sumS - before.sumS / 32 + a.send.natAbs ∧
      (t.chan c).sumE = before.sumE - before.sumE / 32 + a.e.natAbs ∧
      (t.chan c).sumV = before.sumV - before.sumV / 32 + v.natAbs ∧
      (t.chan c).noiseReg =
        before.noiseReg / 2 + 16384 * ((before.noiseReg % 2 + before.noiseReg / 2 % 2) % 2) ∧
      (t.chan c).lastRout = a.rout ∧
      (t.chan c).lastSout = compress (s.law.table p.lineLaw) (scale v (gainOf applied)) ∧
      (t.chan c).freshRout = true ∧ (t.chan c).freshSout = true ∧
      (∀ d : Chan, d ≠ c →
        t.chan d =
          { s.chan d with
            windows := (t.chan d).windows, scout := (t.chan d).scout, lastScout := (t.chan d).lastScout }) ∧
      t.law = s.law ∧ t.sig = s.sig ∧ t.pending = s.pending ∧
      t.port =
        { s.port with
          position := s.port.offset + BitVec.ofNat 8 (8 * max n.val m.val + 7)
          frame := some { f with arrived := c :: f.arrived } }

/-- What a sample's steering work leaves. The classification (R77 to R81, R83): the DT flag, its hangover and its onset
counter, the talk state, the quiet run and OVERLOAD. The tone monitor (R105 to R107, R110, R111): both tone runs, the
tone mode, TONE and its counter. The ALC (R117, R118, R119): the period count, the release count, the gain index,
CLIPPED and its counter. The opening count, with the end of OPENING on the sample that brings it to B + 1024 (R131). And
in a sound pool the apply a sample makes at its quiet point (R121, R134, R135; `State.ApplyGives`), on the pool and the
placement that the sample's block faults leave (disturbances as log 4 gives them). -/
def Obligations.SampleIsClassified : Prop :=
  ∀ (c : Chan) (rin sin : Byte) (upset : List Disturbance) (s t : State) (f : Frame) (n m : Slot) (p : Profile),
    s.AwaitsArrival c f n m → (s.chan c).life ≠ .closed → (s.chan c).profile = some p →
    (s.chan c).ring.length = 2048 →
    exec (.sampleArrival c rin sin upset) s = .next t →
    let a := s.sampleValues c p rin sin upset
    let before := s.chan c
    let floor := match p.floor with | .low => 24 | .normal => 48 | .high => 96
    let divisor := match p.echoLoss with | .db0 => 1 | .db6 => 2 | .db12 => 4
    let recent := (a.send :: before.recentS).take 32
    let afresh := fun r : ToneRun => if 3200 ≤ r.count then { count := 0, reversal := false } else r
    let standing := if (t.chan c).quietRun = 2000 then .normal else before.toneMode
    let alcCounts : Prop :=
      p.alcOn = true ∧ before.life = .active ∧ before.toneMode = .normal ∧
        ((t.chan c).talk = .near ∨ (t.chan c).talk = .double) ∧ (t.chan c).engaged = false
    let applies : Prop := before.life = .active ∧ before.staged.pendingRecord ≠ none ∧ 400 ≤ (t.chan c).quietRun
    let predicted := (t.chan c).sumV / 32 * gainOf before.gain / 4096
    let above : Prop := p.target * 19 < predicted * 16
    let below : Prop := predicted * 32 < p.target * 27
    let alc :=
      ((t.chan c).periodCount, (t.chan c).releaseCount, (t.chan c).gain, (t.chan c).conditions.clipped,
        (t.chan c).counters.clipEvents)
    let clipped := before.conditions.clipped
    let clips := before.counters.clipEvents
    let farActive : Prop := floor ≤ (t.chan c).sumX / 32
    let nearPresent : Prop := floor ≤ (t.chan c).sumS / 32
    let qualifies : Prop :=
      nearPresent ∧ ∀ j : Nat, j < 1024 → (atDelay a.ring (32 * p.bulk + j)).natAbs < a.send.natAbs * divisor
    (qualifies →
      (t.chan c).dtFlag = true ∧ (t.chan c).dtHangover = 240 ∧
      (t.chan c).counters.dtOnsets =
        if before.dtFlag then before.counters.dtOnsets else min 255 (before.counters.dtOnsets + 1)) ∧
    (¬qualifies →
      (t.chan c).counters.dtOnsets = before.counters.dtOnsets ∧
      (before.dtFlag = true →
        (t.chan c).dtHangover = before.dtHangover - 1 ∧ ((t.chan c).dtFlag = true ↔ 1 < before.dtHangover)) ∧
      (before.dtFlag = false → (t.chan c).dtHangover = before.dtHangover ∧ (t.chan c).dtFlag = false)) ∧
    ((t.chan c).talk = .double ↔ (t.chan c).dtFlag = true) ∧
    ((t.chan c).talk = .far ↔ (t.chan c).dtFlag = false ∧ farActive) ∧
    ((t.chan c).talk = .near ↔ (t.chan c).dtFlag = false ∧ ¬farActive ∧ nearPresent) ∧
    ((t.chan c).talk = .idle ↔ (t.chan c).dtFlag = false ∧ ¬farActive ∧ ¬nearPresent) ∧
    (t.chan c).quietRun = (if (t.chan c).talk = .idle then min 65535 (before.quietRun + 1) else 0) ∧
    ((t.chan c).conditions.overload = true ↔ before.conditions.overload = true ∨ a.Overloaded) ∧
    (t.chan c).recentS = recent ∧
    (∃ s1 x1 : ToneRun,
      before.toneS.Follows s1 recent (32 ≤ recent.length) ∧
      before.toneX.Follows x1 (a.ring.take 32) (32 ≤ recent.length) ∧
      let detected : Prop := 3200 ≤ s1.count ∨ 3200 ≤ x1.count
      let reversal : Bool :=
        (decide (3200 ≤ s1.count) && s1.reversal) || (decide (3200 ≤ x1.count) && x1.reversal)
      let mode : ToneMode :=
        match p.tonePolicy, standing with
        | .ignore, m => m
        | .nlpOnly, .normal => .nlpOff
        | .nlpOnly, m => m
        | .full, .normal => if reversal then .bypass else .nlpOff
        | .full, .nlpOff => if reversal then .bypass else .nlpOff
        | .full, .bypass => .bypass
      let changed : Prop := detected ∧ mode ≠ standing
      (t.chan c).toneS = afresh s1 ∧ (t.chan c).toneX = afresh x1 ∧
      (¬changed → (t.chan c).toneMode = standing ∧
        (t.chan c).conditions.tone = before.conditions.tone ∧
        (t.chan c).counters.toneBypasses = before.counters.toneBypasses) ∧
      (changed → (t.chan c).toneMode = mode ∧ (t.chan c).conditions.tone = true ∧
        (t.chan c).counters.toneBypasses = min 255 (before.counters.toneBypasses + 1))) ∧
    (¬alcCounts → ¬applies → alc = (before.periodCount, before.releaseCount, before.gain, clipped, clips)) ∧
    (alcCounts → before.periodCount + 1 < 128 →
      alc = (before.periodCount + 1, before.releaseCount, before.gain, clipped, clips)) ∧
    (alcCounts → 128 ≤ before.periodCount + 1 → p.gmin ≤ before.gain → before.gain ≤ p.gmax →
      (above → p.gmin < before.gain → alc = (0, 0, before.gain - 1, clipped, clips)) ∧
      (above → before.gain = p.gmin → alc = (0, 0, before.gain, true, min 255 (clips + 1))) ∧
      (¬above → below → before.releaseCount < 3 →
        alc = (0, before.releaseCount + 1, before.gain, clipped, clips)) ∧
      (¬above → below → 3 ≤ before.releaseCount → before.gain < p.gmax →
        alc = (0, 0, before.gain + 1, clipped, clips)) ∧
      (¬above → below → 3 ≤ before.releaseCount → before.gain = p.gmax →
        alc = (0, 0, before.gain, true, min 255 (clips + 1))) ∧
      (¬above → ¬below → alc = (0, 0, before.gain, clipped, clips))) ∧
    (before.life = .opening →
      (t.chan c).openingCount = before.openingCount + 1 ∧
      (t.chan c).life = if 32 * p.bulk + 1024 ≤ before.openingCount + 1 then .active else .opening) ∧
    (before.life = .active → (t.chan c).openingCount = before.openingCount ∧ (t.chan c).life = .active) ∧
    (s.PoolSound → ∀ q : Profile, before.life = .active → before.staged = .pending q → 400 ≤ (t.chan c).quietRun →
      let handled := (s.disturb upset).tested c
      (handled.setChan c
        { t.chan c with
          profile := some p, staged := .pending q, padIndex := before.padIndex, gain := before.gain
          periodCount := before.periodCount, releaseCount := before.releaseCount
          windows := (handled.chan c).windows, scout := (handled.chan c).scout
          lastScout := (handled.chan c).lastScout }).ApplyGives t c p q)

/-- The service-mode runs on a sample (R87 to R91): on a counted sample each run that counts in the mode advances or is set
to 0 by its condition, and then a divergence, else TRACK reached, else a path change is made; a divergence leaves every
block the channel holds with zero taps and a fitting check code (R60, R90). On any other sample the mode, the runs and the
DIVERGED mark are kept. -/
def Obligations.SampleMovesTheRuns : Prop :=
  ∀ (c : Chan) (rin sin : Byte) (upset : List Disturbance) (s t : State) (f : Frame) (n m : Slot) (p : Profile),
    s.AwaitsArrival c f n m → (s.chan c).life ≠ .closed → (s.chan c).profile = some p →
    exec (.sampleArrival c rin sin upset) s = .next t →
    let before := s.chan c
    let far := (t.chan c).sumS / 32
    let left := (t.chan c).sumE / 32
    let counted : Prop :=
      before.life = .active ∧ (t.chan c).talk = .far ∧ ¬(s.sampleValues c p rin sin upset).Overloaded ∧
        before.toneMode ≠ .bypass
    let conv :=
      if before.service = .acquire then (if left * 4 ≤ far then before.convRun + 1 else 0) else before.convRun
    let change :=
      if before.service = .track then (if far < left * 2 then before.changeRun + 1 else 0) else before.changeRun
    let div := if 2 * far < left then before.divRun + 1 else 0
    let now := ((t.chan c).service, (t.chan c).convRun, (t.chan c).changeRun, (t.chan c).divRun)
    let counts := ((t.chan c).counters.pathChanges, (t.chan c).counters.divergences)
    let paths := before.counters.pathChanges
    let divergences := before.counters.divergences
    (¬counted →
      now = (before.service, before.convRun, before.changeRun, before.divRun) ∧ counts = (paths, divergences) ∧
      (t.chan c).conditions.diverged = before.conditions.diverged) ∧
    (counted →
      (1024 ≤ div →
        now = (.acquire, 0, 0, 0) ∧ counts = (paths, min 255 (divergences + 1)) ∧
        (t.chan c).conditions.diverged = true ∧ (∀ k ∈ (t.chan c).scout, k.dwell = 0) ∧
        ∀ k ∈ (t.chan c).covered,
          (t.block k.2).taps = List.replicate 32 0 ∧ (t.block k.2).altered = false) ∧
      (div < 1024 → (t.chan c).conditions.diverged = before.conditions.diverged ∧
        (before.service = .acquire → 2048 ≤ conv →
          now = (.track, 0, change, div) ∧ counts = (paths, divergences)) ∧
        (before.service = .acquire → conv < 2048 →
          now = (.acquire, conv, change, div) ∧ counts = (paths, divergences)) ∧
        (before.service = .track → 512 ≤ change →
          now = (.acquire, conv, 0, div) ∧ counts = (min 255 (paths + 1), divergences)) ∧
        (before.service = .track → change < 512 →
          now = (.track, conv, change, div) ∧ counts = (paths, divergences))))

/-- The adaptation permission and the update (R31, R47, R84, R85) in a sound pool: on a sample that is not permitted no tap
takes a value from the update and the dwell count does not advance; on a permitted one, short of a dwell end and of a
divergence, every tap that takes part is moved by the update and the dwell count of a scout that takes part advances
by 1; on a permitted one whose advance brings that count to the dwell length the scout is evaluated within the sample,
and the scout that stands after it has dwell count 0 (R48, R50). The whole outcome for the pool and the placement of a
sample without an apply: the block faults, then the update of every block that takes part, then the evaluation of R51 to
R54 on the updated values (`State.EvaluationGives`), and last a divergence, which zeroes what then stands (R60). That
disturbances are an operand which stores values is log 4, and the mark of a due evaluation is log 22 (the model's
choices). -/
def Obligations.TapsMoveOnlyWhenPermitted : Prop :=
  ∀ (c : Chan) (rin sin : Byte) (upset : List Disturbance) (s t : State) (f : Frame) (n m : Slot) (p : Profile),
    s.PoolSound → (s.chan c).ring.length = 2048 →
    s.AwaitsArrival c f n m → (s.chan c).life ≠ .closed → (s.chan c).profile = some p →
    exec (.sampleArrival c rin sin upset) s = .next t →
    let a := s.sampleValues c p rin sin upset
    let before := s.chan c
    let permitted : Prop := before.SamplePermits (t.chan c) a
    (¬permitted →
      (∀ b : BlockNo,
        (t.block b).taps = (s.upsetBlock upset b).taps ∨ (t.block b).taps = List.replicate 32 0) ∧
      ∀ k ∈ (t.chan c).scout, k.dwell = 0 ∨ ∃ k0 ∈ before.scout, k0.block = k.block ∧ k.dwell = k0.dwell) ∧
    (permitted → before.divRun < 1023 →
      (∀ k ∈ before.scout, k.dwell + 1 < if before.service = .acquire then 512 else 2048) →
      (∀ (q : Pos) (b : BlockNo), (q, b) ∈ a.cover → ∀ (j : Nat) (tap : Int), j < 32 →
        (s.block b).taps[j]? = some tap →
        (t.block b).taps[j]? = some (movedTap p.step a.e a.power tap (atDelay a.ring (delayOf p q j)))) ∧
      (∀ b : BlockNo, b ∉ a.cover.map Prod.snd →
        (t.block b).taps = (s.upsetBlock upset b).taps ∨ (t.block b).taps = List.replicate 32 0) ∧
      ∀ k ∈ before.scout, k.block ∈ a.cover.map Prod.snd →
        (t.chan c).scout = some { pos := k.pos, block := k.block, dwell := k.dwell + 1 }) ∧
    (permitted → ∀ k ∈ before.scout, k.block ∈ a.cover.map Prod.snd →
      (if before.service = .acquire then 512 else 2048) ≤ k.dwell + 1 →
      ∀ k2 ∈ (t.chan c).scout, k2.dwell = 0 ∧ k2.due = none) ∧
    (s.TapsSound → before.staged.pendingRecord = none ∨ (t.chan c).quietRun < 400 →
      let handled := (s.disturb upset).tested c
      let tookPart := a.cover.map Prod.snd
      let base := if before.SamplePermits (t.chan c) a then handled.updated p a else handled
      let withScout := fun k : Option Scout => base.setChan c { base.chan c with scout := k }
      let advanced := fun k : Scout => ({ pos := k.pos, block := k.block, dwell := k.dwell + 1 } : Scout)
      let ends := fun k : Scout => permitted ∧ k.block ∈ tookPart ∧ before.dwellEnd ≤ k.dwell + 1
      let leaves := fun v : State =>
        t.wait = v.wait ∧ (t.chan c).windows = (v.chan c).windows ∧ (t.chan c).lastScout = (v.chan c).lastScout ∧
        (t.chan c).conditions.starved = (v.chan c).conditions.starved ∧
        (t.chan c).counters.scoutSwaps = (v.chan c).counters.scoutSwaps ∧
        (¬before.SampleDiverges (t.chan c) a →
          (t.chan c).scout = (v.chan c).scout ∧ ∀ b : BlockNo, t.block b = v.block b) ∧
        (before.SampleDiverges (t.chan c) a →
          (t.chan c).scout = (v.chan c).scout.map (fun k => { pos := k.pos, block := k.block, dwell := 0 }) ∧
          ∀ b : BlockNo, t.block b =
            if b ∈ (v.chan c).covered.map Prod.snd then
              { v.block b with taps := List.replicate 32 0, altered := false }
            else v.block b)
      (∀ k ∈ before.scout, ends k → ∃ v : State,
        (withScout (some (advanced k))).EvaluationGives v c p.quota tookPart (advanced k) ∧ leaves v) ∧
      ((∀ k ∈ before.scout, ¬ends k) →
        leaves (withScout ((base.chan c).scout.map fun k =>
          if before.SamplePermits (t.chan c) a ∧ k.block ∈ tookPart then advanced k else k))))

/-! ## The events found inside a sample, as commands of their own (log 2) -/

/-- DWELL_END of an ACTIVE channel in a sound pool whose scout's evaluation the dwell advance of a sample has made due (R48,
R50 to R54): the four outcomes, an add with and without a free block, a swap and a discard, weighed among the blocks that
took part in that sample (`State.EvaluationGives`). The windows keep their ascending order, and a new scout stands, dwell count
0, at the next unoccupied position after the old one; STARVED is raised where no block is left for one. Where no evaluation is due, whatever the dwell count, nothing changes (R48, R49;
that the mark of a due evaluation is kept with the scout is the model's choice, log 22). -/
def Obligations.DwellEndEvaluatesTheScout : Prop :=
  ∀ (c : Chan) (s : State) (p : Profile), (s.chan c).life = .active → (s.chan c).profile = some p →
    ((∀ k ∈ (s.chan c).scout, k.due = none) → exec (.dwellEnd c) s = .next s) ∧
    ∀ (k : Scout) (tookPart : List BlockNo), s.PoolSound → (s.chan c).scout = some k → k.due = some tookPart →
      ∃ t : State,
        exec (.dwellEnd c) s = .next
          (if (t.chan c).scout = none then t.raiseNotice (.channel c) .starved else t) ∧
        s.AgreesBut t c ∧ s.EvaluationGives t c p.quota tookPart k ∧
        t.chan c =
          { s.chan c with
            windows := (t.chan c).windows, scout := (t.chan c).scout, lastScout := (t.chan c).lastScout
            conditions := { (s.chan c).conditions with starved := (t.chan c).conditions.starved }
            counters := { (s.chan c).counters with scoutSwaps := (t.chan c).counters.scoutSwaps } }

/-- REACH_TRACK, PATH_CHANGE and DIVERGENCE of an ACTIVE channel whose run has reached its limit (R60, R88 to R92): the mode
and the runs, the counters and the condition, the zeroed taps and the restarted dwell of a divergence, and the notices.
Nothing else changes. -/
def Obligations.ServiceModeEvents : Prop :=
  ∀ (c : Chan) (s : State), (s.chan c).life = .active → (s.chan c).profile ≠ none →
    let before := s.chan c
    (before.service = .acquire → 2048 ≤ before.convRun → before.divRun < 1024 →
      exec (.reachTrack c) s = .next
        ((s.setChan c { before with service := .track, convRun := 0 }).raiseNotice (.channel c) .mode)) ∧
    (before.service = .track → 512 ≤ before.changeRun → before.divRun < 1024 →
      exec (.pathChange c) s = .next
        ((s.setChan c
          { before with
            service := .acquire, changeRun := 0
            counters := { before.counters with pathChanges := min 255 (before.counters.pathChanges + 1) }
            }).raiseNotice (.channel c) .mode)) ∧
    (1024 ≤ before.divRun → ∃ t : State,
      exec (.divergence c) s = .next
        (if before.service = .track then (t.raiseNotice (.channel c) .diverged).raiseNotice (.channel c) .mode
        else t.raiseNotice (.channel c) .diverged) ∧
      s.AgreesBut t c ∧ t.wait = s.wait ∧
      (∀ b : BlockNo, t.block b =
        if b ∈ before.covered.map Prod.snd then
          { s.block b with taps := List.replicate 32 0, altered := false }
        else s.block b) ∧
      t.chan c =
        { before with
          service := .acquire, convRun := 0, changeRun := 0, divRun := 0
          scout := before.scout.map fun k => { pos := k.pos, block := k.block, dwell := 0 }
          conditions := { before.conditions with diverged := true }
          counters := { before.counters with divergences := min 255 (before.counters.divergences + 1) } })

/-- TONE_DETECTION of an open channel one of whose tone runs has reached 3200 (R106, R107): a reported stream starts afresh,
the tone mode moves as the table of the policy gives, and a change of mode latches TONE, counts a tone bypass, and
raises TONE and then MODE. RETURN_TO_NORMAL where a sample in work has brought the quiet run to 2000 in another mode (R110)
sets NORMAL and raises MODE; where no sample is in work it changes nothing. That these commands act where their trigger
stands, and the mark of a sample in work, are the model's choices (logs 2 and 23). -/
def Obligations.ToneEvents : Prop :=
  ∀ (c : Chan) (s : State) (p : Profile), (s.chan c).life ≠ .closed → (s.chan c).profile = some p →
    let before := s.chan c
    (3200 ≤ before.toneS.count ∨ 3200 ≤ before.toneX.count →
      let afresh := fun r : ToneRun => if 3200 ≤ r.count then { count := 0, reversal := false } else r
      let reversal : Bool :=
        (decide (3200 ≤ before.toneS.count) && before.toneS.reversal) ||
          (decide (3200 ≤ before.toneX.count) && before.toneX.reversal)
      let mode : ToneMode :=
        match p.tonePolicy, before.toneMode with
        | .ignore, m => m
        | .nlpOnly, .normal => .nlpOff
        | .nlpOnly, m => m
        | .full, .normal => if reversal then .bypass else .nlpOff
        | .full, .nlpOff => if reversal then .bypass else .nlpOff
        | .full, .bypass => .bypass
      let reported : Channel := { before with toneS := afresh before.toneS, toneX := afresh before.toneX }
      (mode = before.toneMode → exec (.toneDetection c) s = .next (s.setChan c reported)) ∧
      (mode ≠ before.toneMode →
        exec (.toneDetection c) s = .next
          (((s.setChan c
            { reported with
              toneMode := mode
              conditions := { before.conditions with tone := true }
              counters := { before.counters with toneBypasses := min 255 (before.counters.toneBypasses + 1) }
              }).raiseNotice (.channel c) .tone).raiseNotice (.channel c) .mode))) ∧
    (before.inSample = true → before.quietRun = 2000 → before.toneMode ≠ .normal →
      exec (.returnToNormal c) s = .next
        ((s.setChan c { before with toneMode := .normal }).raiseNotice (.channel c) .mode)) ∧
    (before.inSample = false → exec (.returnToNormal c) s = .next s)

/-- ALC_PERIOD_END of an ACTIVE channel with ALC on whose period count has reached 128 (R117, R118, R119): the period count
is 0; a prediction above the upper threshold takes g down by 1, the fourth below the lower one takes it up by 1, each
within gmin and gmax and held, latched and counted otherwise; and the release count moves as the table gives. -/
def Obligations.AlcPeriodEndMovesTheGain : Prop :=
  ∀ (c : Chan) (s : State) (p : Profile), (s.chan c).life = .active → (s.chan c).profile = some p → p.alcOn = true →
    128 ≤ (s.chan c).periodCount → p.gmin ≤ (s.chan c).gain → (s.chan c).gain ≤ p.gmax →
    let before := s.chan c
    let predicted := before.sumV / 32 * gainOf before.gain / 4096
    let above : Prop := p.target * 19 < predicted * 16
    let below : Prop := predicted * 32 < p.target * 27
    let ended := fun (release gain : Nat) =>
      ({ before with periodCount := 0, releaseCount := release, gain := gain } : Channel)
    let held : Channel :=
      { ended 0 before.gain with
        conditions := { before.conditions with clipped := true }
        counters := { before.counters with clipEvents := min 255 (before.counters.clipEvents + 1) } }
    let leaves := fun ch : Channel => exec (.alcPeriodEnd c) s = .next (s.setChan c ch)
    (above → p.gmin < before.gain → leaves (ended 0 (before.gain - 1))) ∧
    (above → before.gain = p.gmin → leaves held) ∧
    (¬above → below → before.releaseCount < 3 → leaves (ended (before.releaseCount + 1) before.gain)) ∧
    (¬above → below → 3 ≤ before.releaseCount → before.gain < p.gmax → leaves (ended 0 (before.gain + 1))) ∧
    (¬above → below → 3 ≤ before.releaseCount → before.gain = p.gmax → leaves held) ∧
    (¬above → ¬below → leaves (ended 0 before.gain))

/-- The other events of an open channel where their triggers stand: DT_HANGOVER_END clears the DT flag (R79), NLP_RELEASE
the engaged flag (R100), NOISE_FLOOR_UPDATE takes the smaller of A_s and F − 1 (R101), END_OF_OPENING makes the channel
ACTIVE and raises MODE (R131), and QUIET_POINT makes a pending apply take effect (R121, R122, R134, R135), told in full
where the windows are within the quota, and in a sound pool whatever the quota (`State.ApplyGives`). Nothing else changes.
NLP_RELEASE, NOISE_FLOOR_UPDATE and QUIET_POINT are events of a sample in work alone, and change nothing where none is,
an apply just marked with the quiet run past 400 included. That these commands act where their trigger stands, and the
mark of a sample in work, are the model's choices (logs 2 and 23). -/
def Obligations.ChannelTimersEnd : Prop :=
  ∀ (c : Chan) (s : State) (p : Profile), (s.chan c).life ≠ .closed → (s.chan c).profile = some p →
    let before := s.chan c
    (before.dtFlag = true → before.dtHangover = 0 →
      exec (.dtHangoverEnd c) s = .next (s.setChan c { before with dtFlag := false })) ∧
    (before.inSample = false →
      exec (.nlpRelease c) s = .next s ∧ exec (.noiseFloorUpdate c) s = .next s ∧
        exec (.quietPoint c) s = .next s) ∧
    (before.inSample = true → before.engaged = true → before.nlpHangover = 0 →
      exec (.nlpRelease c) s = .next (s.setChan c { before with engaged := false })) ∧
    (before.inSample = true → before.talk = .idle → 0 < before.quietRun → before.quietRun % 128 = 0 →
      exec (.noiseFloorUpdate c) s = .next
        (s.setChan c
          { before with
            noiseFloor :=
              min (before.sumS / 32) (match p.floor with | .low => 23 | .normal => 47 | .high => 95) })) ∧
    (before.life = .opening → 32 * p.bulk + 1024 ≤ before.openingCount →
      exec (.endOfOpening c) s = .next
        ((s.setChan c { before with life := .active }).raiseNotice (.channel c) .mode)) ∧
    (∀ q : Profile, before.inSample = true → before.life = .active → before.staged = .pending q →
      400 ≤ before.quietRun →
      (s.PoolSound → ∃ u : State,
        exec (.quietPoint c) s = .next (u.raiseNotice (.channel c) .applied) ∧ s.ApplyGives u c p q ∧
        u.law = s.law ∧ u.port = s.port ∧ u.link = s.link ∧ u.sig = s.sig ∧ u.pending = s.pending) ∧
      (before.windows.length + 1 ≤ q.quota →
      exec (.quietPoint c) s = .next
        ((s.setChan c
          { before with
            profile := some q, staged := .empty, padIndex := q.padIndex
            gain := if q.alcOn then max q.gmin (min q.gmax before.gain) else q.fixedIndex
            periodCount := if p.alcOn = q.alcOn then before.periodCount else 0
            releaseCount := if p.alcOn = q.alcOn then before.releaseCount else 0 }).raiseNotice
          (.channel c) .applied)))

/-! ## Laws of every state -/

/-- The machine right after reset satisfies every law the statements below say a step keeps. -/
def Obligations.ResetSatisfiesTheLaws : Prop :=
  State.reset.CountersBounded ∧ State.reset.QueuesSound ∧ State.reset.GainSound ∧ State.reset.CountsSound ∧
    State.reset.SignalSound ∧ State.reset.TapsSound ∧ State.reset.MapsSound ∧ State.reset.PortSound ∧
    State.reset.SignatureSound ∧ State.reset.PoolSound

/-- Every step of a state whose open channels hold a profile completes, with a next state of the same kind: no command is
refused, and no step stops (R128, R130, R136; log 13). -/
def Obligations.EveryStepCompletes : Prop :=
  ∀ s : State, s.ProfilesHeld → ∃ t : State, step s = .next t ∧ t.ProfilesHeld

/-- Every step keeps every counter within 0..255 (R177) and the queues of the link sound (R165, R169, R170). -/
def Obligations.StepKeepsCountersAndQueues : Prop :=
  ∀ s t : State, step s = .next t →
    (s.CountersBounded → t.CountersBounded) ∧ (s.QueuesSound → t.QueuesSound)

/-- Every step keeps every linear value, leaky sum and level in its range (R1, R3, R16), and with them, in a state whose
profiles are sound (a law StepKeepsThePool has in PoolSound), 32 tap values in every block (R24), each in its range (R32):
the update pairs each tap with a ring value, which a ring of 2048 values and a bulk offset field of at most 32 give it
(R21, R23). Every step keeps the running counts, the opening count among them, in theirs (R48, R79, R81, R87, R100,
R102, R106, R117, R118, R131), and the gain law of R116. -/
def Obligations.StepKeepsValuesInRange : Prop :=
  ∀ s t : State, step s = .next t →
    (s.SignalSound → t.SignalSound) ∧ (s.SignalSound → s.ProfilesSound → s.TapsSound → t.TapsSound) ∧
    (s.CountsSound → t.CountsSound) ∧ (s.GainSound → t.GainSound)

/-- Every step keeps the slot maps sound, every open channel in both of them (R154), the port's states consistent (R144 to
R148), and the signature's (R179, R180). -/
def Obligations.StepKeepsPortLaws : Prop :=
  ∀ s t : State, step s = .next t →
    (s.MapsSound → t.MapsSound) ∧ (s.PortSound → t.PortSound) ∧ (s.SignatureSound → t.SignatureSound)

/-- Every step keeps the laws of the pool and of placement: every block is free, held by the one channel whose windows or
scout have it, or retired (R63); while anyone waits the free set is empty (R68); PIN entries stand ahead of SCOUT
entries (R66); and every channel's windows, scout, quota and wait entries agree (R41 to R44, R66). -/
def Obligations.StepKeepsThePool : Prop :=
  ∀ s t : State, step s = .next t → s.PoolSound → t.PoolSound
end

