-- ==== Sys2Proof/Laws/State.lean ====
section
/-!
SUPPORT. The small lemmas of the state's accessors and named updates: one per field per update, so that no later proof
unfolds a record update.
-/

namespace Sys2Proof.Machine

variable (s : State)

/-! ## setChan -/

@[simp] theorem State.setChan_law (c : Chan) (ch : Channel) : (s.setChan c ch).law = s.law := rfl
@[simp] theorem State.setChan_channels (c : Chan) (ch : Channel) : (s.setChan c ch).channels = s.channels.set c.val ch := rfl
@[simp] theorem State.setChan_blocks (c : Chan) (ch : Channel) : (s.setChan c ch).blocks = s.blocks := rfl
@[simp] theorem State.setChan_wait (c : Chan) (ch : Channel) : (s.setChan c ch).wait = s.wait := rfl
@[simp] theorem State.setChan_port (c : Chan) (ch : Channel) : (s.setChan c ch).port = s.port := rfl
@[simp] theorem State.setChan_link (c : Chan) (ch : Channel) : (s.setChan c ch).link = s.link := rfl
@[simp] theorem State.setChan_sig (c : Chan) (ch : Channel) : (s.setChan c ch).sig = s.sig := rfl
@[simp] theorem State.setChan_pending (c : Chan) (ch : Channel) : (s.setChan c ch).pending = s.pending := rfl
@[simp] theorem State.setChan_block (c : Chan) (ch : Channel) (j : BlockNo) : (s.setChan c ch).block j = s.block j := rfl
@[simp] theorem State.setChan_freeBlocks (c : Chan) (ch : Channel) : (s.setChan c ch).freeBlocks = s.freeBlocks := rfl
@[simp] theorem State.setChan_heldBlocks (c : Chan) (ch : Channel) (d : Chan) : (s.setChan c ch).heldBlocks d = s.heldBlocks d := rfl
@[simp] theorem State.setChan_retiredCount (c : Chan) (ch : Channel) : (s.setChan c ch).retiredCount = s.retiredCount := rfl

/-! ## onChan -/

@[simp] theorem State.onChan_law (c : Chan) (f : Channel → Channel) : (s.onChan c f).law = s.law := rfl
@[simp] theorem State.onChan_channels (c : Chan) (f : Channel → Channel) : (s.onChan c f).channels = s.channels.set c.val (f (s.chan c)) := rfl
@[simp] theorem State.onChan_blocks (c : Chan) (f : Channel → Channel) : (s.onChan c f).blocks = s.blocks := rfl
@[simp] theorem State.onChan_wait (c : Chan) (f : Channel → Channel) : (s.onChan c f).wait = s.wait := rfl
@[simp] theorem State.onChan_port (c : Chan) (f : Channel → Channel) : (s.onChan c f).port = s.port := rfl
@[simp] theorem State.onChan_link (c : Chan) (f : Channel → Channel) : (s.onChan c f).link = s.link := rfl
@[simp] theorem State.onChan_sig (c : Chan) (f : Channel → Channel) : (s.onChan c f).sig = s.sig := rfl
@[simp] theorem State.onChan_pending (c : Chan) (f : Channel → Channel) : (s.onChan c f).pending = s.pending := rfl
@[simp] theorem State.onChan_block (c : Chan) (f : Channel → Channel) (j : BlockNo) : (s.onChan c f).block j = s.block j := rfl
@[simp] theorem State.onChan_freeBlocks (c : Chan) (f : Channel → Channel) : (s.onChan c f).freeBlocks = s.freeBlocks := rfl
@[simp] theorem State.onChan_heldBlocks (c : Chan) (f : Channel → Channel) (d : Chan) : (s.onChan c f).heldBlocks d = s.heldBlocks d := rfl
@[simp] theorem State.onChan_retiredCount (c : Chan) (f : Channel → Channel) : (s.onChan c f).retiredCount = s.retiredCount := rfl

/-! ## setBlock -/

@[simp] theorem State.setBlock_law (b : BlockNo) (k : Block) : (s.setBlock b k).law = s.law := rfl
@[simp] theorem State.setBlock_channels (b : BlockNo) (k : Block) : (s.setBlock b k).channels = s.channels := rfl
@[simp] theorem State.setBlock_blocks (b : BlockNo) (k : Block) : (s.setBlock b k).blocks = s.blocks.set b.val k := rfl
@[simp] theorem State.setBlock_wait (b : BlockNo) (k : Block) : (s.setBlock b k).wait = s.wait := rfl
@[simp] theorem State.setBlock_port (b : BlockNo) (k : Block) : (s.setBlock b k).port = s.port := rfl
@[simp] theorem State.setBlock_link (b : BlockNo) (k : Block) : (s.setBlock b k).link = s.link := rfl
@[simp] theorem State.setBlock_sig (b : BlockNo) (k : Block) : (s.setBlock b k).sig = s.sig := rfl
@[simp] theorem State.setBlock_pending (b : BlockNo) (k : Block) : (s.setBlock b k).pending = s.pending := rfl
@[simp] theorem State.setBlock_chan (b : BlockNo) (k : Block) (d : Chan) : (s.setBlock b k).chan d = s.chan d := rfl

/-! ## onPort -/

@[simp] theorem State.onPort_law (f : Port → Port) : (s.onPort f).law = s.law := rfl
@[simp] theorem State.onPort_channels (f : Port → Port) : (s.onPort f).channels = s.channels := rfl
@[simp] theorem State.onPort_blocks (f : Port → Port) : (s.onPort f).blocks = s.blocks := rfl
@[simp] theorem State.onPort_wait (f : Port → Port) : (s.onPort f).wait = s.wait := rfl
@[simp] theorem State.onPort_port (f : Port → Port) : (s.onPort f).port = f s.port := rfl
@[simp] theorem State.onPort_link (f : Port → Port) : (s.onPort f).link = s.link := rfl
@[simp] theorem State.onPort_sig (f : Port → Port) : (s.onPort f).sig = s.sig := rfl
@[simp] theorem State.onPort_pending (f : Port → Port) : (s.onPort f).pending = s.pending := rfl
@[simp] theorem State.onPort_chan (f : Port → Port) (d : Chan) : (s.onPort f).chan d = s.chan d := rfl
@[simp] theorem State.onPort_block (f : Port → Port) (j : BlockNo) : (s.onPort f).block j = s.block j := rfl
@[simp] theorem State.onPort_freeBlocks (f : Port → Port) : (s.onPort f).freeBlocks = s.freeBlocks := rfl
@[simp] theorem State.onPort_heldBlocks (f : Port → Port) (d : Chan) : (s.onPort f).heldBlocks d = s.heldBlocks d := rfl
@[simp] theorem State.onPort_retiredCount (f : Port → Port) : (s.onPort f).retiredCount = s.retiredCount := rfl

/-! ## onLink -/

@[simp] theorem State.onLink_law (f : Link → Link) : (s.onLink f).law = s.law := rfl
@[simp] theorem State.onLink_channels (f : Link → Link) : (s.onLink f).channels = s.channels := rfl
@[simp] theorem State.onLink_blocks (f : Link → Link) : (s.onLink f).blocks = s.blocks := rfl
@[simp] theorem State.onLink_wait (f : Link → Link) : (s.onLink f).wait = s.wait := rfl
@[simp] theorem State.onLink_port (f : Link → Link) : (s.onLink f).port = s.port := rfl
@[simp] theorem State.onLink_link (f : Link → Link) : (s.onLink f).link = f s.link := rfl
@[simp] theorem State.onLink_sig (f : Link → Link) : (s.onLink f).sig = s.sig := rfl
@[simp] theorem State.onLink_pending (f : Link → Link) : (s.onLink f).pending = s.pending := rfl
@[simp] theorem State.onLink_chan (f : Link → Link) (d : Chan) : (s.onLink f).chan d = s.chan d := rfl
@[simp] theorem State.onLink_block (f : Link → Link) (j : BlockNo) : (s.onLink f).block j = s.block j := rfl
@[simp] theorem State.onLink_freeBlocks (f : Link → Link) : (s.onLink f).freeBlocks = s.freeBlocks := rfl
@[simp] theorem State.onLink_heldBlocks (f : Link → Link) (d : Chan) : (s.onLink f).heldBlocks d = s.heldBlocks d := rfl
@[simp] theorem State.onLink_retiredCount (f : Link → Link) : (s.onLink f).retiredCount = s.retiredCount := rfl

/-! ## onSig -/

@[simp] theorem State.onSig_law (f : Signature → Signature) : (s.onSig f).law = s.law := rfl
@[simp] theorem State.onSig_channels (f : Signature → Signature) : (s.onSig f).channels = s.channels := rfl
@[simp] theorem State.onSig_blocks (f : Signature → Signature) : (s.onSig f).blocks = s.blocks := rfl
@[simp] theorem State.onSig_wait (f : Signature → Signature) : (s.onSig f).wait = s.wait := rfl
@[simp] theorem State.onSig_port (f : Signature → Signature) : (s.onSig f).port = s.port := rfl
@[simp] theorem State.onSig_link (f : Signature → Signature) : (s.onSig f).link = s.link := rfl
@[simp] theorem State.onSig_sig (f : Signature → Signature) : (s.onSig f).sig = f s.sig := rfl
@[simp] theorem State.onSig_pending (f : Signature → Signature) : (s.onSig f).pending = s.pending := rfl
@[simp] theorem State.onSig_chan (f : Signature → Signature) (d : Chan) : (s.onSig f).chan d = s.chan d := rfl
@[simp] theorem State.onSig_block (f : Signature → Signature) (j : BlockNo) : (s.onSig f).block j = s.block j := rfl
@[simp] theorem State.onSig_freeBlocks (f : Signature → Signature) : (s.onSig f).freeBlocks = s.freeBlocks := rfl
@[simp] theorem State.onSig_heldBlocks (f : Signature → Signature) (d : Chan) : (s.onSig f).heldBlocks d = s.heldBlocks d := rfl
@[simp] theorem State.onSig_retiredCount (f : Signature → Signature) : (s.onSig f).retiredCount = s.retiredCount := rfl

/-! ## onLaw -/

@[simp] theorem State.onLaw_law (f : LawStore → LawStore) : (s.onLaw f).law = f s.law := rfl
@[simp] theorem State.onLaw_channels (f : LawStore → LawStore) : (s.onLaw f).channels = s.channels := rfl
@[simp] theorem State.onLaw_blocks (f : LawStore → LawStore) : (s.onLaw f).blocks = s.blocks := rfl
@[simp] theorem State.onLaw_wait (f : LawStore → LawStore) : (s.onLaw f).wait = s.wait := rfl
@[simp] theorem State.onLaw_port (f : LawStore → LawStore) : (s.onLaw f).port = s.port := rfl
@[simp] theorem State.onLaw_link (f : LawStore → LawStore) : (s.onLaw f).link = s.link := rfl
@[simp] theorem State.onLaw_sig (f : LawStore → LawStore) : (s.onLaw f).sig = s.sig := rfl
@[simp] theorem State.onLaw_pending (f : LawStore → LawStore) : (s.onLaw f).pending = s.pending := rfl
@[simp] theorem State.onLaw_chan (f : LawStore → LawStore) (d : Chan) : (s.onLaw f).chan d = s.chan d := rfl
@[simp] theorem State.onLaw_block (f : LawStore → LawStore) (j : BlockNo) : (s.onLaw f).block j = s.block j := rfl
@[simp] theorem State.onLaw_freeBlocks (f : LawStore → LawStore) : (s.onLaw f).freeBlocks = s.freeBlocks := rfl
@[simp] theorem State.onLaw_heldBlocks (f : LawStore → LawStore) (d : Chan) : (s.onLaw f).heldBlocks d = s.heldBlocks d := rfl
@[simp] theorem State.onLaw_retiredCount (f : LawStore → LawStore) : (s.onLaw f).retiredCount = s.retiredCount := rfl

/-! ## withWait -/

@[simp] theorem State.withWait_law (w : List WaitEntry) : (s.withWait w).law = s.law := rfl
@[simp] theorem State.withWait_channels (w : List WaitEntry) : (s.withWait w).channels = s.channels := rfl
@[simp] theorem State.withWait_blocks (w : List WaitEntry) : (s.withWait w).blocks = s.blocks := rfl
@[simp] theorem State.withWait_wait (w : List WaitEntry) : (s.withWait w).wait = w := rfl
@[simp] theorem State.withWait_port (w : List WaitEntry) : (s.withWait w).port = s.port := rfl
@[simp] theorem State.withWait_link (w : List WaitEntry) : (s.withWait w).link = s.link := rfl
@[simp] theorem State.withWait_sig (w : List WaitEntry) : (s.withWait w).sig = s.sig := rfl
@[simp] theorem State.withWait_pending (w : List WaitEntry) : (s.withWait w).pending = s.pending := rfl
@[simp] theorem State.withWait_chan (w : List WaitEntry) (d : Chan) : (s.withWait w).chan d = s.chan d := rfl
@[simp] theorem State.withWait_block (w : List WaitEntry) (j : BlockNo) : (s.withWait w).block j = s.block j := rfl
@[simp] theorem State.withWait_freeBlocks (w : List WaitEntry) : (s.withWait w).freeBlocks = s.freeBlocks := rfl
@[simp] theorem State.withWait_heldBlocks (w : List WaitEntry) (d : Chan) : (s.withWait w).heldBlocks d = s.heldBlocks d := rfl
@[simp] theorem State.withWait_retiredCount (w : List WaitEntry) : (s.withWait w).retiredCount = s.retiredCount := rfl

/-! ## withPending -/

@[simp] theorem State.withPending_law (q : List Instr) : (s.withPending q).law = s.law := rfl
@[simp] theorem State.withPending_channels (q : List Instr) : (s.withPending q).channels = s.channels := rfl
@[simp] theorem State.withPending_blocks (q : List Instr) : (s.withPending q).blocks = s.blocks := rfl
@[simp] theorem State.withPending_wait (q : List Instr) : (s.withPending q).wait = s.wait := rfl
@[simp] theorem State.withPending_port (q : List Instr) : (s.withPending q).port = s.port := rfl
@[simp] theorem State.withPending_link (q : List Instr) : (s.withPending q).link = s.link := rfl
@[simp] theorem State.withPending_sig (q : List Instr) : (s.withPending q).sig = s.sig := rfl
@[simp] theorem State.withPending_pending (q : List Instr) : (s.withPending q).pending = q := rfl
@[simp] theorem State.withPending_chan (q : List Instr) (d : Chan) : (s.withPending q).chan d = s.chan d := rfl
@[simp] theorem State.withPending_block (q : List Instr) (j : BlockNo) : (s.withPending q).block j = s.block j := rfl
@[simp] theorem State.withPending_freeBlocks (q : List Instr) : (s.withPending q).freeBlocks = s.freeBlocks := rfl
@[simp] theorem State.withPending_heldBlocks (q : List Instr) (d : Chan) : (s.withPending q).heldBlocks d = s.heldBlocks d := rfl
@[simp] theorem State.withPending_retiredCount (q : List Instr) : (s.withPending q).retiredCount = s.retiredCount := rfl

/-! ## withFramer -/

@[simp] theorem State.withFramer_law (g : Framer) : (s.withFramer g).law = s.law := rfl
@[simp] theorem State.withFramer_channels (g : Framer) : (s.withFramer g).channels = s.channels := rfl
@[simp] theorem State.withFramer_blocks (g : Framer) : (s.withFramer g).blocks = s.blocks := rfl
@[simp] theorem State.withFramer_wait (g : Framer) : (s.withFramer g).wait = s.wait := rfl
@[simp] theorem State.withFramer_port (g : Framer) : (s.withFramer g).port = s.port := rfl
@[simp] theorem State.withFramer_link (g : Framer) : (s.withFramer g).link = { s.link with framer := g } := rfl
@[simp] theorem State.withFramer_sig (g : Framer) : (s.withFramer g).sig = s.sig := rfl
@[simp] theorem State.withFramer_pending (g : Framer) : (s.withFramer g).pending = s.pending := rfl
@[simp] theorem State.withFramer_chan (g : Framer) (d : Chan) : (s.withFramer g).chan d = s.chan d := rfl
@[simp] theorem State.withFramer_block (g : Framer) (j : BlockNo) : (s.withFramer g).block j = s.block j := rfl
@[simp] theorem State.withFramer_freeBlocks (g : Framer) : (s.withFramer g).freeBlocks = s.freeBlocks := rfl
@[simp] theorem State.withFramer_heldBlocks (g : Framer) (d : Chan) : (s.withFramer g).heldBlocks d = s.heldBlocks d := rfl
@[simp] theorem State.withFramer_retiredCount (g : Framer) : (s.withFramer g).retiredCount = s.retiredCount := rfl

/-! ## Reading what was written -/

@[simp] theorem State.setChan_chan_self (c : Chan) (ch : Channel) : (s.setChan c ch).chan c = ch := by
  simp [State.setChan, State.chan]

theorem State.setChan_chan_of_ne {c d : Chan} (ch : Channel) (h : d ≠ c) : (s.setChan c ch).chan d = s.chan d := by
  have : c.val ≠ d.val := fun e => h (Fin.ext e.symm)
  simp [State.setChan, State.chan, this]

theorem State.setChan_chan (c d : Chan) (ch : Channel) :
    (s.setChan c ch).chan d = if d = c then ch else s.chan d := by
  split
  · next h => subst h; simp
  · next h => exact s.setChan_chan_of_ne ch h

@[simp] theorem State.onChan_chan_self (c : Chan) (f : Channel → Channel) : (s.onChan c f).chan c = f (s.chan c) :=
  s.setChan_chan_self c _

theorem State.onChan_chan_of_ne {c d : Chan} (f : Channel → Channel) (h : d ≠ c) :
    (s.onChan c f).chan d = s.chan d :=
  s.setChan_chan_of_ne _ h

theorem State.onChan_chan (c d : Chan) (f : Channel → Channel) :
    (s.onChan c f).chan d = if d = c then f (s.chan c) else s.chan d :=
  s.setChan_chan c d _

@[simp] theorem State.setBlock_block_self (b : BlockNo) (k : Block) : (s.setBlock b k).block b = k := by
  simp [State.setBlock, State.block]

theorem State.setBlock_block_of_ne {b j : BlockNo} (k : Block) (h : j ≠ b) :
    (s.setBlock b k).block j = s.block j := by
  have : b.val ≠ j.val := fun e => h (Fin.ext e.symm)
  simp [State.setBlock, State.block, this]

theorem State.setBlock_block (b j : BlockNo) (k : Block) :
    (s.setBlock b k).block j = if j = b then k else s.block j := by
  split
  · next h => subst h; simp
  · next h => exact s.setBlock_block_of_ne k h

/-! ## Two updates in a row -/

@[simp] theorem State.setChan_setChan (c : Chan) (ch ch' : Channel) :
    (s.setChan c ch).setChan c ch' = s.setChan c ch' := by
  simp [State.setChan]

@[simp] theorem State.onChan_onChan (c : Chan) (f g : Channel → Channel) :
    (s.onChan c f).onChan c g = s.onChan c fun ch => g (f ch) := by
  simp only [State.onChan, State.setChan_chan_self, State.setChan_setChan]

theorem State.onChan_eq_setChan (c : Chan) (f : Channel → Channel) : s.onChan c f = s.setChan c (f (s.chan c)) := rfl

@[simp] theorem State.setChan_chan_eq (c : Chan) : s.setChan c (s.chan c) = s := by
  simp [State.setChan, State.chan]

@[simp] theorem State.setBlock_setBlock (b : BlockNo) (k k' : Block) :
    (s.setBlock b k).setBlock b k' = s.setBlock b k' := by
  simp [State.setBlock]

@[simp] theorem State.onPort_onPort (f g : Port → Port) : (s.onPort f).onPort g = s.onPort fun p => g (f p) := rfl

@[simp] theorem State.onLink_onLink (f g : Link → Link) : (s.onLink f).onLink g = s.onLink fun l => g (f l) := rfl

/-- Two states with equal channels have equal contexts, and conversely. -/
theorem State.channels_ext {t : State} (h : ∀ c : Chan, t.chan c = s.chan c) : t.channels = s.channels := by
  apply Vector.ext
  intro i hi
  exact h ⟨i, hi⟩

/-- Two states with equal blocks at every number have equal pools. -/
theorem State.blocks_ext {t : State} (h : ∀ b : BlockNo, t.block b = s.block b) : t.blocks = s.blocks := by
  apply Vector.ext
  intro i hi
  exact h ⟨i, hi⟩

/-- Channels mapped over are read by mapping. -/
theorem State.chan_map (f : Channel → Channel) (c : Chan) :
    ({ s with channels := s.channels.map f } : State).chan c = f (s.chan c) := by
  simp [State.chan]

/-! ## A channel after power-on -/

@[simp] theorem Channel.reset_life (c : Chan) : (Channel.reset c).life = .closed := rfl
@[simp] theorem Channel.reset_profile (c : Chan) : (Channel.reset c).profile = none := rfl
@[simp] theorem Channel.reset_staged (c : Chan) : (Channel.reset c).staged = .empty := rfl
@[simp] theorem Channel.reset_windows (c : Chan) : (Channel.reset c).windows = [] := rfl
@[simp] theorem Channel.reset_scout (c : Chan) : (Channel.reset c).scout = none := rfl
@[simp] theorem Channel.reset_lastScout (c : Chan) : (Channel.reset c).lastScout = 0 := rfl
@[simp] theorem Channel.reset_frozen (c : Chan) : (Channel.reset c).frozen = false := rfl
@[simp] theorem Channel.reset_service (c : Chan) : (Channel.reset c).service = .acquire := rfl
@[simp] theorem Channel.reset_toneMode (c : Chan) : (Channel.reset c).toneMode = .normal := rfl
@[simp] theorem Channel.reset_ring (c : Chan) : (Channel.reset c).ring = List.replicate 2048 0 := rfl
@[simp] theorem Channel.reset_gain (c : Chan) : (Channel.reset c).gain = 24 := rfl
@[simp] theorem Channel.reset_padIndex (c : Chan) : (Channel.reset c).padIndex = 24 := rfl
@[simp] theorem Channel.reset_mask (c : Chan) : (Channel.reset c).mask = allChannelKinds := rfl
@[simp] theorem Channel.reset_conditions (c : Chan) : (Channel.reset c).conditions = .clear := rfl
@[simp] theorem Channel.reset_counters (c : Chan) : (Channel.reset c).counters = .zero := rfl
@[simp] theorem Channel.reset_covered (c : Chan) : (Channel.reset c).covered = [] := rfl

theorem State.powerOn_chan (rate : LineRate) (c : Chan) : (State.powerOn rate).chan c = Channel.reset c := by
  show (Vector.ofFn Channel.reset)[c.val] = _
  rw [Vector.getElem_ofFn]

theorem State.powerOn_block (rate : LineRate) (b : BlockNo) : (State.powerOn rate).block b = Block.reset := by
  show (Vector.replicate 192 Block.reset)[b.val] = _
  rw [Vector.getElem_replicate]

end Sys2Proof.Machine
end

