-- ==== Sys2Proof/Laws/Ops.lean ====
section
/-!
SUPPORT. What each shared operation can do, said once: the arbiter, a notice event, a reply, a request served, a handover,
a returned block, disturbances and tests, the work of a sample, framing that stops, the OUT pins, and the search of a slot map.
-/

namespace Sys2Proof.Machine

variable (s : State)

/-! ## The transmitter and the notice queue -/

/-- The arbiter changes nothing but the link. -/
theorem State.arbitrate_eq : s.arbitrate = { s with link := s.arbitrate.link } := by
  unfold State.arbitrate
  split
  · split
    · rfl
    · split <;> rfl
  · rfl

/-- The arbiter leaves a transmitter that is sending alone. -/
theorem State.arbitrate_busy (h : s.link.tx ≠ .idle) : s.arbitrate = s := by
  unfold State.arbitrate
  split
  · next h' => exact absurd h' h
  · rfl

/-- A notice event changes nothing but the link. -/
theorem State.raiseNotice_eq (u : Source) (k : NoticeKind) :
    s.raiseNotice u k = { s with link := (s.raiseNotice u k).link } := by
  unfold State.raiseNotice
  split
  · exact State.arbitrate_eq _
  · rfl

@[simp] theorem State.raiseNotice_law (u : Source) (k : NoticeKind) : (s.raiseNotice u k).law = s.law := by
  rw [State.raiseNotice_eq]

@[simp] theorem State.raiseNotice_channels (u : Source) (k : NoticeKind) :
    (s.raiseNotice u k).channels = s.channels := by
  rw [State.raiseNotice_eq]

@[simp] theorem State.raiseNotice_blocks (u : Source) (k : NoticeKind) : (s.raiseNotice u k).blocks = s.blocks := by
  rw [State.raiseNotice_eq]

@[simp] theorem State.raiseNotice_wait (u : Source) (k : NoticeKind) : (s.raiseNotice u k).wait = s.wait := by
  rw [State.raiseNotice_eq]

@[simp] theorem State.raiseNotice_port (u : Source) (k : NoticeKind) : (s.raiseNotice u k).port = s.port := by
  rw [State.raiseNotice_eq]

@[simp] theorem State.raiseNotice_sig (u : Source) (k : NoticeKind) : (s.raiseNotice u k).sig = s.sig := by
  rw [State.raiseNotice_eq]

@[simp] theorem State.raiseNotice_pending (u : Source) (k : NoticeKind) :
    (s.raiseNotice u k).pending = s.pending := by
  rw [State.raiseNotice_eq]

@[simp] theorem State.raiseNotice_chan (u : Source) (k : NoticeKind) (c : Chan) :
    (s.raiseNotice u k).chan c = s.chan c := by
  rw [State.raiseNotice_eq]; rfl

@[simp] theorem State.raiseNotice_block (u : Source) (k : NoticeKind) (b : BlockNo) :
    (s.raiseNotice u k).block b = s.block b := by
  rw [State.raiseNotice_eq]; rfl

@[simp] theorem State.raiseNotice_freeBlocks (u : Source) (k : NoticeKind) :
    (s.raiseNotice u k).freeBlocks = s.freeBlocks := by
  rw [State.raiseNotice_eq]; rfl

@[simp] theorem State.raiseNotice_heldBlocks (u : Source) (k : NoticeKind) (c : Chan) :
    (s.raiseNotice u k).heldBlocks c = s.heldBlocks c := by
  rw [State.raiseNotice_eq]; rfl

theorem State.chanNotice_eq_raiseNotice (c : Chan) (k : NoticeKind) :
    s.chanNotice c k = s.raiseNotice (.channel c) k := rfl

theorem State.portNotice_eq_raiseNotice (k : NoticeKind) : s.portNotice k = s.raiseNotice .port k := rfl

/-- A notice event that the enable or the mask stops leaves the state as it was (R170). -/
theorem State.raiseNotice_stopped (u : Source) (k : NoticeKind)
    (h : (s.link.enable && (s.maskOf u).getLsbD (maskBit k)) = false) : s.raiseNotice u k = s := by
  simp [State.raiseNotice, h]

/-- The settling of a notice changes nothing but the link. -/
theorem State.settleNotice_eq (t : State) : s.settleNotice t = { t with link := (s.settleNotice t).link } := by
  unfold State.settleNotice
  split <;> rfl

/-! ## Replies -/

/-- A reply that joins the queue, told by the link alone (R163, R169). -/
theorem State.pushReply_eq_answered (tag kind : Byte) (a : Answer) :
    s.pushReply tag kind a = s.answered (replyRecord tag kind a) := by
  obtain ⟨law, chs, bl, w, port, link, sig, pend⟩ := s
  obtain ⟨fr, rep, no, tx, en, rate⟩ := link
  cases tx <;> cases rep <;>
    simp [State.pushReply, State.answered, State.arbitrate, State.onLink, Link.withReply]

/-- What is to be sent grows by the reply at its tail. -/
theorem Link.withReply_outgoing (l : Link) (r : Record) : (l.withReply r).outgoing = l.outgoing ++ [r] := by
  obtain ⟨fr, rep, no, tx, en, rate⟩ := l
  cases tx <;> cases rep <;> simp [Link.withReply, Link.outgoing, Transmitter.reply?]

theorem replyRecord_done (tag kind : Byte) (fields : List Byte) :
    replyRecord tag kind (.done fields) = doneRecord tag kind fields := rfl

theorem replyRecord_refused (tag kind : Byte) (why : Reason) :
    replyRecord tag kind (.refused why) = refusedRecord tag kind (reasonCode why) := rfl

/-- A request with room in the reply queue: its owner acts and its one reply is queued (R163). -/
theorem serve_of_room (tag kind : Byte) (act : Request) (h : s.HasRoom) :
    serve tag kind act s = (act s).1.answered (replyRecord tag kind (act s).2) := by
  have : ¬Config.replyLimit ≤ s.link.replies.length := Nat.not_le.mpr h
  rw [serve, if_neg this, State.pushReply_eq_answered]

/-- A request with the reply queue full is counted and does nothing else (R163). -/
theorem serve_of_full (tag kind : Byte) (act : Request) (h : 4 ≤ s.link.replies.length) :
    serve tag kind act s = s.onPort Port.countOverrun := by
  rw [serve, if_pos (show Config.replyLimit ≤ s.link.replies.length from h)]

/-! ## Operand codes -/

theorem chanOf_byteOf (c : Chan) : chanOf (byteOf c.val) = some c := by
  have := c.isLt
  have h : (byteOf c.val).toNat = c.val := by simp [byteOf]; omega
  simp [chanOf, h]

theorem chanOf_eq_none {b : Byte} (h : 31 < b.toNat) : chanOf b = none := by
  simp [chanOf]; omega

theorem posOf_byteOf (p : Pos) : posOf (byteOf p.val) = some p := chanOf_byteOf p

theorem posOf_eq_none {b : Byte} (h : 31 < b.toNat) : posOf b = none := chanOf_eq_none h

theorem tableOf_tableCode (t : TableName) : tableOf (tableCode (some t)) = some t := by
  cases t <;> rfl

theorem sourceOf_port : sourceOf 0x40#8 = some .port := rfl

theorem sourceOf_byteOf (c : Chan) : sourceOf (byteOf c.val) = some (.channel c) := by
  have := c.isLt
  have h : byteOf c.val ≠ 0x40#8 := by
    intro e
    have := congrArg BitVec.toNat e
    simp [byteOf] at this
    omega
  simp [sourceOf, h, chanOf_byteOf]

/-! ## Slot maps -/

/-- The slot found for a channel holds it. -/
theorem slotOf_eq_some {m : SlotMap} {c : Chan} {n : Slot} (h : slotOf m c = some n) : m[n.val] = some c := by
  have := List.find?_some h
  simpa using this

/-- No slot is found exactly where no slot holds the channel. -/
theorem slotOf_eq_none {m : SlotMap} {c : Chan} : slotOf m c = none ↔ ∀ n : Slot, m[n.val] ≠ some c := by
  simp [slotOf, List.find?_eq_none]

/-- A channel that one slot alone holds is found there. -/
theorem slotOf_unique {m : SlotMap} {c : Chan} {n : Slot} (h : ∀ k : Slot, m[k.val] = some c ↔ k = n) :
    slotOf m c = some n := by
  cases hm : slotOf m c with
  | none => exact absurd ((h n).mpr rfl) (slotOf_eq_none.mp hm n)
  | some k => rw [(h k).mp (slotOf_eq_some hm)]

/-! ## The pool -/

/-- A handover writes the one block (R65). -/
theorem State.handover_block (b j : BlockNo) (c : Chan) :
    (s.handover b c).block j =
      if j = b then { taps := List.replicate 32 0, condition := .held c, altered := false } else s.block j :=
  s.setBlock_block b j _

@[simp] theorem State.handover_chan (b : BlockNo) (c d : Chan) : (s.handover b c).chan d = s.chan d := rfl

/-- Tap values written to a block leave its condition alone and renew its check code (R26). -/
theorem State.writeTaps_block (b j : BlockNo) (taps : List Int) :
    (s.writeTaps b taps).block j =
      if j = b then { s.block b with taps := taps, altered := false } else s.block j :=
  s.setBlock_block b j _

@[simp] theorem State.writeTaps_chan (b : BlockNo) (taps : List Int) (d : Chan) :
    (s.writeTaps b taps).chan d = s.chan d := rfl

/-- With nobody waiting a returned block becomes free and keeps its values (R68). -/
theorem State.returnBlock_free (b : BlockNo) (h : s.wait = []) :
    s.returnBlock b = s.setBlock b { s.block b with condition := .free } := by
  simp [State.returnBlock, h]

/-- With somebody waiting a returned block goes to the head of the list (R68). -/
theorem State.returnBlock_waiter (b : BlockNo) {e : WaitEntry} {rest : List WaitEntry} (h : s.wait = e :: rest) :
    s.returnBlock b = (s.withWait rest).serveWaiter e b := by
  simp [State.returnBlock, h]

/-- The free blocks are those whose condition is free. -/
theorem State.mem_freeBlocks (b : BlockNo) : b ∈ s.freeBlocks ↔ (s.block b).condition = .free := by
  simp [State.freeBlocks, allBlocks]

/-- The blocks a channel holds are those recorded as held by it. -/
theorem State.mem_heldBlocks (b : BlockNo) (c : Chan) : b ∈ s.heldBlocks c ↔ (s.block b).condition = .held c := by
  simp [State.heldBlocks, allBlocks]

/-! ## Disturbances and tests -/

/-- Disturbances change nothing but the blocks (R26). -/
theorem State.disturb_eq (upset : List Disturbance) :
    s.disturb upset = { s with blocks := (s.disturb upset).blocks } := by
  unfold State.disturb
  induction upset generalizing s with
  | nil => rfl
  | cons d ds ih => rw [List.foldl_cons, ih]; rfl

@[simp] theorem State.disturb_law (upset : List Disturbance) : (s.disturb upset).law = s.law := by
  rw [State.disturb_eq]

@[simp] theorem State.disturb_channels (upset : List Disturbance) : (s.disturb upset).channels = s.channels := by
  rw [State.disturb_eq]

@[simp] theorem State.disturb_chan (upset : List Disturbance) (c : Chan) : (s.disturb upset).chan c = s.chan c := by
  rw [State.disturb_eq]; rfl

@[simp] theorem State.disturb_wait (upset : List Disturbance) : (s.disturb upset).wait = s.wait := by
  rw [State.disturb_eq]

@[simp] theorem State.disturb_port (upset : List Disturbance) : (s.disturb upset).port = s.port := by
  rw [State.disturb_eq]

@[simp] theorem State.disturb_link (upset : List Disturbance) : (s.disturb upset).link = s.link := by
  rw [State.disturb_eq]

@[simp] theorem State.disturb_sig (upset : List Disturbance) : (s.disturb upset).sig = s.sig := by
  rw [State.disturb_eq]

@[simp] theorem State.disturb_pending (upset : List Disturbance) : (s.disturb upset).pending = s.pending := by
  rw [State.disturb_eq]

/-- One more disturbance, after the others, writes its own block. -/
theorem State.disturb_append (upset : List Disturbance) (d : Disturbance) :
    s.disturb (upset ++ [d]) =
      (s.disturb upset).setBlock d.block { (s.disturb upset).block d.block with taps := d.taps, altered := true } := by
  simp [State.disturb, List.foldl_append]

/-- Every block after disturbances: the last of its own is what it holds (R26). -/
theorem State.disturb_block (upset : List Disturbance) (b : BlockNo) :
    (s.disturb upset).block b = s.upsetBlock upset b := by
  induction upset using List.reverseRecOn with
  | nil => rfl
  | append_singleton ds d ih =>
    rw [State.disturb_append, State.setBlock_block]
    by_cases h : b = d.block
    · subst h
      simp only [ih, State.upsetBlock, List.reverse_append, List.reverse_cons, List.reverse_nil, List.nil_append,
        List.singleton_append, List.find?_cons, beq_self_eq_true, if_true]
      split <;> rfl
    · have h' : (d.block == b) = false := by simpa using fun e => h e.symm
      simp [h, h', ih, State.upsetBlock]

/-- Handling every block of a list that fails its test is a walk along it (R26, R71). -/
theorem State.testBlocks_eq_foldl (c : Chan) (ks : List (Pos × BlockNo)) :
    s.testBlocks c ks =
      ks.foldl (fun t k => if (t.block k.2).altered then t.blockFault c k.2 else t) s := by
  induction ks generalizing s with
  | nil => rfl
  | cons k ks ih =>
    obtain ⟨p, b⟩ := k
    simp only [State.testBlocks, List.foldl_cons]
    split <;> exact ih _

/-- The test of every block a channel holds. -/
theorem State.tested_eq_testBlocks (c : Chan) : s.tested c = s.testBlocks c (s.chan c).covered :=
  (s.testBlocks_eq_foldl c _).symm

/-- Where every test passes, testing changes nothing. -/
theorem State.tested_of_sound (c : Chan) (h : ∀ k ∈ (s.chan c).covered, (s.block k.2).altered = false) :
    s.tested c = s := by
  rw [State.tested_eq_testBlocks]
  revert h
  induction (s.chan c).covered with
  | nil => intro _; rfl
  | cons k ks ih =>
    intro h
    obtain ⟨p, b⟩ := k
    have hb := h (p, b) List.mem_cons_self
    simp only [State.testBlocks]
    rw [if_neg (by simp [hb])]
    exact ih fun k hk => h k (List.mem_cons_of_mem _ hk)

/-! ## The work of a sample -/

/-- Notice events of one channel change nothing but the link. -/
theorem State.raiseNotices_eq (c : Chan) (kinds : List NoticeKind) :
    s.raiseNotices c kinds = { s with link := (s.raiseNotices c kinds).link } := by
  unfold State.raiseNotices
  induction kinds generalizing s with
  | nil => rfl
  | cons k ks ih => rw [List.foldl_cons, ih, State.raiseNotice_eq]

@[simp] theorem State.raiseNotices_nil (c : Chan) : s.raiseNotices c [] = s := rfl

theorem State.raiseNotices_append (c : Chan) (ks js : List NoticeKind) :
    s.raiseNotices c (ks ++ js) = (s.raiseNotices c ks).raiseNotices c js := List.foldl_append

/-- With no sample in work there is no exit to NORMAL (R110). -/
theorem State.returnToNormal_between (c : Chan) (h : (s.chan c).inSample = false) : s.returnToNormal c = s := by
  simp [State.returnToNormal, h]

/-- With no sample in work there is no release of the suppressor (R100). -/
theorem Channel.releaseSuppressor_between (ch : Channel) (h : ch.inSample = false) : ch.releaseSuppressor = ch := by
  simp [Channel.releaseSuppressor, h]

/-- With no sample in work the noise floor is not taken (R101). -/
theorem Channel.updateNoiseFloor_between (ch : Channel) (p : Profile) (h : ch.inSample = false) :
    ch.updateNoiseFloor p = ch := by
  simp [Channel.updateNoiseFloor, h]

/-- With no sample in work there is no quiet point (R122, R134). -/
theorem State.quietPoint_between (c : Chan) (h : (s.chan c).inSample = false) : s.quietPoint c = s := by
  unfold State.quietPoint
  split <;> simp [h]

/-! ## Blocks handed on -/

/-- With nothing handed over the windows stand. -/
@[simp] theorem fillPins_nil (d : Chan) (ws : List Window) : fillPins d [] ws = ws := by
  unfold fillPins
  conv => rhs; rw [← List.map_id ws]
  refine List.map_congr_left fun w _ => ?_
  split
  · next h => obtain ⟨p, k, b⟩ := w; simp_all
  · rfl

/-- A channel to which nothing is handed over is unchanged. -/
theorem Channel.ServedBy.of_nil {before after : Channel} {d : Chan} (h : before.ServedBy after d []) :
    after = before := by
  obtain ⟨h1, h2, -⟩ := h
  have h3 := h2 (by simp)
  rw [h1, fillPins_nil, h3.1, h3.2]

/-! ## Framing -/

/-- The port frames in RUN with the clock present once it awaits no pulse (R145, R146, R151). -/
theorem Port.framing_iff (p : Port) :
    p.framing = true ↔ p.runState = .run ∧ p.clock = .ok ∧ p.awaiting = false := by
  simp [Port.framing, Port.clocked, and_assoc]

/-- An OUT pin is driven exactly on the eight bit clocks of the slot begun, with the bits of its code (R143, R153). -/
theorem Port.outPin_eq_some {p : Port} {h : Highway} {bit : Bool} :
    p.outPin h = some bit ↔
      ∃ (f : Frame) (code : Byte), p.frame = some f ∧ p.outCode h = some code ∧ p.elapsed / 8 + 1 = f.begun h ∧
        slotBit code (p.elapsed % 8) = bit := by
  unfold Port.outPin
  cases p.frame <;> cases p.outCode h <;> simp

@[simp] theorem State.stopFraming_chan (c : Chan) :
    s.stopFraming.chan c = { s.chan c with freshRout := false, freshSout := false } :=
  State.chan_map _ Channel.clearFresh c

@[simp] theorem State.stopFraming_block (b : BlockNo) : s.stopFraming.block b = s.block b := rfl

@[simp] theorem State.stopFraming_port :
    s.stopFraming.port = { s.port.cutFrame with awaiting := false } := rfl

end Sys2Proof.Machine
end

