-- ==== Sys2Proof/Laws/Pool.lean ====
section
/-!
SUPPORT. What the searches of the placement unit answer: the next-position search (R44), the weakest window (R50, R61),
and the place a window takes in its list (R41).
-/

namespace Sys2Proof.Machine

/-- The lowest-position search answers the lowest unoccupied position, where there is one (R44). -/
theorem lowestUnoccupied_spec {occupied : List Pos} (h : ∃ q : Pos, q ∉ occupied) :
    LowestFree occupied (lowestUnoccupied occupied) := by
  unfold lowestUnoccupied
  cases hf : (List.finRange 32).find? fun q => !occupied.contains q with
  | none =>
    obtain ⟨q, hq⟩ := h
    have := List.find?_eq_none.1 hf q (List.mem_finRange q)
    simp [hq] at this
  | some q =>
    refine ⟨by simpa using List.find?_some hf, fun r hr => ?_⟩
    obtain ⟨-, i, hi, hget, hbefore⟩ := List.find?_eq_some_iff_getElem.1 hf
    simp only [List.getElem_finRange, Fin.cast_mk] at hget
    subst hget
    simpa using hbefore r.val hr

/-- The next-position search answers the first unoccupied position after `p`, where there is one (R44). -/
theorem nextUnoccupied_spec {occupied : List Pos} (p : Pos) (h : ∃ q : Pos, q ∉ occupied) :
    NextFree occupied p (nextUnoccupied occupied p) := by
  unfold nextUnoccupied
  cases hf : ((List.range 32).map fun i => p + 1 + Fin.ofNat 32 i).find? fun q => !occupied.contains q with
  | none =>
    obtain ⟨q, hq⟩ := h
    have hmem : q ∈ (List.range 32).map fun i => p + 1 + Fin.ofNat 32 i := by
      have hp := p.isLt
      have hq := q.isLt
      refine List.mem_map.2 ⟨(q.val + 31 + (32 - p.val)) % 32, List.mem_range.2 (by omega), Fin.ext ?_⟩
      simp [Fin.val_add, Fin.ofNat]
      omega
    have := List.find?_eq_none.1 hf q hmem
    simp [hq] at this
  | some q =>
    refine ⟨by simpa using List.find?_some hf, ?_⟩
    obtain ⟨-, i, hi, hget, hbefore⟩ := List.find?_eq_some_iff_getElem.1 hf
    simp only [List.length_map, List.length_range] at hi
    simp only [List.getElem_map, List.getElem_range] at hget hbefore
    refine ⟨i + 1, by omega, by omega, ?_, fun m hm hmi r hr => ?_⟩
    · subst hget; simp [Fin.val_add, Fin.ofNat]; omega
    · have hb := hbefore (m - 1) (by omega)
      have hr' : r = p + 1 + Fin.ofNat 32 (m - 1) := by
        apply Fin.ext; simp [Fin.val_add, Fin.ofNat]; omega
      subst hr'; simpa using hb

/-- A list has a weakest window exactly where it is not empty. -/
theorem weakest_eq_none {e : Window → Nat} {ws : List Window} : weakest e ws = none ↔ ws = [] := by
  cases ws with
  | nil => simp [weakest]
  | cons w ws =>
    simp only [weakest, reduceCtorEq, iff_false]
    split
    · simp
    · split <;> simp

/-- The weakest window is in the list and has the least energy in it. -/
theorem weakest_least {e : Window → Nat} {ws : List Window} {w : Window} (h : weakest e ws = some w) :
    w ∈ ws ∧ ∀ v ∈ ws, e w ≤ e v := by
  induction ws generalizing w with
  | nil => simp [weakest] at h
  | cons u us ih =>
    simp only [weakest] at h
    split at h
    · rename_i hn
      cases h; simp [weakest_eq_none.1 hn]
    · rename_i v hv
      have := ih hv
      split at h <;> cases h
      · exact ⟨by simp, by simp; intro a ha; exact le_trans ‹_› (this.2 a ha)⟩
      · exact ⟨by simp [this.1], by simp; exact ⟨by omega, this.2⟩⟩

/-- In an ascending list the weakest window is the one R50 and R61 name: of least energy, and of those at the lowest
position. -/
theorem weakest_spec {s : State} {ws : List Window} {w : Window} (hs : ws.Pairwise fun a b => a.pos < b.pos)
    (h : weakest s.windowEnergy ws = some w) : s.IsWeakest ws w := by
  induction ws generalizing w with
  | nil => simp [weakest] at h
  | cons u us ih =>
    obtain ⟨hu, hus⟩ := List.pairwise_cons.1 hs
    simp only [weakest] at h
    split at h
    · rename_i hn
      cases h; simp [weakest_eq_none.1 hn, State.IsWeakest]
    · rename_i v hv
      have hv' := ih hus hv
      have hle := (weakest_least hv).2
      split at h <;> rename_i hwv <;> cases h
      · refine ⟨by simp, ?_⟩
        intro a ha
        rcases List.mem_cons.1 ha with rfl | ha
        · exact .inr ⟨rfl, le_refl _⟩
        · exact (Nat.lt_or_eq_of_le (le_trans hwv (hle a ha))).imp_right fun h => ⟨h, (hu a ha).le⟩
      · refine ⟨by simp [hv'.1], ?_⟩
        intro a ha
        rcases List.mem_cons.1 ha with rfl | ha
        · exact .inl (by omega)
        · exact hv'.2 a ha

/-- Taking a place in the list adds that window and no other. -/
@[simp] theorem mem_insertWindow {w v : Window} {ws : List Window} : v ∈ insertWindow w ws ↔ v = w ∨ v ∈ ws := by
  induction ws with
  | nil => simp [insertWindow]
  | cons u us ih => simp only [insertWindow]; split <;> simp [ih]; tauto

@[simp] theorem length_insertWindow {w : Window} {ws : List Window} :
    (insertWindow w ws).length = ws.length + 1 := by
  induction ws with
  | nil => simp [insertWindow]
  | cons u us ih => simp only [insertWindow]; split <;> simp [ih]

/-- The list stays in ascending order of position (R41). -/
theorem insertWindow_ascending {w : Window} {ws : List Window} (hs : ws.Pairwise fun a b => a.pos < b.pos)
    (hw : ∀ v ∈ ws, v.pos ≠ w.pos) : (insertWindow w ws).Pairwise fun a b => a.pos < b.pos := by
  induction ws with
  | nil => simp [insertWindow]
  | cons u us ih =>
    obtain ⟨hu, hus⟩ := List.pairwise_cons.1 hs
    simp only [insertWindow]
    split
    · rename_i hlt
      exact List.pairwise_cons.2 ⟨fun a ha => by
        rcases List.mem_cons.1 ha with rfl | ha
        · exact hlt
        · exact lt_trans hlt (hu a ha), hs⟩
    · rename_i hlt
      refine List.pairwise_cons.2 ⟨fun a ha => ?_, ih hus fun v hv => hw v (by simp [hv])⟩
      rcases mem_insertWindow.1 ha with rfl | ha
      · exact lt_of_le_of_ne (not_lt.1 hlt) (hw u (by simp))
      · exact hu a ha

end Sys2Proof.Machine
end

