-- ==== Sys2Proof/Tests/Slice0.lean ====
section
/-!
SUPPORT. Tests of one step each, with results taken from the manual's tables and worked sequences, and for every
statement with hypotheses a witness that they can be met. Each test's docstring names its source.
-/

namespace Sys2Proof.Tests

set_option Elab.async false

open Sys2Proof Sys2Proof.Machine

/-! ## Small states -/

/-- The next state of an outcome. -/
def after : Host.Outcome State Fault Refusal → State
  | .next t => t
  | _ => State.reset

/-- A valid linear law of 256 distinct entries, 128 apart; code 80h expands to 0. -/
def law : LawTable :=
  { entries := (List.range 256).map fun (k : Nat) => 128 * (k : Int) - 16384, valid := true, idle := some 0x80#8 }

/-- A valid law whose entries are distinct: the listed ones by code, and large ones elsewhere. -/
def lawWith (listed : List (Nat × Int)) : LawTable :=
  { entries := (List.range 256).map fun (k : Nat) => (listed.lookup k).getD (-(32000 + (k : Int))), valid := true
    idle := some 0x00#8 }

/-- The entries of `law` are linear values and distinct. -/
theorem law_linear : ∀ v ∈ law.entries, Linear v := by
  intro v hv
  obtain ⟨k, hk, rfl⟩ := List.mem_map.mp hv
  have := List.mem_range.mp hk
  constructor <;> omega

theorem law_nodup : law.entries.Nodup := by
  refine List.Nodup.map (fun a b h => ?_) List.nodup_range
  have h' : 128 * (a : Int) - 16384 = 128 * (b : Int) - 16384 := h
  omega

/-- A map that holds channel `c` in slot `n` alone. -/
def mapAt (n : Nat) (c : Chan) : SlotMap := (Vector.replicate 32 none).setIfInBounds n (some c)

theorem mapAt_namesOnce (n : Nat) (c : Chan) : (mapAt n c).NamesOnce := by
  intro i j d hi hj
  simp only [mapAt, Vector.getElem_setIfInBounds, Vector.getElem_replicate] at hi hj
  split at hi
  · split at hj
    · next h h' => exact Fin.ext (h.symm.trans h')
    · cases hj
  · cases hi

/-- Power-on state with both tables valid, channel 0 in line slot 0 and exchange slot 31, and 3 replies queued behind the
one being sent: the most that leaves room. -/
def base : State :=
  let r : Record := { kind := 0x80#8, tag := 0x07#8, body := [0x01#8] }
  { State.reset with
    law := { State.reset.law with a := law, b := law }
    port := { State.reset.port with lineMap := mapAt 0 0, exchangeMap := mapAt 31 0 }
    link := { State.reset.link with tx := .reply r, replies := [r, r, r] } }

/-- The same with the transmitter idle and nothing queued, so that a reply is seen on the line at once. -/
def quiet : State := { base with link := State.reset.link }

/-- The reply queue full. -/
def full : State := { base with link := { base.link with replies := base.link.replies ++ base.link.replies.take 1 } }

/-- The body of the reply on the line. -/
def sent (s : State) : List Byte := (s.link.tx.reply?.map Record.body).flatten

/-- A profile: no pins, initial position 6, quota 4, NLP mode NOISE, policy FULL, ALC on in 22..26. -/
def prof : Profile :=
  { lineLaw := .a, exchangeLaw := .b, bulk := 0, quota := 4, pins := [], initialPos := 6, step := 16, floor := .normal
    echoLoss := .db6, nlpMode := .noise, nlpMargin := .db12, tonePolicy := .full, alcOn := true, target := 1024
    gmin := 22, gmax := 26, fixedIndex := 24, padIndex := 24 }

/-- A FOUND window with its block. -/
def found (p : Pos) (b : BlockNo) : Window := { pos := p, kind := .found, block := some b }

/-- A PINNED window, vacant where it has no block. -/
def pinned (p : Pos) (b : Option BlockNo) : Window := { pos := p, kind := .pinned, block := b }

/-- Channel 0 in service, ACTIVE in ACQUIRE: a FOUND window at 6 with block 20 and the scout at 0 with block 21. -/
def worker : Channel :=
  { Channel.reset 0 with
    life := .active, profile := some prof, windows := [found 6 20], scout := some { pos := 0, block := 21, dwell := 0 } }

/-- Blocks held by channel 0 with their taps; all other blocks in one condition. -/
def poolOf (held : List (BlockNo × List Int)) (others : BlockCondition) (b : BlockNo) : Block :=
  match held.lookup b with
  | some taps => { taps := taps, condition := .held 0, altered := false }
  | none => { taps := zeroTaps, condition := others, altered := false }

/-- The pool that a function of the block numbers describes. -/
def pool (f : BlockNo → Block) : Vector Block 192 := ⟨⟨(List.finRange 192).map f⟩, by simp⟩

/-- `base` with the context of channel 0, the blocks and the wait list given. -/
def one (ch : Channel) (held : List (BlockNo × List Int)) (others : BlockCondition) (wait : List WaitEntry) : State :=
  { base.setChan 0 ch with blocks := pool (poolOf held others), wait := wait }

/-- A tap list of one value and zeros, whose energy is the square of the value. -/
def taps (t : Int) : List Int := t :: List.replicate 31 0

/-- The blocks of `worker`, with an energy in each. -/
def workerBlocks : List (BlockNo × List Int) := [(20, taps 30), (21, taps 5)]

/-- A disturbance that leaves the value 7 in every tap of a block. -/
def hit (b : BlockNo) : Disturbance := { block := b, stored := Vector.replicate 32 7#24 }

/-- The state of `worker`. -/
def busy : State := one worker workerBlocks .free []

@[simp] theorem one_chan_zero (ch : Channel) (held : List (BlockNo × List Int)) (others : BlockCondition)
    (wait : List WaitEntry) : (one ch held others wait).chan 0 = ch := by
  have h := base.setChan_chan_self 0 ch
  simp only [State.chan] at h
  simp only [one, State.chan, h]

theorem one_chan_of_ne {c : Chan} (ch : Channel) (held : List (BlockNo × List Int)) (others : BlockCondition)
    (wait : List WaitEntry) (h : c ≠ 0) : (one ch held others wait).chan c = Channel.reset c := by
  have h1 := base.setChan_chan_of_ne ch h
  have h2 := State.powerOn_chan .baud9600 c
  simp only [State.chan, base, State.reset] at h1 h2 ⊢
  simp only [one, base, State.reset, h1, h2]

@[simp] theorem one_block (ch : Channel) (held : List (BlockNo × List Int)) (others : BlockCondition)
    (wait : List WaitEntry) (b : BlockNo) : (one ch held others wait).block b = poolOf held others b := by
  show ((List.finRange 192).map (poolOf held others))[b.val]'(by simp) = _
  simp

@[simp] theorem one_wait (ch : Channel) (held : List (BlockNo × List Int)) (others : BlockCondition)
    (wait : List WaitEntry) : (one ch held others wait).wait = wait := rfl

/-- The pool laws of a state in which channel 0 alone is open, told from its context, its blocks and the wait list. -/
structure OneSound (ch : Channel) (held : List (BlockNo × List Int)) (others : BlockCondition)
    (wait : List WaitEntry) : Prop where
  service : ch.life ≠ .closed ∧ ch.profile.isSome = true
  profiles : (∀ p ∈ ch.profile, p.FieldsSound) ∧ (∀ p ∈ ch.staged.records, p.FieldsSound) ∧ ch.PendingSound
  rest : others = BlockCondition.free ∨ others = BlockCondition.retired
  holders : (ch.covered.map Prod.snd).Nodup ∧ (∀ b ∈ ch.covered.map Prod.snd, b ∈ held.map Prod.fst) ∧
    ∀ b ∈ held.map Prod.fst, b ∈ ch.covered.map Prod.snd
  waits : wait = [] ∨ others = BlockCondition.retired
  order : wait = wait.filter WaitEntry.isPin ++ wait.filter fun e => !e.isPin
  placement : ch.PlacementSound
  entries : wait.Nodup ∧ (∀ e ∈ wait, e.chan = 0) ∧
    (({ chan := 0, claim := .scout } : WaitEntry) ∈ wait ↔ ch.scout = none) ∧
    ∀ p : Pos, ({ chan := 0, claim := .pin p } : WaitEntry) ∈ wait ↔
      ∃ w ∈ ch.windows, w.pos = p ∧ w.kind = .pinned ∧ w.block = none

theorem lookup_isSome (held : List (BlockNo × List Int)) (b : BlockNo) :
    (held.lookup b).isSome = true ↔ b ∈ held.map Prod.fst := by
  induction held with
  | nil => simp
  | cons k rest ih =>
    obtain ⟨j, t⟩ := k
    by_cases h : b = j
    · subst h; simp
    · have : (b == j) = false := by simpa using h
      simp only [List.lookup_cons, this, List.map_cons, List.mem_cons]
      rw [ih]
      simp [h]

theorem poolOf_held (held : List (BlockNo × List Int)) (others : BlockCondition) (b : BlockNo) (c : Chan)
    (h : others = .free ∨ others = .retired) :
    (poolOf held others b).condition = .held c ↔ b ∈ held.map Prod.fst ∧ c = 0 := by
  rw [← lookup_isSome]
  unfold poolOf
  cases held.lookup b with
  | none => rcases h with rfl | rfl <;> simp
  | some t => simp [eq_comm]

theorem one_sound {ch : Channel} {held : List (BlockNo × List Int)} {others : BlockCondition} {wait : List WaitEntry}
    (h : OneSound ch held others wait) : (one ch held others wait).PoolSound where
  profilesHeld := by
    intro c
    by_cases hc : c = 0
    · subst hc
      have := h.service
      cases hp : ch.profile <;> simp_all
    · rw [one_chan_of_ne _ _ _ _ hc]; simp
  profilesSound := by
    intro c
    by_cases hc : c = 0
    · subst hc; simpa using h.profiles
    · rw [one_chan_of_ne _ _ _ _ hc]
      simp [Staged.records, Channel.PendingSound, Staged.pendingRecord]
  holders := by
    intro c
    simp only [one_block, poolOf_held _ _ _ _ h.rest]
    by_cases hc : c = 0
    · subst hc
      rw [one_chan_zero]
      exact ⟨h.holders.1, fun b => ⟨fun hb => h.holders.2.2 b hb.1, fun hb => ⟨h.holders.2.1 b hb, rfl⟩⟩⟩
    · rw [one_chan_of_ne _ _ _ _ hc]; simp [hc]
  waitMeansEmpty := by
    intro hw
    have ho : others = .retired := h.waits.resolve_left hw
    apply List.eq_nil_iff_forall_not_mem.mpr
    intro b
    rw [State.mem_freeBlocks, one_block, poolOf]
    cases held.lookup b <;> simp [ho]
  pinsFirst := h.order
  placement := by
    intro c
    by_cases hc : c = 0
    · subst hc; simpa using h.placement
    · rw [one_chan_of_ne _ _ _ _ hc]
      simp [Channel.PlacementSound]
  waits := by
    refine ⟨h.entries.1, fun c => ?_⟩
    by_cases hc : c = 0
    · subst hc
      rw [one_chan_zero]
      exact ⟨fun hl => absurd hl h.service.1, fun _ => h.entries.2.2⟩
    · rw [one_chan_of_ne _ _ _ _ hc]
      refine ⟨fun _ e he hec => hc (by rw [← hec]; exact h.entries.2.1 e he), fun hl => absurd rfl hl⟩

/-- The state of `worker` is sound. -/
theorem busy_sound : busy.PoolSound :=
  one_sound ⟨by decide, by decide, by decide, by decide +kernel, by decide, by decide, by decide +kernel, by decide +kernel⟩

/-! ## Well-formed commands -/

/-- An unknown request whose KIND is in the catalogue is refused by the check, and so is a body above 198 bytes (R159,
R164). -/
theorem test_wellFormed_unknownRequest :
    (Instr.unknownRequest 0x00#8 0x01#8 []).wellFormed = false ∧
      (Instr.unknownRequest 0x00#8 0x03#8 (List.replicate 199 0x00#8)).wellFormed = false ∧
      (Instr.unknownRequest 0x00#8 0x03#8 (List.replicate 198 0x00#8)).wellFormed = true := by decide +kernel

/-- LAW_LOAD with 63 entries is refused by the check (R7). -/
theorem test_wellFormed_lawLoad :
    (Instr.lawLoad 0x00#8 0x00#8 0x00#8 (List.replicate 63 0x0000#16)).wellFormed = false := by decide +kernel

/-- PROFILE with a record of 22 bytes is refused by the check (section 10.10.3). -/
theorem test_wellFormed_profile :
    (Instr.profile 0x00#8 0x00#8 (List.replicate 22 0x00#8)).wellFormed = false := by decide +kernel

/-- SAMPLE_ARRIVAL that names an upset block twice is refused by the check (R26). -/
theorem test_wellFormed_sampleArrival :
    (Instr.sampleArrival 0 0x00#8 0x00#8 [hit 5, hit 5]).wellFormed = false := by decide +kernel

/-- No word of the table spells a command, and a fetched word changes nothing (the table gives no row bits). -/
theorem test_decode_no_word : decodeTableWord 8 0x01 = none ∧ (base.withFetchWord 8 0x01).pending = [] := by
  exact ⟨rfl, rfl⟩

/-! ## Worked cases of the arithmetic -/

/-- The table of R2. -/
theorem test_scale_table :
    scale 1200 3651 = 1070 ∧ scale (-1200) 3651 = -1070 ∧ scale 2048 8173 = 4087 ∧ scale (-2048) 8173 = -4087 ∧
      scale 30000 16306 = 32767 ∧ scale 1 1029 = 0 := by decide +kernel

/-- The example of R5: a tie takes the lower code. -/
theorem test_compress_ties :
    [1020, 1024, 1025, 1008].map (compress (lawWith [(0x2A, 1008), (0x2B, 1040)])) =
      [0x2A#8, 0x2A#8, 0x2B#8, 0x2A#8] := by decide +kernel

/-- R12: every M_g is the integer nearest to 4096 × 10^((g − 24) / 40). -/
theorem test_gain_table_nearest :
    gainTable.length = 49 ∧ ∀ g < 49,
      (2 * gainOf g - 1) ^ 40 * 10 ^ 24 < 8192 ^ 40 * 10 ^ g ∧
      8192 ^ 40 * 10 ^ g < (2 * gainOf g + 1) ^ 40 * 10 ^ 24 := by decide +kernel

/-- The example of R16: a steady magnitude of 1000. -/
theorem test_track_steady :
    track 0 1000 = 1000 ∧ track 1000 (-1000) = 1969 ∧ track 1969 1000 = 2908 ∧ track 2908 (-1000) = 3818 ∧
      level 3818 = 119 := by decide

/-- The table of R27: ties of the echo estimate go away from zero. -/
theorem test_estimate_ties :
    estimateOf (4194304 * 3) = 2 ∧ estimateOf (4194304 * -3) = -2 := by decide

/-- Section 2.6: the two taps after the step. -/
theorem test_update_worked_case :
    movedTap 16 1000 5000000 4194304 1000 = 4608308 ∧ movedTap 16 1000 5000000 (-2097152) 2000 = -1269144 ∧
      estimateOf (4608308 * 1000 + -1269144 * 2000) = 247 := by decide

/-- Section 2.7: the limits of the arithmetic, cases A, B and D. -/
theorem test_update_limits :
    movedTap 64 1000 65536 0 256 = 8388607 ∧ estimateOf (8388607 * 256) = 256 ∧
      movedTap 64 744 65536 8388607 256 = 8388607 ∧ tapStep 64 744 65536 256 = 12189696 ∧
      movedTap 64 (-32767) 65536 (-8388608) (-256) = 8388607 ∧ tapStep 64 (-32767) 65536 (-256) = 536854528 := by
  decide

/-- The table of R35. -/
theorem test_energy_codes :
    energyCode zeroTaps = 0 ∧ energyCode (taps 4194304) = 4096 ∧ energyCode (taps 8388607) = 16383 ∧
      energyCode (List.replicate 32 1048576) = 8192 ∧ energyCode (List.replicate 32 4194304) = 65535 ∧
      energyCode (4608308 :: -1269144 :: List.replicate 30 0) = 5319 := by decide +kernel

/-- Section 2.2.1: a window at position 3 with bulk offset 512 pairs with delays 608..639. -/
theorem test_paired_delays :
    let ring : List Int := (List.range 2048).map fun (d : Nat) => (d : Int)
    (pairedValues { prof with bulk := 16 } ring 3).head? = some 608 ∧
      (pairedValues { prof with bulk := 16 } ring 3).getLast? = some 639 := by decide +kernel

/-- The example of R103: channel 5's noise with N = 40, and the advances of R102. -/
theorem test_comfort_noise :
    [6, 16387, 8193, 20480, 10240].map nextNoise = [16387, 8193, 20480, 10240, 5120] ∧
      [6, 16387, 8193, 20480, 10240].map (comfortNoise · 40) = [-79, 0, -39, 20, -30] := by decide

/-- The table of R44. -/
theorem test_next_position :
    nextUnoccupied [3, 9] 14 = 15 ∧ nextUnoccupied [3, 9, 30] 31 = 0 ∧ nextUnoccupied [0, 1, 2] 31 = 3 ∧
      nextUnoccupied [9] 9 = 10 := by decide +kernel

/-- R160: the register after the bytes 31h to 39h is 29B1h. -/
theorem test_crc_check :
    crc [0x31#8, 0x32#8, 0x33#8, 0x34#8, 0x35#8, 0x36#8, 0x37#8, 0x38#8, 0x39#8] = 0x29B1#16 := by decide +kernel

/-- The table of R180. -/
theorem test_fold_table :
    foldCode 0 0xA5#8 = 165 ∧ foldCode 165 0x3C#8 = 390 ∧ foldCode 390 0xFF#8 = 1035 ∧
      foldCode 40000 0xC8#8 = 14665 ∧ foldCode 65535 0xFF#8 = 254 := by decide

/-- Section 9.7: with offset 4, slot 31 begins at position 252 and ends at position 3. -/
theorem test_slot_positions :
    slotPosition 0x04#8 0 0 = 4#8 ∧ slotPosition 0x04#8 30 0 = 244#8 ∧ slotPosition 0x04#8 31 0 = 252#8 ∧
      slotPosition 0x04#8 31 7 = 3#8 := by decide

/-- Sixteen samples of a 2100 Hz tone of amplitude 8000, by hand from the cosine. -/
def toneHead : List Int :=
  [8000, -628, -7902, 1868, 7608, -3061, -7128, 4180, 6472, -5196, -5657, 6083, 4702, -6821, -3632, 7391]

/-- The sixteen samples that follow. -/
def toneTail : List Int :=
  [2472, -7779, -1251, 7975, 0, -7975, 1251, 7779, -2472, -7391, 3632, 6821, -4702, -6083, 5657, 5196]

/-- R105: a steady 2100 Hz tone is in band without a reversal, the same with its second half reversed is in band with
one, and silence is out of band. -/
theorem test_tone_judgement :
    judgeTone (toneHead ++ toneTail).reverse = { inBand := true, reversal := false } ∧
      judgeTone (toneHead ++ toneTail.map fun v => -v).reverse = { inBand := true, reversal := true } ∧
      judgeTone (List.replicate 32 0) = { inBand := false, reversal := false } := by decide +kernel

/-! ## The queue of commands and the control link -/

/-- Witness of StepRunsFrontCommand. -/
theorem test_witness_StepRunsFrontCommand :
    ({ base with pending := [.gapTimeout, .frameSent] } : State).pending = .gapTimeout :: [.frameSent] := rfl

/-- The port running in MASTER with the position count given. -/
def running (position : Byte) : State :=
  { base with port := { base.port with runState := .run, position := position } }

/-- `running` in SLAVE. -/
def following (position : Byte) : State := (running position).onPort fun p => { p with mode := .slave }

/-- Witness of IdleStepIsOneBitClock at both sides of the wrap, in MASTER, in SLAVE and in HOLD (log 1). -/
theorem test_witness_IdleStepIsOneBitClock :
    (running 254#8).pending = [] ∧ base.pending = [] ∧ (after (step (running 254#8))).port.position = 255#8 ∧
      (after (step (running 255#8))).port.position = 0#8 ∧ (after (step (following 255#8))).port.position = 255#8 ∧
      (after (step base)).port.position = 0#8 := by
  decide +kernel

/-- POWER_ON_RESET (section 7 of the general description): both straps high give 115200 baud, and the queue stands. -/
theorem test_powerOnReset :
    (after (exec (.powerOnReset true true) { full with pending := [.ident 0x01#8] })).link = Link.reset .baud115200 ∧
      (after (exec (.powerOnReset true true) { full with pending := [.ident 0x01#8] })).pending = [.ident 0x01#8] := by
  decide +kernel

/-- R158: A4h on the line, LSB first between a low start and a high stop bit; a low stop bit is a framing error, and TXD
is high once the last byte has gone and while the transmitter is idle. -/
theorem test_line_form :
    lineLevels 0xA4#8 = [false, false, false, true, false, false, true, false, true, true] ∧
      byteOnLine false #v[false, false, true, false, false, true, false, true] true = some (.receivedByte 0xA4#8 false) ∧
      byteOnLine false #v[false, false, true, false, false, true, false, true] false = some (.receivedByte 0xA4#8 true) ∧
      Transmitter.idle.txd 3 = true ∧
      (let tx := Transmitter.reply { kind := 0x80#8, tag := 0x10#8, body := [0x02#8] }
      (List.range 10).map tx.txd = [false, true, false, true, false, false, false, true, true, true] ∧
        tx.txd 70 = true) := by decide +kernel

/-- `quiet` with the framer in one of its states. -/
def framed (f : Framer) : State := { quiet with link := { quiet.link with framer := f } }

/-- R161, its rows: LEN 2 and 200 begin a frame, 1 and 201 drop it. -/
theorem test_receivedByte_length :
    (after (exec (.receivedByte 2#8 false) (framed .length))).link.framer = .collect 2 [] ∧
      (after (exec (.receivedByte 200#8 false) (framed .length))).link.framer = .collect 200 [] ∧
      (after (exec (.receivedByte 1#8 false) (framed .length))).port.badFrames = 1 ∧
      (after (exec (.receivedByte 201#8 false) (framed .length))).port.badFrames = 1 := by decide +kernel

/-- The CRC of the frame of IDENT with TAG 10h, worked by R160. -/
theorem test_receivedByte_ident :
    crc [0x02#8, 0x10#8, 0x01#8] = 0xB1AE#16 ∧
      sent (after (exec (.receivedByte 0xAE#8 false) (framed (.collect 2 [0x10#8, 0x01#8, 0xB1#8])))) =
        [0x01#8, 0x0C#8, 0x94#8, 0x01#8, 0x20#8, 0xC0#8, 0x00#8] := by decide +kernel

/-- The longest body, of 198 bytes. -/
def longest : List Byte := List.replicate 198 0x00#8

/-- Witness of FramerTakesBytesAndGaps, clause by clause, at the shortest and the longest frame. -/
theorem test_witness_FramerTakesBytesAndGaps :
    (framed .hunt).link.framer = .hunt ∧ (framed .length).link.framer = .length ∧
      ((framed (.collect 2 [0x10#8, 0x01#8])).link.framer = .collect 2 [0x10#8, 0x01#8] ∧
        [0x10#8, 0x01#8].length + 1 < 2 + 2) ∧
      ((framed (.collect 2 [0x10#8, 0x01#8, 0xB1#8])).link.framer = .collect 2 (0x10#8 :: 0x01#8 :: [] ++ [0xB1#8]) ∧
        crc (byteOf 2 :: 0x10#8 :: 0x01#8 :: []) ≠ 0xB1#8 ++ 0xAF#8) ∧
      (framed .length).link.framer ≠ .hunt := by decide +kernel

/-- Witness of the dropped frame's clause at the longest body: one of two last bytes does not match. -/
theorem test_witness_longest_frame :
    longest.length = 198 ∧
      (framed (.collect 200 (0x10#8 :: 0x03#8 :: longest ++ [0x00#8]))).link.framer =
        .collect (longest.length + 2) (0x10#8 :: 0x03#8 :: longest ++ [0x00#8]) ∧
      ∃ low : Byte, crc (byteOf (longest.length + 2) :: 0x10#8 :: 0x03#8 :: longest) ≠ 0x00#8 ++ low := by
  refine ⟨by decide +kernel, by decide +kernel, ?_⟩
  by_contra h
  simp only [not_exists, not_not] at h
  exact absurd ((h 0x00#8).symm.trans (h 0x01#8)) (by decide)

/-- Witness of CheckedFrameIsItsRequest. -/
theorem test_witness_CheckedFrameIsItsRequest :
    (framed (.collect 2 [0x10#8, 0x01#8, 0xB1#8])).link.framer =
        .collect (([] : List Byte).length + 2) (0x10#8 :: 0x01#8 :: [] ++ [0xB1#8]) ∧
      crc (byteOf (([] : List Byte).length + 2) :: 0x10#8 :: 0x01#8 :: []) = 0xB1#8 ++ 0xAE#8 := by decide +kernel

/-- Witness of EveryRequestIsAnsweredOnce with 3 and with 4 replies queued. -/
theorem test_witness_EveryRequestIsAnsweredOnce :
    (Instr.openChannel 0x10#8 0x20#8).wellFormed = true ∧
      (Instr.openChannel 0x10#8 0x20#8).request? = some (0x10#8, 0x19#8) ∧ base.HasRoom ∧
      base.link.replies.length = 3 ∧ full.link.replies.length = 4 := by decide +kernel

/-- R164: a KIND outside the catalogue is refused with KIND, a wrong length with FORMAT. -/
theorem test_unknownRequest :
    sent (after (exec (.unknownRequest 0x10#8 0x03#8 []) quiet)) = [0x03#8, 0x02#8] ∧
      sent (after (exec (.unknownRequest 0x10#8 0x01#8 [0x00#8]) quiet)) = [0x01#8, 0x01#8] := by decide +kernel

/-- Witness of RefusalsChangeNothing, both parts: OPEN of channel 32 is refused with RANGE. -/
theorem test_witness_RefusalsChangeNothing :
    base.HasRoom ∧ (0x03#8).toNat ∉ [0x01, 0x02, 0x08, 0x09, 0x0A, 0x0B, 0x0C, 0x10, 0x11] ∧
      (catalogueLength 0x01#8 = some 0 ∧ [0x00#8].length ≠ 0) ∧
      (Instr.openChannel 0x10#8 0x20#8).wellFormed = true ∧
      (after (exec (.openChannel 0x10#8 0x20#8) base)).link.outgoing =
        base.link.outgoing ++ [refusedRecord 0x10#8 0x19#8 0x03#8] := by decide +kernel

/-- DIVERGED of channel 5, with a count. -/
def diverged5 (n : Nat) : Notice := { source := .channel 5, kind := .diverged, count := n }

/-- `base` with the master enable on and the notices queued. -/
def noticing (q : List Notice) : State :=
  { base with link := { base.link with enable := true, notices := q } }

/-- A frame being sent, no reply queued, one notice queued. -/
def noticeOnly : State := { base with link := { base.link with replies := [], notices := [diverged5 2] } }

/-- A frame being sent and nothing queued. -/
def drained : State := { base with link := { base.link with replies := [] } }

/-- Everything sent, the master enable on. -/
def listening : State := { quiet with link := { quiet.link with enable := true } }

/-- Section 10.8: the head reply goes before the notice, and the notice with its count once no reply is queued. -/
theorem test_frameSent :
    (after (exec .frameSent (noticing [diverged5 2]))).link.replies.length = 2 ∧
      (after (exec .frameSent (noticing [diverged5 2]))).link.notices = [diverged5 2] ∧
      ((after (exec .frameSent noticeOnly)).link.tx =
          .notice (diverged5 2)
            { kind := 0xC0#8, tag := 0x00#8
              body := [0x05#8, 0x02#8, 0x02#8, 0x00#8, 0x00#8, 0x00#8, 0x00#8, 0x00#8, 0x00#8, 0x00#8] }) := by
  decide +kernel

/-- Witness of FrameSentBeginsTheNext: a reply, a notice and nothing queued. -/
theorem test_witness_FrameSentBeginsTheNext :
    quiet.link.tx = .idle ∧ base.link.tx ≠ .idle ∧ base.link.replies = base.link.replies.take 1 ++ base.link.replies.tail ∧
      (noticeOnly.link.tx ≠ .idle ∧ noticeOnly.link.replies = [] ∧ noticeOnly.link.notices = diverged5 2 :: []) ∧
      (drained.link.tx ≠ .idle ∧ drained.link.replies = [] ∧ drained.link.notices = []) := by decide +kernel

/-- Section 10.8: DIVERGED of channel 5 coalesces, and MODE of channel 3 joins the tail. -/
theorem test_raiseNotice :
    ((noticing [diverged5 1]).raiseNotice (.channel 5) .diverged).link.notices = [diverged5 2] ∧
      ((noticing [diverged5 2]).raiseNotice (.channel 3) .mode).link.notices =
        [diverged5 2, { source := .channel 3, kind := .mode, count := 1 }] := by decide +kernel

/-- Witness of NoticeEventQueuesOrCoalesces, at count 255 and in each clause. -/
theorem test_witness_NoticeEventQueuesOrCoalesces :
    base.link.enable = false ∧
      (((noticing []).setMask (.channel 5) 0x3D#8).maskOf (.channel 5)).getLsbD (maskBit .diverged) = false ∧
      ((noticing [diverged5 255]).link.enable = true ∧
        ((noticing [diverged5 255]).maskOf (.channel 5)).getLsbD (maskBit .diverged) = true ∧
        (noticing [diverged5 255]).link.tx ≠ .idle ∧
        (noticing [diverged5 255]).link.notices = [] ++ diverged5 255 :: [] ∧
        ((noticing [diverged5 255]).link.notices.map fun m => (m.source, m.kind)).Nodup) ∧
      (∀ m ∈ (noticing [diverged5 255]).link.notices, m.source ≠ .channel 3 ∨ m.kind ≠ .mode) ∧
      (listening.link.tx = .idle ∧ listening.link.replies = [] ∧ listening.link.notices = [] ∧
        (listening.maskOf .port).getLsbD (maskBit .signature) = true) := by decide +kernel

/-- R166 with one block retired. -/
theorem test_ident :
    sent (after (exec (.ident 0x10#8) (quiet.setBlock 191 { Block.reset with condition := .retired }))) =
      [0x01#8, 0x0C#8, 0x94#8, 0x01#8, 0x20#8, 0xC0#8, 0x01#8] := by decide +kernel

/-- Witness of IdentNamesThePart, of RestartValues and of the statements that ask for room alone. -/
theorem test_witness_HasRoom :
    base.HasRoom ∧ base.link.replies.length = 3 ∧
      exec (.restart 0x10#8) base = .next (after (exec (.restart 0x10#8) base)) := by
  exact ⟨by decide, by decide, rfl⟩

/-- R168 and R139: an open channel is CLOSED with its blocks free, its gain kept, and DONE is sent. -/
theorem test_restart :
    (((after (exec (.restart 0x10#8) busy)).chan 0).life = .closed ∧
      ((after (exec (.restart 0x10#8) busy)).chan 0).windows = [] ∧
      ((after (exec (.restart 0x10#8) busy)).block 20).condition = .free ∧
      (after (exec (.restart 0x10#8) busy)).link.replies = [doneRecord 0x10#8 0x02#8 []]) := by decide +kernel

/-- R163: with 4 replies queued a request is counted and nothing else. -/
theorem test_restart_overrun :
    (after (exec (.restart 0x10#8) full)).port.overruns = 1 ∧
      (after (exec (.restart 0x10#8) full)).link = full.link := by decide +kernel

/-- R172: masks at their highest values, and refusals just above them. -/
theorem test_noticeMask :
    ((after (exec (.noticeMask 0x10#8 0x1F#8 0x3F#8) quiet)).chan 31).mask = 0x3F#8 ∧
      (after (exec (.noticeMask 0x10#8 0x40#8 0x02#8) quiet)).port.mask = 0x02#8 ∧
      sent (after (exec (.noticeMask 0x10#8 0x40#8 0x08#8) quiet)) = [0x28#8, 0x03#8] ∧
      sent (after (exec (.noticeMask 0x10#8 0x20#8 0x00#8) quiet)) = [0x28#8, 0x03#8] := by decide +kernel

/-- R172: the enable is 0 or 1. -/
theorem test_noticeEnable :
    (after (exec (.noticeEnable 0x10#8 0x01#8) quiet)).link.enable = true ∧
      sent (after (exec (.noticeEnable 0x10#8 0x02#8) quiet)) = [0x29#8, 0x03#8] := by decide +kernel

/-- Witness of NoticeMaskAndEnable at the ends of its ranges. -/
theorem test_witness_NoticeMaskAndEnable :
    base.HasRoom ∧ (63#8).toNat < 64 ∧ (7#8).toNat < 8 ∧ (31 < (32#8).toNat ∧ 32#8 ≠ 0x40#8) ∧
      ((31#8).toNat ≤ 31 ∧ 64 ≤ (64#8).toNat) ∧ 8 ≤ (8#8).toNat ∧ 1 < (2#8).toNat ∧
      exec (.powerOnReset false true) base = .next (after (exec (.powerOnReset false true) base)) := by
  exact ⟨by decide, by decide, by decide, by decide, by decide, by decide, by decide, rfl⟩

/-- R162: a gap in COLLECT drops the frame; in HUNT there is none (log 2). -/
theorem test_gapTimeout :
    (after (exec .gapTimeout (framed (.collect 2 [])))).port.gapTimeouts = 1 ∧
      (after (exec .gapTimeout (framed (.collect 2 [])))).link.framer = .hunt ∧
      (after (exec .gapTimeout (framed .hunt))).port.gapTimeouts = 0 := by decide +kernel

/-! ## The highway port -/

/-- `base` with the port changed. -/
def ported (f : Port → Port) : State := base.onPort f

/-- R144: PORT-SET in HOLD takes; with sync LOST a MASTER port is IN sync again; in RUN it is refused with STATE. -/
theorem test_portSet :
    (after (exec (.portSet 0x10#8 0x01#8 0xFF#8 0x01#8) base)).port.offset = 0xFF#8 ∧
      (after (exec (.portSet 0x10#8 0x00#8 0x00#8 0x00#8)
        (ported fun p => { p with mode := .slave, sync := .lost }))).port.sync = .locked ∧
      sent (after (exec (.portSet 0x10#8 0x01#8 0xFF#8 0x01#8) (quiet.onPort fun p => { p with runState := .run }))) =
        [0x08#8, 0x04#8] := by decide +kernel

/-- Witness of PortSetReplacesConfiguration. -/
theorem test_witness_PortSetReplacesConfiguration :
    base.port.runState = .hold ∧ (running 0#8).port.runState = .run ∧
      (ported fun p => { p with mode := .slave, sync := .lost }).port.sync = .lost ∧
      (1 < (2#8).toNat ∨ 1 < (0#8).toNat) ∧ base.HasRoom ∧ (running 0#8).HasRoom := by decide +kernel

/-- A frame of `base`'s maps, just begun. -/
def frame : Frame :=
  { lineMap := mapAt 0 0, exchangeMap := mapAt 31 0, arrived := [], lineBegun := 0, exchangeBegun := 0 }

/-- A port in RUN with a frame in progress and an OUT pin driven. -/
def framingPort (p : Port) : Port := { p with runState := .run, frame := some frame, lout := some 0x12#8 }

/-- The port in RUN with a frame in progress. -/
def framing : State := ported framingPort

/-- R145: PORT-HOLD drops the frame, lets the pin go and clears the fresh marks. -/
theorem test_portHold :
    (after (exec (.portHold 0x10#8) (framing.onChan 0 fun ch => { ch with freshSout := true }))).port.dropped = 1#32 ∧
      (after (exec (.portHold 0x10#8) framing)).port.lout = none ∧
      ((after (exec (.portHold 0x10#8) (framing.onChan 0 fun ch => { ch with freshSout := true }))).chan 0).freshSout
        = false := by decide +kernel

/-- R146: PORT-RUN in SLAVE awaits a pulse. -/
theorem test_portRun :
    (after (exec (.portRun 0x10#8) (ported fun p => { p with mode := .slave }))).port.awaiting = true ∧
      (after (exec (.portRun 0x10#8) (ported fun p => { p with clock := .lost }))).port.awaiting = false := by
  decide +kernel

/-- Witness of PortHoldAndRun. -/
theorem test_witness_PortHoldAndRun :
    framing.HasRoom ∧ framing.port.runState = .run ∧ framing.port.frame ≠ none ∧ (running 0#8).port.frame = none ∧
      base.port.runState = .hold ∧ base.port.clock = .ok ∧
      (ported fun p => { p with clock := .lost }).port.clock = .lost := by decide +kernel

/-- Section 9.6.1 with channel 0 for 9 and channel 1 for 6: slot 0 holds an ACTIVE channel, slot 12 a CLOSED one. -/
def moving : State :=
  ({ busy with link := State.reset.link }).onPort fun p =>
    { p with lineMap := p.lineMap.setIfInBounds 12 (some 1) }

/-- Section 9.6.1: refused MAP, refused MAP, taken once the old slot is clear, and taken again without a change. -/
theorem test_mapSet :
    sent (after (exec (.mapSet 0x10#8 0x00#8 0x00#8 0x01#8) moving)) = [0x0B#8, 0x08#8] ∧
      sent (after (exec (.mapSet 0x10#8 0x00#8 0x14#8 0x01#8) moving)) = [0x0B#8, 0x08#8] ∧
      sent (after (exec (.mapSet 0x10#8 0x00#8 0x0C#8 0x01#8) moving)) = [0x0B#8, 0x00#8, 0x0C#8, 0x01#8] ∧
      (after (exec (.mapSet 0x10#8 0x01#8 0x14#8 0x01#8) moving)).port.exchangeMap[20] = some 1 := by decide +kernel

/-- Section 9.6.1: MAP-CLEAR of an ACTIVE channel's slot is refused with STATE, of a CLOSED one's taken. -/
theorem test_mapClear :
    sent (after (exec (.mapClear 0x10#8 0x00#8 0x00#8) moving)) = [0x0C#8, 0x04#8] ∧
      (after (exec (.mapClear 0x10#8 0x00#8 0x0C#8) moving)).port.lineMap[12] = none := by decide +kernel

/-- Witness of MapRequestsWriteOneEntry, clause by clause. -/
theorem test_witness_MapRequestsWriteOneEntry :
    base.HasRoom ∧ busy.HasRoom ∧ base.port.lineMap[0] = some 0 ∧
      (busy.port.lineMap[31] ≠ some 0 ∧ (busy.chan 0).life ≠ .closed) ∧
      (base.port.lineMap[31] ≠ some 0 ∧ (base.chan 0).life = .closed ∧ ∃ k : Slot, base.port.lineMap[k.val] = some 0) ∧
      (base.port.lineMap[0] ≠ some 1 ∧ (base.chan 1).life = .closed ∧ base.port.lineMap[0] ≠ none) ∧
      (base.port.lineMap[31] = none ∧ (base.chan 31).life = .closed ∧ ∀ k : Slot, base.port.lineMap[k.val] ≠ some 31) ∧
      (base.port.exchangeMap[31] = some 0 ∧ (base.chan 0).life = .closed) ∧
      (busy.port.exchangeMap[31] = some 0 ∧ (busy.chan 0).life ≠ .closed) ∧
      1 < (2#8).toNat ∧ 31 < (32#8).toNat := by decide +kernel

/-- R147: in MASTER the pulse is high on position 0 and nowhere else. -/
theorem test_masterFramePulse :
    (after (exec .masterFramePulse (running 255#8))).port.position = 0#8 ∧
      (running 0#8).port.fpPin = some true ∧ (running 1#8).port.fpPin = some false := by decide +kernel

/-- R143 and R153: a frame begins at the offset and completes 255 bit clocks on. -/
theorem test_frame_begin_and_complete :
    (after (exec .frameBegin ((running 0#8).onPort fun p => { p with offset := 4#8 }))).port.position = 4#8 ∧
      (after (exec .frameComplete (framing.onPort fun p => { p with offset := 4#8 }))).port.position = 3#8 ∧
      (after (exec .frameComplete framing)).port.complete = 1#32 := by decide +kernel

/-- R143: in SLAVE a frame begins where the count is yet to reach the offset, and not where it has passed it. -/
theorem test_frame_begin_at_offset :
    (after (exec .frameBegin ((following 4#8).onPort fun p => { p with offset := 4#8 }))).port.frame.isSome = true ∧
      (after (exec .frameBegin ((following 5#8).onPort fun p => { p with offset := 4#8 }))).port.frame = none := by
  decide +kernel

/-- Witness of FramesBeginAndComplete. -/
theorem test_witness_FramesBeginAndComplete :
    (running 0#8).port.runState = .run ∧ (running 0#8).port.clock = .ok ∧ (running 0#8).port.awaiting = false ∧
      (running 0#8).port.frame = none ∧ (running 0#8).port.mode = .master ∧
      ((following 1#8).port.mode = .slave ∧ (following 1#8).port.frame = none ∧
        (following 1#8).port.offset.toNat < (following 1#8).port.position.toNat) ∧
      ((following 0#8).port.mode = .slave ∧ (following 0#8).port.position.toNat ≤ (following 0#8).port.offset.toNat) ∧
      framing.port.runState = .run ∧ framing.port.clock = .ok ∧ framing.port.awaiting = false ∧
      framing.port.frame ≠ none := by decide +kernel

/-- R18 and R153: the slot drives the last Sout code and clears its fresh mark. -/
theorem test_slotSent :
    (after (exec (.slotSent .line 0)
        (framing.onChan 0 fun ch => { ch with lastSout := 0xA5#8, freshSout := true }))).port.lout = some 0xA5#8 ∧
      ((after (exec (.slotSent .line 0)
        (framing.onChan 0 fun ch => { ch with lastSout := 0xA5#8, freshSout := true }))).chan 0).freshSout = false ∧
      (after (exec (.slotSent .line 1) framing)).port.lout = none := by decide +kernel

/-- The LOUT pin on the bit clocks of slot 0 and on the one after it. -/
def slotOnPin (code : Byte) : List (Option Bool) :=
  let s := after (exec (.slotSent .line 0) (framing.onChan 0 fun ch => { ch with lastSout := code }))
  (List.range 9).map fun k => { s.port with position := BitVec.ofNat 8 k }.outPin .line

/-- R143 and R153: A5h goes out most significant bit first, one bit a bit clock, and the pin then lets go. -/
theorem test_slot_bits :
    slotOnPin 0xA5#8 =
      [some true, some false, some true, some false, some false, some true, some false, some true, none] ∧
      slotCode #v[true, false, true, false, false, true, false, true] = 0xA5#8 := by decide +kernel

/-- Witness of SlotSentDrivesLastCode: assigned and unassigned, at the first and the last slot. -/
theorem test_witness_SlotSentDrivesLastCode :
    framing.port.runState = .run ∧ framing.port.clock = .ok ∧ framing.port.awaiting = false ∧
      framing.port.frame = some frame ∧ frame.lineBegun ≤ 0 ∧ frame.exchangeBegun ≤ 31 ∧ frame.lineMap[0] = some 0 ∧
      frame.lineMap[31] = none ∧ frame.exchangeMap[31] = some 0 ∧ frame.exchangeMap[0] = none := by decide +kernel

/-- A SLAVE port in RUN, offset 4, with a frame in progress, as in section 9.7. -/
def slaved (f : Port → Port) : State := framing.onPort fun p => f { p with mode := .slave, offset := 4#8 }

/-- Section 9.7: a pulse at position 200 is a slip, one at the expected position is not, and one at position 100 with
sync LOST regains it without a slip. -/
theorem test_framePulse :
    ((after (exec (.framePulse 200#8) (slaved id))).port.slips = 1 ∧
        (after (exec (.framePulse 200#8) (slaved id))).port.dropped = 1#32) ∧
      (after (exec (.framePulse 0#8) (slaved id))).port.frame.isSome = true ∧
      ((after (exec (.framePulse 100#8) (slaved fun p => { p with sync := .lost, missed := 4 }))).port.sync = .locked ∧
        (after (exec (.framePulse 100#8) (slaved fun p => { p with sync := .lost, missed := 4 }))).port.slips = 0) := by
  decide +kernel

/-- Witness of FramePulseAlignsSlipsOrRegains. -/
theorem test_witness_FramePulseAlignsSlipsOrRegains :
    (slaved id).port.mode = .slave ∧ (slaved id).port.runState = .run ∧ (slaved id).port.clock = .ok ∧
      (slaved id).port.sync = .locked ∧ (slaved id).port.awaiting = false ∧ 1#8 ≠ 0x00#8 ∧
      (slaved fun p => { p with awaiting := true }).port.awaiting = true ∧
      (slaved fun p => { p with sync := .lost }).port.sync = .lost := by decide +kernel

/-- Section 9.7: the fourth missed pulse loses sync, with the frame going on; further ones count nothing. -/
theorem test_missedPulse :
    (after (exec .missedPulse (slaved fun p => { p with missed := 2 }))).port.sync = .locked ∧
      (after (exec .missedPulse (slaved fun p => { p with missed := 3 }))).port.sync = .lost ∧
      (after (exec .missedPulse (slaved fun p => { p with missed := 3 }))).port.frame.isSome = true ∧
      (after (exec .missedPulse (slaved fun p => { p with missed := 4, sync := .lost }))).port.syncLosses = 0 := by
  decide +kernel

/-- R149: with the missed-pulse count at 4 and sync IN, sync is lost and counted. -/
theorem test_syncLoss :
    (after (exec .syncLoss (slaved fun p => { p with missed := 4 }))).port.syncLosses = 1 ∧
      (after (exec .syncLoss (slaved fun p => { p with missed := 3 }))).port.syncLosses = 0 := by decide +kernel

/-- Witness of MissedPulsesLoseSync, below and at the limit. -/
theorem test_witness_MissedPulsesLoseSync :
    (slaved id).port.mode = .slave ∧ (slaved id).port.runState = .run ∧ (slaved id).port.clock = .ok ∧
      (slaved fun p => { p with missed := 2 }).port.missed = 2 ∧
      ((slaved fun p => { p with missed := 3 }).port.missed = 3 ∧ (slaved id).port.sync = .locked) ∧
      (slaved fun p => { p with missed := 3, sync := .lost }).port.sync = .lost ∧
      (slaved fun p => { p with missed := 4 }).port.missed = 4 := by decide +kernel

/-- R151: a clock loss in RUN stops framing; the return in SLAVE awaits a pulse. -/
theorem test_clock_loss_and_return :
    (after (exec .clockLoss framing)).port.dropped = 1#32 ∧ (after (exec .clockLoss framing)).port.clockOk = false ∧
      (after (exec .clockReturn (slaved fun p => { p with clock := .lost, frame := none }))).port.awaiting = true := by
  decide +kernel

/-- Witness of ClockLossAndReturn. -/
theorem test_witness_ClockLossAndReturn :
    (framing.port.clock = .ok ∧ framing.port.runState = .run) ∧ (base.port.clock = .ok ∧ base.port.runState = .hold) ∧
      ((ported fun p => { p with clock := .lost, runState := .run }).port.clock = .lost ∧
        (ported fun p => { p with clock := .lost, runState := .run }).port.runState = .run) ∧
      (ported fun p => { p with clock := .lost }).port.runState = .hold := by decide +kernel

/-- R156: the reply of READ-PORT begins with the configuration and has 79 bytes after the KIND. -/
theorem test_readPort :
    (sent (after (exec (.readPort 0x10#8) quiet))).take 8 = [0x25#8, 0, 0, 0, 0, 0, 0, 0] ∧
      (sent (after (exec (.readPort 0x10#8) quiet))).length = 80 := by decide +kernel

/-! ## The law store -/

/-- 64 entries of one value. -/
def quarterOfValue (v : Int) : List Half := List.replicate 64 (BitVec.ofInt 16 v)

/-- Section 1.2.2, step 2: a load for B drops the quarter held for A; −32768 is out of range. -/
theorem test_lawLoad :
    (after (exec (.lawLoad 0x10#8 0x01#8 0x03#8 (quarterOfValue (-32767)))
        { base with law := { base.law with
            buffer := { target := some .a, quarters := #v[some [], none, none, none] } } })).law.buffer.quarterSet = 0x08#8 ∧
      sent (after (exec (.lawLoad 0x10#8 0x01#8 0x03#8 (quarterOfValue (-32768))) quiet)) = [0x10#8, 0x03#8] := by
  decide +kernel

/-- Witness of LawLoadStoresOneQuarter at the ends of the linear range. -/
theorem test_witness_LawLoadStoresOneQuarter :
    base.HasRoom ∧ (quarterOfValue (-32767)).length = 64 ∧
      (∀ e ∈ quarterOfValue (-32767), -32767 ≤ e.toInt ∧ e.toInt ≤ 32767) ∧
      (∀ e ∈ quarterOfValue 32767, -32767 ≤ e.toInt ∧ e.toInt ≤ 32767) ∧
      (∃ e ∈ quarterOfValue (-32768), e.toInt < -32767 ∨ 32767 < e.toInt) ∧ 1 < (2#8).toNat ∧ 3 < (4#8).toNat := by
  refine ⟨by decide, by decide +kernel, fun e he => ?_, fun e he => ?_, ⟨_, List.mem_cons_self, ?_⟩, by decide, by decide⟩
  · rw [List.eq_of_mem_replicate he]; decide
  · rw [List.eq_of_mem_replicate he]; decide
  · decide

/-- The entries of `law` from one code on, 64 of them. -/
def lawQuarter (n : Nat) : List Int := (law.entries.drop (64 * n)).take 64

/-- A load buffer for B with the quarters of `law` but for a third quarter of its own. -/
def loaded (third : Option (List Int)) : State :=
  { quiet with
    law :=
      { a := law, b := LawTable.reset
        buffer :=
          { target := some .b, quarters := #v[some (lawQuarter 0), some (lawQuarter 1), third, some (lawQuarter 3)] } } }

/-- A load buffer for B with four short quarters, the third as given. -/
def shortLoad (third : Option (List Int)) : State :=
  { quiet with
    law :=
      { a := law, b := LawTable.reset
        buffer := { target := some .b, quarters := #v[some [40], some [-1], third, some [90]] } } }

/-- Section 1.2.2, steps 5, 7, 9 and 11: the other target, a missing quarter, equal entries, and the commit. -/
theorem test_lawCommit :
    sent (after (exec (.lawCommit 0x10#8 0x00#8) (shortLoad (some [0])))) = [0x11#8, 0x07#8] ∧
      sent (after (exec (.lawCommit 0x10#8 0x01#8) (shortLoad none))) = [0x11#8, 0x07#8] ∧
      sent (after (exec (.lawCommit 0x10#8 0x01#8) (shortLoad (some [40])))) = [0x11#8, 0x07#8] ∧
      sent (after (exec (.lawCommit 0x10#8 0x01#8) (shortLoad (some [0])))) = [0x11#8, 0x01#8, 0x02#8] := by
  decide +kernel

/-- Witness of LawCommitReplacesTheTable. -/
theorem test_witness_LawCommitReplacesTheTable :
    (loaded (some (lawQuarter 2))).HasRoom ∧
      (loaded (some (lawQuarter 2))).law.buffer =
        { target := some .b
          quarters := #v[some (lawQuarter 0), some (lawQuarter 1), some (lawQuarter 2), some (lawQuarter 3)] } ∧
      (lawQuarter 0 ++ lawQuarter 1 ++ lawQuarter 2 ++ lawQuarter 3).Nodup := by
  refine ⟨by decide, rfl, ?_⟩
  rw [show lawQuarter 0 ++ lawQuarter 1 ++ lawQuarter 2 ++ lawQuarter 3 = law.entries by decide +kernel]
  exact law_nodup

/-- Witness of LawCommitRefusals: a name of no table, the other target, a missing quarter, equal entries. -/
theorem test_witness_LawCommitRefusals :
    base.HasRoom ∧ 1 < (2#8).toNat ∧ (loaded none).law.buffer.target ≠ some .a ∧
      (∃ q : Fin 4, (loaded none).law.buffer.quarters[q.val] = none) ∧
      (shortLoad (some [40])).law.buffer.quarters = #v[some [40], some [-1], some [40], some [90]] ∧
      ¬([40] ++ [-1] ++ [40] ++ [90] : List Int).Nodup := by decide +kernel

/-! ## Sample arithmetic -/

/-- Witness of CompressGivesNearestCode. -/
theorem test_witness_CompressGivesNearestCode : law.entries.length = 256 ∧ law.entries.Nodup :=
  ⟨by decide +kernel, law_nodup⟩

/-- Witness of ProductRuleRoundsAwayFromZero at both ends of the linear range. -/
theorem test_witness_ProductRuleRoundsAwayFromZero :
    (-32767 : Int) ≤ -32767 ∧ (-32767 : Int) ≤ 32767 ∧ scale (-32767) 16306 = -32767 ∧ scale 32767 4096 = 32767 := by
  decide +kernel

/-! ## Channel life cycle -/

/-- Taps whose energy is a whole multiple of 2^32: the sum of the squares of the numbers listed (R34, R35). -/
def coded (ks : List Int) : List Int := ks.map (65536 * ·) ++ List.replicate (32 - ks.length) 0

/-- The bytes of a profile record within its values: quota 4, pins 9 and 3, initial position 6, step 16. -/
def record : List Byte :=
  [0x00#8, 0x01#8, 0x20#8, 0x04#8, 0x02#8, 0x09#8, 0x03#8, 0x00#8, 0x00#8, 0x06#8, 0x10#8, 0x01#8, 0x06#8, 0x02#8,
    0x0C#8, 0x02#8, 0x01#8, 0x04#8, 0x00#8, 0x16#8, 0x1A#8, 0x18#8, 0x18#8]

/-- The same record with one byte replaced. -/
def recordWith (i : Nat) (b : Byte) : List Byte := record.set i b

/-- R125 and R126: the pins are stored ascending, a step of 255 (−1) is clamped to 1 and a pad of 49 to 48, and the clamped
set says so; a bulk offset of 33 and a pin named twice are refused with RANGE. -/
theorem test_profile :
    (checkProfile record).map (fun k => (k.profile.pins, k.profile.step, k.clamped)) = some ([3, 9], 16, 0x00#8) ∧
      (checkProfile (recordWith 10 0xFF#8)).map (fun k => (k.profile.step, k.clamped)) = some (1, 0x01#8) ∧
      (checkProfile (recordWith 22 0x31#8)).map (fun k => (k.profile.padIndex, k.clamped)) = some (48, 0x20#8) ∧
      checkProfile (recordWith 2 0x21#8) = none ∧ checkProfile (recordWith 6 0x09#8) = none ∧
      sent (after (exec (.profile 0x10#8 0x00#8 record) quiet)) = [0x18#8, 0x00#8, 0x00#8] := by decide +kernel

/-- Channel 0 with a pending apply. -/
def applying (q : Profile) : Channel := { worker with staged := .pending q, quietRun := 400 }

/-- R127: a record for a channel with a pending apply is refused with BUSY. -/
theorem test_profile_busy :
    (after (exec (.profile 0x10#8 0x00#8 record) (quiet.setChan 0 (applying prof)))).link.tx.reply? =
      [refusedRecord 0x10#8 0x18#8 0x05#8] := by decide +kernel

/-- Witness of ProfileChecksClampsAndStages: a record at the ends of its ranges that is accepted, with an empty slot and
with an apply pending, and one that is not. -/
theorem test_witness_ProfileChecksClampsAndStages :
    base.HasRoom ∧ record.length = 23 ∧ (base.chan 0).staged.pendingRecord = none ∧
      (one (applying prof) workerBlocks .free []).HasRoom ∧
      ((one (applying prof) workerBlocks .free []).chan 0).staged.pendingRecord ≠ none ∧
      (let u := fun i : Nat => (byteAt record i).toNat
      let pins := (record.drop 5).take (u 4)
      u 0 ≤ 1 ∧ u 1 = 1 ∧ u 2 = 32 ∧ 2 ≤ u 3 ∧ u 3 ≤ 8 ∧ u 4 ≤ 4 ∧ u 4 ≤ u 3 - 1 ∧ (∀ p ∈ pins, p.toNat ≤ 31) ∧
        pins.Nodup ∧ u 9 ≤ 31 ∧ u 11 ≤ 2 ∧ u 12 ∈ [0, 6, 12] ∧ u 13 ≤ 3 ∧ u 14 ∈ [6, 12, 18] ∧ u 15 = 2 ∧ u 16 = 1 ∧
        max 0 (min 48 (byteAt record 19).toInt) ≤ max 0 (min 48 (byteAt record 20).toInt)) ∧
      ¬(byteAt (recordWith 2 0x21#8) 2).toNat ≤ 32 ∧ (recordWith 2 0x21#8).length = 23 ∧ 31 < (32#8).toNat := by
  decide +kernel

/-- Channel 0 CLOSED with a record staged. -/
def stagedWith (p : Profile) : Channel := { Channel.reset 0 with staged := .staged p }

/-- R45: pins {9, 3} with the lowest free blocks 0, 1 and 2 (the example's 5, 8 and 12). -/
theorem test_openChannel_pins :
    ((after (exec (.openChannel 0x10#8 0x00#8)
        (one (stagedWith { prof with pins := [3, 9] }) [] .free []))).chan 0).windows =
      [pinned 3 (some 0), pinned 9 (some 1)] ∧
    ((after (exec (.openChannel 0x10#8 0x00#8)
        (one (stagedWith { prof with pins := [3, 9] }) [] .free []))).chan 0).scout =
      some { pos := 0, block := 2, dwell := 0 } := by decide +kernel

/-- R45 and R130: no pins, initial position 0: the FOUND window at 0, the scout at 1, idle codes in both output codes. -/
theorem test_openChannel_found :
    ((after (exec (.openChannel 0x10#8 0x00#8)
        (one (stagedWith { prof with initialPos := 0 }) [] .free []))).chan 0).windows = [found 0 0] ∧
    ((after (exec (.openChannel 0x10#8 0x00#8)
        (one (stagedWith { prof with initialPos := 0 }) [] .free []))).chan 0).scout =
      some { pos := 1, block := 1, dwell := 0 } ∧
    ((after (exec (.openChannel 0x10#8 0x00#8)
        (one (stagedWith { prof with initialPos := 0 }) [] .free []))).chan 0).lastSout = 0x80#8 := by decide +kernel

/-- A pool of retired blocks but for the highest ones, which are free. -/
def scarce (free : Nat) (s : State) : State :=
  { s with
    blocks := pool fun b =>
      { taps := zeroTaps, condition := if 192 - free ≤ b.val then .free else .retired, altered := false } }

/-- Witness of OpenBuildsTheChannel, with and without pins, and with no free block to spare. -/
theorem test_witness_OpenBuildsTheChannel :
    (one (stagedWith prof) [] .free []).HasRoom ∧ ((one (stagedWith prof) [] .free []).chan 0).life = .closed ∧
      ((one (stagedWith prof) [] .free []).chan 0).staged = .staged prof ∧ prof.FieldsSound ∧
      { prof with pins := [3, 9] }.FieldsSound ∧ (∃ n : Slot, base.port.lineMap[n.val] = some 0) ∧
      (∃ n : Slot, base.port.exchangeMap[n.val] = some 0) ∧ (base.law.table prof.lineLaw).valid = true ∧
      (base.law.table prof.lineLaw).idle = some 0x80#8 ∧ (base.law.table prof.exchangeLaw).valid = true ∧
      (base.law.table prof.exchangeLaw).idle = some 0x80#8 ∧
      2 ≤ (scarce 2 (one (stagedWith prof) [] .free [])).freeBlocks.length ∧
      3 ≤ (scarce 3 (one (stagedWith prof) [] .free [])).freeBlocks.length := by decide +kernel

/-- Witness of OpenRefusals, clause by clause: one free block short for the last. -/
theorem test_witness_OpenRefusals :
    base.HasRoom ∧ 31 < (32#8).toNat ∧ (busy.chan 0).life ≠ .closed ∧
      ((base.chan 0).life = .closed ∧ (base.chan 0).staged = .empty) ∧
      (let s : State := base.setChan 1 (stagedWith prof)
      (s.chan 1).life = .closed ∧ (s.chan 1).staged = .staged prof ∧ ∀ n : Slot, s.port.lineMap[n.val] ≠ some 1) ∧
      (let s : State := { base.setChan 0 (stagedWith prof) with law := State.reset.law }
      (s.chan 0).staged = .staged prof ∧ ¬(s.law.table prof.lineLaw).valid = true) ∧
      (scarce 1 (base.setChan 0 (stagedWith prof))).freeBlocks.length < 2 := by decide +kernel

/-- Channel 0 ACTIVE with a record staged and three FOUND windows, of codes 900, 300 and 2500. -/
def crowded (q : Profile) : Channel :=
  { worker with staged := .staged q, windows := [found 6 20, found 9 22, found 11 23] }

/-- The blocks of `crowded`. -/
def crowdedBlocks : List (BlockNo × List Int) :=
  [(20, coded [30]), (21, coded [1]), (22, coded [10, 10, 10]), (23, coded [50])]

/-- R61: with quota 3 the weakest FOUND window leaves, with quota 2 the two weakest; the gain is clamped (R121). -/
theorem test_applyProfile :
    ((after (exec (.applyProfile 0x10#8 0x00#8 0x01#8)
        (one (crowded { prof with quota := 3 }) crowdedBlocks .free []))).chan 0).windows = [found 6 20, found 11 23] ∧
      ((after (exec (.applyProfile 0x10#8 0x00#8 0x01#8)
        (one (crowded { prof with quota := 2 }) crowdedBlocks .free []))).chan 0).windows = [found 11 23] ∧
      ((after (exec (.applyProfile 0x10#8 0x00#8 0x01#8)
        (one (crowded { prof with gmin := 25 }) crowdedBlocks .free []))).chan 0).gain = 25 := by decide +kernel

/-- R133: without force the slot becomes PENDING. -/
theorem test_applyProfile_pending :
    ((after (exec (.applyProfile 0x10#8 0x00#8 0x00#8)
      (one (crowded prof) crowdedBlocks .free []))).chan 0).staged = .pending prof := by decide +kernel

/-- The pools of `crowded` at quotas 4 and 2 are sound. -/
theorem crowded_sound (n : Nat) (h : n = 2 ∨ n = 4) :
    (one (crowded { prof with quota := n }) crowdedBlocks .free []).PoolSound := by
  rcases h with rfl | rfl <;>
    exact one_sound ⟨by decide, by decide, by decide, by decide +kernel, by decide, by decide, by decide +kernel,
      by decide +kernel⟩

/-- Witness of ApplyMarksOrTakesEffect: kept and changed pins, valid and invalid tables, each refusal. -/
theorem test_witness_ApplyMarksOrTakesEffect :
    (one (crowded prof) crowdedBlocks .free []).HasRoom ∧ (crowded prof).life = .active ∧
      (crowded prof).profile = some prof ∧ (crowded prof).staged = .staged prof ∧
      (crowded prof).windows.length + 1 ≤ prof.quota ∧ (base.law.table prof.lineLaw).valid = true ∧
      (base.law.table prof.exchangeLaw).valid = true ∧ { prof with pins := [3] }.pins ≠ prof.pins ∧
      ¬(({ base with law := State.reset.law } : State).law.table prof.lineLaw).valid = true ∧ (1#8).toNat ≤ 1 ∧
      1 < (2#8).toNat ∧ 31 < (32#8).toNat ∧ (base.chan 0).life ≠ .active ∧ worker.staged = .empty ∧
      (applying prof).staged.pendingRecord ≠ none := by decide +kernel

/-- `crowded` at quota 2, its scout lost with no block free: the first block returned comes back as its scout. -/
def crowdedWaiting : State :=
  one { crowded { prof with quota := 2 } with scout := none }
    [(20, coded [30]), (22, coded [10, 10, 10]), (23, coded [50])] .retired [{ chan := 0, claim := .scout }]

/-- R61, R68 and R69: block 22, of the weakest window, returns first, to the channel's own SCOUT entry; block 20 is then
free. The scout's search sees the second window still in its place. -/
theorem test_applyProfile_own_scout :
    (let t := after (exec (.applyProfile 0x10#8 0x00#8 0x01#8) crowdedWaiting)
    (t.chan 0).scout = some { pos := 1, block := 22, dwell := 0 } ∧ (t.chan 0).windows = [found 11 23] ∧
      t.freeBlocks = [20] ∧ t.wait = []) := by decide +kernel

/-- Witness of ApplyReturnsTheWeakestWindows where a returned block serves a wait entry. -/
theorem test_witness_apply_waiting : crowdedWaiting.PoolSound ∧ crowdedWaiting.HasRoom := by
  refine ⟨one_sound ?_, by decide⟩
  exact ⟨by decide, by decide, by decide, by decide +kernel, by decide, by decide, by decide +kernel, by decide +kernel⟩

/-- Witness of ApplyReturnsTheWeakestWindows. -/
theorem test_witness_ApplyReturnsTheWeakestWindows :
    (one (crowded { prof with quota := 2 }) crowdedBlocks .free []).PoolSound ∧
      (one (crowded { prof with quota := 2 }) crowdedBlocks .free []).HasRoom ∧
      (crowded { prof with quota := 2 }).life = .active ∧ (crowded { prof with quota := 2 }).profile = some prof ∧
      (crowded { prof with quota := 2 }).staged = .staged { prof with quota := 2 } ∧
      (base.law.table prof.lineLaw).valid = true ∧ (base.law.table prof.exchangeLaw).valid = true ∧
      exec (.applyProfile 0x10#8 0x00#8 0x01#8) (one (crowded { prof with quota := 2 }) crowdedBlocks .free []) =
        .next (after (exec (.applyProfile 0x10#8 0x00#8 0x01#8)
          (one (crowded { prof with quota := 2 }) crowdedBlocks .free []))) := by
  exact ⟨crowded_sound 2 (.inl rfl), by decide, rfl, rfl, rfl, rfl, rfl, rfl⟩

/-- Section 4.9, step 7, with channel 0 for channel 2: blocks 30, 31 and 95 go to PIN 20/5, SCOUT 4 and SCOUT 11. -/
def leaving : State :=
  ((one { worker with windows := [found 6 30, found 9 31], scout := some { pos := 0, block := 95, dwell := 7 } }
      [(30, taps 1), (31, taps 2), (95, taps 3)] .retired
      [{ chan := 20, claim := .pin 5 }, { chan := 4, claim := .scout }, { chan := 11, claim := .scout }]).onChan 20
    fun ch => { ch with life := .active, profile := some prof, windows := [pinned 5 none] }).onChan 4
    fun ch => { ch with life := .active, profile := some prof, windows := [found 12 40], lastScout := 11 }

/-- Section 4.9, steps 7a to 7c. -/
theorem test_closeChannel :
    ((after (exec (.closeChannel 0x10#8 0x00#8) leaving)).chan 20).windows = [pinned 5 (some 30)] ∧
      ((after (exec (.closeChannel 0x10#8 0x00#8) leaving)).chan 4).scout = some { pos := 13, block := 31, dwell := 0 } ∧
      ((after (exec (.closeChannel 0x10#8 0x00#8) leaving)).block 95).condition = .held 11 ∧
      ((after (exec (.closeChannel 0x10#8 0x00#8) leaving)).block 30).taps = zeroTaps ∧
      (after (exec (.closeChannel 0x10#8 0x00#8) leaving)).wait = [] := by decide +kernel

/-- R181: CLOSE of the watched channel aborts the run, CLOSE of another does not. -/
theorem test_closeChannel_signature :
    (after (exec (.closeChannel 0x10#8 0x00#8)
        (busy.onSig fun g => { g with state := .running, remaining := 1 }))).sig.state = .aborted ∧
      (after (exec (.closeChannel 0x10#8 0x00#8)
        (busy.onSig fun g => { g with state := .running, remaining := 1, channel := 1 }))).sig.state = .running := by
  decide +kernel

/-- Witness of CloseReturnsEveryBlock: waiters and none, watched and not, CLOSED, out of range. -/
theorem test_witness_CloseReturnsEveryBlock :
    (leaving.wait.Nodup ∧ ∀ d : Chan, (leaving.chan d).windows.length ≤ 7) ∧
      (leaving.HasRoom ∧ leaving.QueuesSound ∧ (leaving.chan 0).life ≠ .closed ∧ leaving.heldBlocks 0 = [30, 31, 95] ∧
        leaving.sig.state ≠ .running) ∧
      (let watched := busy.onSig fun g => { g with state := .running }
      watched.HasRoom ∧ watched.QueuesSound ∧ (watched.chan 0).life ≠ .closed ∧ watched.wait = [] ∧
        watched.sig.state = .running ∧ watched.sig.channel = 0) ∧
      (base.HasRoom ∧ base.QueuesSound ∧ (base.chan 0).life = .closed) ∧ 31 < (32#8).toNat := by decide +kernel

/-- Witness of ReturnedBlockServesTheHead: nobody waiting, a PIN entry and a SCOUT entry at the head. -/
theorem test_witness_ReturnedBlockServesTheHead :
    busy.wait = [] ∧ leaving.wait = { chan := 20, claim := .pin 5 } :: leaving.wait.tail ∧
      (leaving.withWait leaving.wait.tail).wait = { chan := 4, claim := .scout } :: leaving.wait.tail.tail ∧
      ((leaving.withWait leaving.wait.tail).chan 4).windows.length ≤ 7 := by decide +kernel

/-- The channel of section 3.9 before its RETRAIN: windows 9, 11 and 12, the scout at 13, in TRACK. -/
def searching : Channel :=
  { worker with
    service := .track, windows := [found 9 21, found 11 33, found 12 50]
    scout := some { pos := 13, block := 20, dwell := 99 }, lastScout := 13 }

/-- The blocks of `searching`. -/
def searchingBlocks : List (BlockNo × List Int) :=
  [(20, coded [3]), (21, coded [48]), (33, coded [51]), (50, coded [31])]

/-- Section 3.9, its last table: after RETRAIN the FOUND window stands at 6 with block 21, the scout at 0 with block 20. -/
theorem test_retrain :
    ((after (exec (.retrain 0x10#8 0x00#8) (one searching searchingBlocks .retired []))).chan 0).windows = [found 6 21] ∧
      ((after (exec (.retrain 0x10#8 0x00#8) (one searching searchingBlocks .retired []))).chan 0).scout =
        some { pos := 0, block := 20, dwell := 0 } ∧
      (after (exec (.retrain 0x10#8 0x00#8) (one searching searchingBlocks .retired []))).freeBlocks = [33, 50] ∧
      ((after (exec (.retrain 0x10#8 0x00#8) (one searching searchingBlocks .retired []))).chan 0).service = .acquire := by
  decide +kernel

/-- A channel with one pin at 2 and a FOUND window at 1, as in section 3.10. -/
def pinnedChannel : Channel :=
  { worker with
    profile := some { prof with pins := [2], quota := 3 }, windows := [found 1 61, pinned 2 (some 60)]
    scout := some { pos := 3, block := 62, dwell := 10 }, lastScout := 3 }

/-- The blocks of `pinnedChannel`, with codes 900, 800 and 2000. -/
def pinnedBlocks : List (BlockNo × List Int) := [(60, coded [20, 20]), (61, coded [30]), (62, coded [40, 20])]

/-- The pool laws of `searching` and of `pinnedChannel`, with the other blocks retired or free. -/
theorem searching_sound : (one searching searchingBlocks .retired []).PoolSound :=
  one_sound ⟨by decide, by decide, by decide, by decide +kernel, by decide, by decide, by decide +kernel, by decide +kernel⟩

theorem pinned_sound (others : BlockCondition) (h : others = .free ∨ others = .retired) :
    (one pinnedChannel pinnedBlocks others []).PoolSound :=
  one_sound ⟨by decide, by decide, h, by decide +kernel, .inl rfl, by decide, by decide +kernel, by decide +kernel⟩

/-- R59: without a pin and without a FOUND window the lowest free block is taken, and with none free no window stands;
the block of a FOUND window beside a pin comes back as the channel's missing scout (log 10). -/
theorem test_retrain_rebuilds :
    (let bare := fun others : BlockCondition =>
      (after (exec (.retrain 0x10#8 0x00#8) (one { worker with windows := [] } [(21, taps 5)] others []))).chan 0
    (bare .free).windows = [found 6 0] ∧ (bare .retired).windows = []) ∧
      (let t := after (exec (.retrain 0x10#8 0x00#8)
        (one { pinnedChannel with scout := none } [(60, coded [20, 20]), (61, coded [30])] .retired
          [{ chan := 0, claim := .scout }]))
      (t.chan 0).windows = [pinned 2 (some 60)] ∧ (t.chan 0).scout = some { pos := 0, block := 61, dwell := 0 }) := by
  decide +kernel

/-- Witness of RetrainStartsOver where no FOUND window stands, with a block free and with none, and where the scout is
absent. -/
theorem test_witness_retrain_bare :
    (one { worker with windows := [] } [(21, taps 5)] .free []).PoolSound ∧
      (one { worker with windows := [] } [(21, taps 5)] .retired []).PoolSound ∧
      (one { pinnedChannel with scout := none } [(60, coded [20, 20]), (61, coded [30])] .retired
        [{ chan := 0, claim := .scout }]).PoolSound := by
  refine ⟨one_sound ?_, one_sound ?_, one_sound ?_⟩ <;>
    exact ⟨by decide, by decide, by decide, by decide +kernel, by decide, by decide, by decide +kernel, by decide +kernel⟩

/-- Witness of RetrainStartsOver, with and without pins, and its refusals. -/
theorem test_witness_RetrainStartsOver :
    (one searching searchingBlocks .retired []).PoolSound ∧ (one pinnedChannel pinnedBlocks .free []).PoolSound ∧
      (one searching searchingBlocks .retired []).HasRoom ∧ searching.life = .active ∧ searching.profile = some prof ∧
      prof.pins = [] ∧ pinnedChannel.life = .active ∧ (base.chan 0).life ≠ .active ∧ 31 < (32#8).toNat := by
  exact ⟨searching_sound, pinned_sound .free (.inl rfl), by decide, rfl, rfl, rfl, rfl, by decide +kernel, by decide⟩

/-- R93: FREEZE sets the flag and answers 1; THAW clears it; a CLOSED channel is refused with STATE. -/
theorem test_freeze_and_thaw :
    ((after (exec (.freeze 0x10#8 0x00#8) busy)).chan 0).frozen = true ∧
      ((after (exec (.thaw 0x10#8 0x00#8) (busy.onChan 0 fun ch => { ch with frozen := true }))).chan 0).frozen = false ∧
      sent (after (exec (.freeze 0x10#8 0x00#8) quiet)) = [0x1D#8, 0x04#8] := by decide +kernel

/-- Witness of FreezeAndThaw. -/
theorem test_witness_FreezeAndThaw :
    busy.HasRoom ∧ (busy.chan 0).life ≠ .closed ∧ (base.chan 31).life = .closed ∧ 31 < (32#8).toNat := by decide +kernel

/-! ## Reading the part -/

/-- Section 10.10.4: the fixed part of the status record, the window entry of code 900 and the scout's. -/
theorem test_readStatus :
    sent (after (exec (.readStatus 0x10#8 0x00#8) { one worker [(20, coded [30]), (21, coded [1])] .free [] with
        link := State.reset.link })) =
      [0x20#8] ++ [0x00#8, 0x02#8, 0x00#8, 0x00#8, 0x00#8, 0x00#8, 0x00#8, 0x00#8]
        ++ List.replicate 8 0x00#8 ++ [0x00#8, 0x18#8, 0x18#8, 0x01#8]
        ++ [0x06#8, 0x01#8, 0x14#8, 0x03#8, 0x84#8] ++ List.replicate 30 0x00#8
        ++ [0x01#8, 0x00#8, 0x00#8, 0x00#8] := by decide +kernel

/-- R62 and R167: a block that fails its test at the read is retired, and the record shows the list without it. -/
theorem test_readStatus_fault :
    ((after (exec (.readStatus 0x10#8 0x00#8) (busy.disturb [hit 20]))).chan 0).windows = [] ∧
      ((after (exec (.readStatus 0x10#8 0x00#8) (busy.disturb [hit 20]))).block 20).condition = .retired := by
  decide +kernel

/-- Witness of ReadStatusReportsTheChannel. -/
theorem test_witness_ReadStatusReportsTheChannel :
    busy.HasRoom ∧ (busy.chan 0).windows.length ≤ 7 ∧ (∀ k ∈ (busy.chan 0).covered, (busy.block k.2).altered = false) ∧
      worker.windows[0]? = some (found 6 20) ∧ 31 < (32#8).toNat := by
  refine ⟨by decide +kernel, by decide +kernel, fun k hk => ?_, by decide +kernel, by decide⟩
  rw [show busy.chan 0 = worker from one_chan_zero _ _ _ _, show worker.covered = [(6, 20), (0, 21)] from rfl] at hk
  rcases List.mem_pair.mp hk with rfl | rfl <;> decide +kernel

/-- R175 and R176, section 11.2.1: after a loss and a return the first read reports IN-SYNC 0 and the next 1. -/
theorem test_readConditions :
    sent (after (exec (.readConditions 0x10#8 0x40#8) (quiet.onPort fun p => { p with slip := true, inSync := false }))) =
        [0x21#8, 0x40#8, 0x05#8] ∧
      (after (exec (.readConditions 0x10#8 0x40#8)
        (quiet.onPort fun p => { p with slip := true, inSync := false }))).port.inSync = true ∧
      sent (after (exec (.readConditions 0x10#8 0x1F#8) (quiet.onChan 31 Channel.latchFault))) =
        [0x21#8, 0x1F#8, 0x20#8] := by decide +kernel

/-- R177: the counters are reported and cleared; a counter at 255 stays there. -/
theorem test_readCounters :
    sent (after (exec (.readCounters 0x10#8 0x40#8) (quiet.onPort Port.recordSlip))) =
        [0x22#8, 0x40#8, 0x01#8, 0x00#8, 0x00#8, 0x00#8, 0x00#8] ∧
      (after (exec (.readCounters 0x10#8 0x40#8) (quiet.onPort Port.recordSlip))).port.slips = 0 ∧ bump 255 = 255 := by
  decide +kernel

/-- Witness of ReadConditionsReportsAndClears and of ReadCountersReportsAndClears. -/
theorem test_witness_Read_sources :
    base.HasRoom ∧ 4 ≤ full.link.replies.length ∧ (31 < (32#8).toNat ∧ 32#8 ≠ 0x40#8) := by decide +kernel

/-- R36 and R37: the role, position, block and code of a position and of the scout, and three bytes of a tap. -/
theorem test_readTaps :
    (sent (after (exec (.readTaps 0x10#8 0x00#8 0x06#8) { busy with link := State.reset.link }))).take 11 =
        [0x23#8, 0x00#8, 0x06#8, 0x01#8, 0x06#8, 0x14#8, 0x00#8, 0x00#8, 0x00#8, 0x00#8, 0x1E#8] ∧
      (sent (after (exec (.readTaps 0x10#8 0x00#8 0x80#8) { busy with link := State.reset.link }))).take 6 =
        [0x23#8, 0x00#8, 0x80#8, 0x02#8, 0x00#8, 0x15#8] ∧
      be24 (-1) = [0xFF#8, 0xFF#8, 0xFF#8] ∧ be24 (-8388608) = [0x80#8, 0x00#8, 0x00#8] := by decide +kernel

/-- R38 on positions: a rebuilt pin is answered with its fresh block; a vacant pin, a lost FOUND window and the position a
scout has left are refused with STATE. -/
theorem test_readTaps_fault_positions :
    (sent (after (exec (.readTaps 0x10#8 0x00#8 0x02#8) { (one pinnedChannel pinnedBlocks .free []).disturb [hit 60] with
        link := State.reset.link }))).take 6 = [0x23#8, 0x00#8, 0x02#8, 0x00#8, 0x02#8, 0x00#8] ∧
      sent (after (exec (.readTaps 0x10#8 0x00#8 0x02#8) { (one pinnedChannel pinnedBlocks .retired []).disturb [hit 60] with
        link := State.reset.link })) = [0x23#8, 0x04#8] ∧
      sent (after (exec (.readTaps 0x10#8 0x00#8 0x01#8) { (one pinnedChannel pinnedBlocks .free []).disturb [hit 61] with
        link := State.reset.link })) = [0x23#8, 0x04#8] ∧
      sent (after (exec (.readTaps 0x10#8 0x00#8 0x03#8) { (one pinnedChannel pinnedBlocks .free []).disturb [hit 62] with
        link := State.reset.link })) = [0x23#8, 0x04#8] := by decide +kernel

/-- R38: a scout block that fails its test is rebuilt first, and the rebuilt scout is answered. -/
theorem test_readTaps_fault :
    (sent (after (exec (.readTaps 0x10#8 0x00#8 0x80#8) { busy.disturb [hit 21] with link := State.reset.link }))).take 6 =
      [0x23#8, 0x00#8, 0x80#8, 0x02#8, 0x01#8, 0x00#8] := by decide +kernel

/-- Channel 0 with a vacant pin at 5 and no scout. -/
def vacant : State :=
  one { worker with windows := [pinned 5 none, found 6 20], scout := none } [(20, taps 30)] .retired
    [{ chan := 0, claim := .pin 5 }, { chan := 0, claim := .scout }]

/-- Witness of ReadTapsAnswersThePlace, clause by clause. -/
theorem test_witness_ReadTapsAnswersThePlace :
    busy.HasRoom ∧ (busy.chan 0).life ≠ .closed ∧
      (byteOf (6 : Pos).val = 0x06#8 ∧ (busy.chan 0).windows = [] ++ found 6 20 :: [] ∧ (busy.block 20).altered = false) ∧
      ((busy.chan 0).scout = some { pos := 0, block := 21, dwell := 0 } ∧ (busy.block 21).altered = false ∧
        ∀ w ∈ (busy.chan 0).windows, w.pos ≠ 0) ∧
      ((∀ w ∈ (vacant.chan 0).windows, w.pos = 5 → w.block = none) ∧ ∀ k ∈ (vacant.chan 0).scout, k.pos ≠ 5) ∧
      (vacant.chan 0).scout = none ∧
      (((busy.disturb [hit 21]).block 21).altered = true ∧
        (((busy.disturb [hit 21]).blockFault 0 21).chan 0).scout = some { pos := 1, block := 0, dwell := 0 }) ∧
      (((one worker workerBlocks .retired []).disturb [hit 21]).blockFault 0 21 |>.chan 0).scout = none ∧
      (base.chan 31).life = .closed ∧ (31 < (32#8).toNat ∧ 32#8 ≠ 0x80#8) := by decide +kernel

/-- Witness of the clauses on positions of the same statement: a sound pool with a block upset in each role. -/
theorem test_witness_ReadTaps_positions :
    (one pinnedChannel pinnedBlocks .free []).PoolSound ∧ pinned 2 (some 60) ∈ pinnedChannel.windows ∧
      found 1 61 ∈ pinnedChannel.windows ∧ pinnedChannel.scout = some { pos := 3, block := 62, dwell := 10 } ∧
      (∀ b ∈ [60, 61, 62], ((one pinnedChannel pinnedBlocks .free []).disturb [hit 60, hit 61, hit 62]).block b =
        { poolOf pinnedBlocks .free b with taps := (hit b).taps, altered := true }) ∧
      (hit 60).taps = List.replicate 32 7 ∧
      (((one pinnedChannel pinnedBlocks .free []).blockFault 0 62).chan 0).scout =
        some { pos := 4, block := 0, dwell := 0 } ∧
      (((one { pinnedChannel with lastScout := 2 } pinnedBlocks .free []).blockFault 0 62).chan 0).scout =
        some { pos := 3, block := 0, dwell := 0 } := by
  exact ⟨pinned_sound .free (.inl rfl), by decide, by decide, rfl, by decide +kernel, by decide, by decide +kernel,
    by decide +kernel⟩

/-- Section 4.9: retired, free and held counts of a small pool, and the wait list from a start index on. -/
theorem test_readPool :
    (sent (after (exec (.readPool 0x10#8 0x01#8) { leaving with link := State.reset.link }))).take 10 =
        [0x24#8, 0x00#8, 0x03#8, 0xBD#8, 0x03#8, 0x01#8, 0x04#8, 0x80#8, 0x0B#8, 0x80#8] ∧
      sent (after (exec (.readPool 0x10#8 0xA0#8) quiet)) = [0x24#8, 0x03#8] := by decide +kernel

/-- Witness of ReadPoolReportsThePool at both sides of its limit. -/
theorem test_witness_ReadPoolReportsThePool :
    base.HasRoom ∧ (159#8).toNat ≤ 159 ∧ 159 < (160#8).toNat := by decide +kernel

/-! ## The signature unit -/

/-- The record of a run on channel 0's Sout stream. -/
def running0 (remaining value : Nat) : Signature :=
  { state := .running, channel := 0, stream := .sout, remaining := remaining, value := value }

/-- R179: its refusals in order, and a start from DONE. -/
theorem test_sigStart :
    sent (after (exec (.sigStart 0x10#8 0x00#8 0x00#8 0x0000#16) quiet)) = [0x30#8, 0x03#8] ∧
      sent (after (exec (.sigStart 0x10#8 0x00#8 0x00#8 0x0001#16) { quiet with sig := running0 1 0 })) =
        [0x30#8, 0x05#8] ∧
      sent (after (exec (.sigStart 0x10#8 0x00#8 0x00#8 0x0001#16) quiet)) = [0x30#8, 0x04#8] ∧
      (after (exec (.sigStart 0x10#8 0x00#8 0x00#8 0x0003#16)
        (busy.onSig fun g => { g with state := .done, value := 7 }))).sig = running0 3 0 := by decide +kernel

/-- R180: a run of count 3 over A5h, 3Ch and FFh ends DONE with value 1035; a stale slot is not folded. -/
theorem test_signature_run :
    ((({ busy with sig := running0 3 0 }.watchSlot 0 .sout true 0xA5#8).watchSlot 0 .sout true 0x3C#8).watchSlot
        0 .sout true 0xFF#8).sig = { running0 0 1035 with state := .done } ∧
      ({ busy with sig := running0 2 165 }.watchSlot 0 .sout false 0xA5#8).sig = running0 2 165 := by decide +kernel

/-- R180: SIGNATURE_DONE where the count is 0, and nowhere else (log 2). -/
theorem test_signatureDone :
    (after (exec .signatureDone { busy with sig := running0 0 1035 })).sig.state = .done ∧
      (after (exec .signatureDone { busy with sig := running0 1 390 })).sig.state = .running := by decide +kernel

/-- Witness of SignatureStartsAndFolds, clause by clause. -/
theorem test_witness_SignatureStartsAndFolds :
    busy.HasRoom ∧ (1#16 : Half) ≠ 0#16 ∧ (busy.sig.state ≠ .running ∧ (busy.chan 0).life = .active) ∧
      ({ busy with sig := running0 2 0 } : State).sig.state = .running ∧
      (base.sig.state ≠ .running ∧ (base.chan 0).life ≠ .active) ∧ 31 < (32#8).toNat ∧ 1 < (2#8).toNat ∧
      1 < (running0 2 0).remaining ∧ (running0 1 0).remaining = 1 ∧ (running0 0 5).remaining = 0 := by decide +kernel

/-- R182: the body has the value in DONE alone. -/
theorem test_sigRead :
    sent (after (exec (.sigRead 0x10#8) { quiet with sig := { running0 0 1035 with state := .done } })) =
        [0x31#8, 0x02#8, 0x00#8, 0x00#8, 0x00#8, 0x00#8, 0x04#8, 0x0B#8] ∧
      sent (after (exec (.sigRead 0x10#8) { quiet with sig := running0 1 390 })) =
        [0x31#8, 0x01#8, 0x00#8, 0x00#8, 0x00#8, 0x01#8] := by decide +kernel

/-! ## Block faults -/

/-- Section 3.10: a fault in the pin's block with the pool empty leaves the pin vacant and a PIN entry; a FOUND window's
leaves the list; with a free block the pin holds it at once. -/
theorem test_blockFault :
    (((one pinnedChannel pinnedBlocks .retired []).blockFault 0 60).chan 0).windows = [found 1 61, pinned 2 none] ∧
      ((one pinnedChannel pinnedBlocks .retired []).blockFault 0 60).wait = [{ chan := 0, claim := .pin 2 }] ∧
      (((one pinnedChannel pinnedBlocks .retired []).blockFault 0 61).chan 0).windows = [pinned 2 (some 60)] ∧
      (((one pinnedChannel pinnedBlocks .free []).blockFault 0 60).chan 0).windows = [found 1 61, pinned 2 (some 0)] := by
  decide +kernel

/-- Witness of BlockFaultRetiresAndRebuilds: each role, with and without a free block. -/
theorem test_witness_BlockFaultRetiresAndRebuilds :
    (one pinnedChannel pinnedBlocks .retired []).PoolSound ∧ (one pinnedChannel pinnedBlocks .free []).PoolSound ∧
      (∀ b ∈ [60, 61, 62], (poolOf pinnedBlocks .free b).condition = .held 0) ∧
      (one pinnedChannel pinnedBlocks .free []).freeBlocks.head? = some 0 ∧
      (one pinnedChannel pinnedBlocks .retired []).freeBlocks = [] ∧
      pinnedChannel.scout = some { pos := 3, block := 62, dwell := 10 } ∧
      (found 1 61 ∈ pinnedChannel.windows ∧ pinned 2 (some 60) ∈ pinnedChannel.windows) := by
  exact ⟨pinned_sound .retired (.inr rfl), pinned_sound .free (.inl rfl), by decide +kernel, by decide +kernel, by decide +kernel,
    rfl, by decide⟩

/-! ## Sample arrivals -/

/-- The port of `framing` over a state. -/
def onFrame (s : State) : State := s.onPort framingPort

/-- Witness of the arrival that a frame owes channel 0, with its slots at both ends of the maps. -/
theorem framing_awaits (s : State) (h : s.port = base.port) : (onFrame s).AwaitsArrival 0 frame 0 31 := by
  have hp : (onFrame s).port = framing.port := by rw [onFrame, State.onPort_port, h]; rfl
  simp only [State.AwaitsArrival, hp]
  decide +kernel

/-- R132 and R18: a CLOSED channel's codes pass, fresh, and the frame has delivered the arrival. -/
theorem test_sampleArrival_closed :
    ((after (exec (.sampleArrival 0 0x12#8 0x34#8 []) framing)).chan 0).lastRout = 0x12#8 ∧
      ((after (exec (.sampleArrival 0 0x12#8 0x34#8 []) framing)).chan 0).lastSout = 0x34#8 ∧
      (after (exec (.sampleArrival 0 0x12#8 0x34#8 []) framing)).port.position = 255#8 ∧
      ((after (exec (.sampleArrival 0 0x56#8 0x78#8 [])
        (after (exec (.sampleArrival 0 0x12#8 0x34#8 []) framing)))).chan 0).lastRout = 0x12#8 := by decide +kernel

/-- Witness of ClosedChannelPassesCodes: owed, already delivered, without slots, and with no frame. -/
theorem test_witness_ClosedChannelPassesCodes :
    framing.AwaitsArrival 0 frame 0 31 ∧ (framing.chan 0).life = .closed ∧ base.port.frame = none ∧
      (0 : Chan) ∈ { frame with arrived := [0] }.arrived ∧ (∀ k : Slot, frame.lineMap[k.val] ≠ some 1) ∧
      ∀ k : Slot, frame.exchangeMap[k.val] ≠ some 1 := by
  exact ⟨framing_awaits base rfl, by decide +kernel, rfl, by decide, by decide +kernel, by decide +kernel⟩

/-- The channel of section 2.6: tap 0 at one half and tap 1 at minus one quarter meet 1000 and 2000 after the push; the
far level is high and the near level low. -/
def adapting : Channel :=
  { worker with ring := List.replicate 191 0 ++ [1000, 2000] ++ List.replicate 1855 0, sumX := 32000 }

/-- Section 2.6 as a state: code 10h expands to s = 1000, code 80h to 0. -/
def sampling : State :=
  onFrame { one adapting [(20, 4194304 :: -2097152 :: List.replicate 30 0), (21, zeroTaps)] .free [] with
    law := { a := law, b := lawWith [(0x10, 1000), (0x80, 0)], buffer := .empty } }

/-- Section 2.6: e = 1000, and the two taps after the step; the scout's dwell count advances (R47). -/
theorem test_sampleArrival_adapts :
    ((after (exec (.sampleArrival 0 0x80#8 0x10#8 []) sampling)).block 20).taps.take 3 = [4608308, -1269144, 0] ∧
      ((after (exec (.sampleArrival 0 0x80#8 0x10#8 []) sampling)).chan 0).sumE = 1000 ∧
      ((after (exec (.sampleArrival 0 0x80#8 0x10#8 []) sampling)).chan 0).scout =
        some { pos := 0, block := 21, dwell := 1 } ∧
      ((after (exec (.sampleArrival 0 0x80#8 0x10#8 []) sampling)).chan 0).lastSout = 0x88#8 := by decide +kernel

/-- R26 and R71: a block upset before the sample is left out of it, retired, and its FOUND window leaves the list. -/
theorem test_sampleArrival_fault :
    ((after (exec (.sampleArrival 0 0x80#8 0x10#8 [hit 20]) sampling)).chan 0).windows = [] ∧
      ((after (exec (.sampleArrival 0 0x80#8 0x10#8 [hit 20]) sampling)).block 20).condition = .retired ∧
      ((after (exec (.sampleArrival 0 0x80#8 0x10#8 [hit 20]) sampling)).chan 0).conditions.fault = true := by decide +kernel

/-- R26 and R61: a quota reduction weighs the values a disturbance has left, untested: the block of 7s is the weakest. -/
theorem test_applyProfile_upset :
    ((after (exec (.applyProfile 0x10#8 0x00#8 0x01#8)
        ((one (crowded { prof with quota := 3 }) crowdedBlocks .free []).disturb [hit 23]))).chan 0).windows =
      [found 6 20, found 9 22] := by decide +kernel

/-- Witness of OpenChannelComputesCodes, SampleIsClassified, SampleMovesTheRuns and TapsMoveOnlyWhenPermitted. -/
theorem test_witness_open_samples :
    sampling.AwaitsArrival 0 frame 0 31 ∧ (sampling.chan 0).life ≠ .closed ∧ (sampling.chan 0).profile = some prof ∧
      exec (.sampleArrival 0 0x80#8 0x10#8 []) sampling =
        .next (after (exec (.sampleArrival 0 0x80#8 0x10#8 []) sampling)) := by
  exact ⟨framing_awaits _ rfl, by decide +kernel, by decide +kernel, rfl⟩

/-- The same state with one field of the channel's limits at its edge. -/
def samplingWith (f : Channel → Channel) : State := sampling.onChan 0 f

/-- Witness of the clauses of the four statements about a sample: permitted and not, counted and not, the runs one short
of and at their limits, the DT flag set and clear, the last OPENING sample. -/
theorem test_witness_sample_clauses :
    (adapting.frozen = false ∧ adapting.life = .active ∧ adapting.toneMode ≠ .bypass ∧ adapting.divRun < 1023) ∧
      ((after (exec (.sampleArrival 0 0x80#8 0x10#8 []) sampling)).chan 0).talk = .far ∧
      ¬(sampling.sampleValues 0 prof 0x80#8 0x10#8 []).Overloaded ∧
      ((after (exec (.sampleArrival 0 0x80#8 0x10#8 [])
        (samplingWith fun ch => { ch with divRun := 1023, sumE := 640000 }))).chan 0).counters.divergences = 1 ∧
      ((after (exec (.sampleArrival 0 0x80#8 0x10#8 [])
        (samplingWith fun ch => { ch with convRun := 2047, sumS := 640000 }))).chan 0).service = .track ∧
      ((after (exec (.sampleArrival 0 0x80#8 0x10#8 [])
        (samplingWith fun ch => { ch with service := .track, changeRun := 511 }))).chan 0).counters.pathChanges = 1 ∧
      ((after (exec (.sampleArrival 0 0x80#8 0x10#8 [])
        (samplingWith fun ch => { ch with dtFlag := true, dtHangover := 1 }))).chan 0).talk = .far ∧
      ((after (exec (.sampleArrival 0 0x80#8 0x10#8 [])
        (samplingWith fun ch => { ch with life := .opening, openingCount := 1023 }))).chan 0).life = .active := by
  decide +kernel

/-- Witness of the clauses of OpenChannelComputesCodes on the suppressor, the noise floor and the block faults: each row of
R100, an IDLE sample that ends a run of 128, and a failing window. -/
theorem test_witness_suppressor_clauses :
    (let far := fun f : Channel → Channel =>
      (after (exec (.sampleArrival 0 0x80#8 0x80#8 []) (samplingWith fun ch => f { ch with service := .track }))).chan 0
    ((far id).talk = .far ∧ (far id).engaged = true ∧ (far id).nlpHangover = 64) ∧
      ((far fun ch => { ch with sumE := 640000, engaged := true, nlpHangover := 5 }).nlpHangover = 4) ∧
      ((far fun ch => { ch with sumE := 640000, engaged := true }).engaged = false) ∧
      ((far fun ch => { ch with dtFlag := true, dtHangover := 9, engaged := true, nlpHangover := 5 }).nlpHangover = 0) ∧
      ((far fun ch => { ch with sumX := 0, quietRun := 127, sumS := 640 }).noiseFloor = 19 ∧
        (far fun ch => { ch with sumX := 0, quietRun := 127, sumS := 640 }).talk = .idle)) ∧
      (20 : BlockNo) ∈ adapting.covered.map Prod.snd ∧ (sampling.upsetBlock [hit 20] 20).altered = true := by
  decide +kernel

/-- Witness of the clauses of SampleIsClassified on the tone monitor and the ALC: a detection by FULL on the 3200th
sample of a tone, the exit to NORMAL, a sample counted into the ALC period and one that ends it. -/
theorem test_witness_tone_and_alc_clauses :
    (let after := fun f : Channel → Channel =>
      (after (exec (.sampleArrival 0 0x80#8 0x80#8 []) (samplingWith f))).chan 0
    let tone := fun ch : Channel =>
      { ch with
        toneS := ⟨3199, true⟩
        recentS := (toneTail.take 4).reverse ++ toneHead.reverse ++ (toneHead.drop 1).take 11 }
    ((after tone).toneMode = .bypass ∧ (after tone).toneS.count = 0 ∧ (after tone).counters.toneBypasses = 1) ∧
      (after fun ch => { ch with toneMode := .bypass, quietRun := 1999, sumX := 0 }).toneMode = .normal ∧
      ((after fun ch => { ch with dtFlag := true, dtHangover := 9, periodCount := 126 }).periodCount = 127 ∧
        (after fun ch => { ch with dtFlag := true, dtHangover := 9, periodCount := 127 }).periodCount = 0 ∧
        (after fun ch => { ch with dtFlag := true, dtHangover := 9, periodCount := 127 }).releaseCount = 1)) ∧
      (sampling.chan 0).ring.length = 2048 ∧ prof.gmin ≤ adapting.gain ∧ adapting.gain ≤ prof.gmax := by
  decide +kernel

/-- Witness of TapsMoveOnlyWhenPermitted's premises on the pool and the ring. -/
theorem sampling_sound : sampling.PoolSound ∧ (sampling.chan 0).ring.length = 2048 := by
  have h : (one adapting [(20, 4194304 :: -2097152 :: List.replicate 30 0), (21, zeroTaps)] .free []).PoolSound :=
    one_sound ⟨by decide, by decide, by decide, by decide +kernel, by decide, by decide, by decide +kernel,
      by decide +kernel⟩
  exact ⟨⟨h.1, h.2, h.3, h.4, h.5, h.6, h.7⟩, by decide +kernel⟩

/-- Witness of TapsMoveOnlyWhenPermitted's last clause: the taps are sound, a dwell end with an add, and a divergence that
zeroes what the update has moved (R31, R52, R90). -/
theorem test_witness_sample_outcomes :
    sampling.TapsSound ∧ adapting.staged.pendingRecord = none ∧
      (let ended := fun f : Channel → Channel => after (exec (.sampleArrival 0 0x80#8 0x10#8 []) (samplingWith f))
      ((ended fun ch => { ch with windows := [], scout := some { pos := 6, block := 20, dwell := 511 } }).chan 0).windows =
          [found 6 20] ∧
        ((ended fun ch => { ch with divRun := 1023, sumE := 640000 }).block 20).taps = zeroTaps) := by decide +kernel

/-- A sample whose expansions are known, for the tests of the stages. -/
def arrival (ch : Channel) (p : Profile) (send : Int) : Arrival :=
  { profile := p, start := ch, rout := 0x80#8, r := 0, x := 0, send := send }

/-- Section 5.2.1: samples 1001, 1002, 1339 and 1340. -/
theorem test_double_talk :
    ((worker.moveDt true).dtHangover = 240 ∧ (worker.moveDt true).counters.dtOnsets = 1) ∧
      ((worker.moveDt true).moveDt false).dtHangover = 239 ∧
      ((worker.moveDt true).moveDt true).counters.dtOnsets = 1 ∧
      ({ worker with dtFlag := true, dtHangover := 1 }.moveDt false).dtFlag = false := by decide +kernel

/-- A channel in TRACK with levels, as in section 6.2.1. -/
def talking (t : Talk) (x e : Nat) (engaged : Bool) (hangover : Nat) : Channel :=
  { worker with
    inSample := true, service := .track, talk := t, sumX := 32 * x, sumE := 32 * e, engaged := engaged, nlpHangover := hangover }

/-- The channel after its suppressor has moved, in the profile of section 6.2.1. -/
def suppressing (ch : Channel) : Channel := ch.moveEngaged (arrival ch { prof with nlpMode := .soft } 0)

/-- Section 6.2.1: samples 500, 501, 521, 586 and 587, and the SOFT output of 500 and 501. -/
theorem test_suppressor :
    ((suppressing (talking .far 900 150 false 0)).engaged = true ∧
        (suppressing (talking .far 900 150 false 0)).nlpHangover = 64) ∧
      (suppressing (talking .far 905 240 true 64)).nlpHangover = 63 ∧
      (suppressing (talking .near 38 300 true 44)).engaged = false ∧
      (suppressing (talking .idle 30 20 true 1)).engaged = true ∧
      (suppressing (talking .idle 29 19 true 0)).engaged = false ∧
      (suppressing (talking .far 900 150 false 0)).suppressed { prof with nlpMode := .soft } 102 = 25 ∧
      (suppressing (talking .far 905 240 true 64)).suppressed { prof with nlpMode := .soft } (-37) = -9 := by
  decide +kernel

/-! ## Events of a channel -/

/-- Section 3.9: at 10 a discard, at 9 an add with a free block, at 11 an add with none, at 12 a swap. -/
def dwelling (ch : Channel) (held : List (BlockNo × List Int)) (others : BlockCondition) : Channel :=
  (after (exec (.dwellEnd 0) (one ch held others []))).chan 0

/-- The channel of section 3.9 before its evaluation at 9, which its dwell advance has made due. -/
def atNine : Channel :=
  { worker with scout := some { pos := 9, block := 21, dwell := 512, due := some [20, 21] }, lastScout := 9 }

/-- The channel of section 3.9 before its evaluation at 11. -/
def atEleven : Channel :=
  { worker with
    windows := [found 6 20, found 9 21]
    scout := some { pos := 11, block := 33, dwell := 512, due := some [20, 21, 33] }, lastScout := 11 }

/-- The channel of section 3.9 before its evaluation at 12. -/
def atTwelve : Channel :=
  { worker with
    service := .track, windows := [found 6 20, found 9 21, found 11 33]
    scout := some { pos := 12, block := 50, dwell := 2048, due := some [20, 21, 33, 50] }, lastScout := 12 }

/-- Blocks for `atNine` (codes 1100 and 2500), for `atEleven` (1150, 2600, 2700) and for `atTwelve` (300, 2400, 2650,
1000). -/
def nineBlocks : List (BlockNo × List Int) := [(20, coded [33, 3, 1, 1]), (21, coded [50])]
def elevenBlocks : List (BlockNo × List Int) :=
  [(20, coded [33, 6, 5]), (21, coded [50, 10]), (33, coded [50, 10, 10])]
def twelveBlocks : List (BlockNo × List Int) :=
  [(20, coded [10, 10, 10]), (21, coded [40, 20, 20]), (33, coded [51, 7]), (50, coded [30, 10])]

/-- Section 3.9, the add at 9. -/
theorem test_dwellEnd_add :
    (dwelling atNine nineBlocks .free).windows = [found 6 20, found 9 21] ∧
      (dwelling atNine nineBlocks .free).scout = some { pos := 10, block := 0, dwell := 0 } ∧
      (dwelling atEleven elevenBlocks .retired).scout = none ∧
      (dwelling atEleven elevenBlocks .retired).conditions.starved = true := by decide +kernel

/-- Section 3.9, the swap at 12; and a discard where the quota is full and the scout too weak. -/
theorem test_dwellEnd_swap :
    (dwelling atTwelve twelveBlocks .retired).windows = [found 9 21, found 11 33, found 12 50] ∧
      (dwelling atTwelve twelveBlocks .retired).scout = some { pos := 13, block := 20, dwell := 0 } ∧
      (dwelling atTwelve twelveBlocks .retired).counters.scoutSwaps = 1 ∧
      (dwelling { atNine with
          windows := [found 6 21], scout := some { pos := 9, block := 20, dwell := 512, due := some [20, 21] } }
        nineBlocks .free).scout = some { pos := 10, block := 20, dwell := 0 } := by decide +kernel

/-- R48 and R49: a count kept from TRACK is no dwell end in ACQUIRE; the next adapting sample evaluates the scout, here a
discard, with the count above the dwell length. -/
theorem test_dwellEnd_waits :
    (dwelling { atNine with scout := some { pos := 9, block := 21, dwell := 700 } } nineBlocks .free).scout =
        some { pos := 9, block := 21, dwell := 700 } ∧
      ((after (exec (.sampleArrival 0 0x80#8 0x10#8 [])
        (sampling.onChan 0 fun ch => { ch with scout := some { pos := 0, block := 21, dwell := 700 } }))).chan 0).scout =
        some { pos := 1, block := 21, dwell := 0 } := by decide +kernel

/-- Witness of DwellEndEvaluatesTheScout: the pools of the three evaluations are sound, and the fourth outcome's too. -/
theorem test_witness_DwellEndEvaluatesTheScout :
    (one atNine nineBlocks .free []).PoolSound ∧ (one atEleven elevenBlocks .retired []).PoolSound ∧
      (one atTwelve twelveBlocks .retired []).PoolSound ∧
      (one { pinnedChannel with scout := some { pos := 3, block := 62, dwell := 512, due := some [60, 62] } }
        pinnedBlocks .free []).PoolSound := by
  refine ⟨one_sound ?_, one_sound ?_, one_sound ?_, one_sound ?_⟩ <;>
    exact ⟨by decide, by decide, by decide, by decide +kernel, by decide, by decide, by decide +kernel, by decide +kernel⟩

/-- The premises of the same statement on the channels, each with its evaluation due, and one with none. -/
theorem test_witness_dwell_channels :
    (atNine.life = .active ∧ atEleven.life = .active ∧ atTwelve.life = .active) ∧
      (atNine.profile = some prof ∧ atEleven.profile = some prof ∧ atTwelve.profile = some prof) ∧
      atNine.scout = some { pos := 9, block := 21, dwell := 512, due := some [20, 21] } ∧
      atTwelve.scout = some { pos := 12, block := 50, dwell := 2048, due := some [20, 21, 33, 50] } ∧
      ∀ k ∈ worker.scout, k.due = none := by
  exact ⟨⟨rfl, rfl, rfl⟩, ⟨rfl, rfl, rfl⟩, rfl, rfl, by decide⟩

/-- R88, R89 and R90: the three limits, one short of them nothing, and a divergence before the others (R91). -/
theorem test_reachTrack :
    ((after (exec (.reachTrack 0) (busy.onChan 0 fun ch => { ch with convRun := 2048 }))).chan 0).service = .track ∧
      ((after (exec (.reachTrack 0) (busy.onChan 0 fun ch => { ch with convRun := 2047 }))).chan 0).service = .acquire ∧
      ((after (exec (.reachTrack 0)
        (busy.onChan 0 fun ch => { ch with convRun := 2048, divRun := 1024 }))).chan 0).service = .acquire := by
  decide +kernel

/-- R89: a path change keeps the divergence run. -/
theorem test_pathChange :
    ((after (exec (.pathChange 0)
        (busy.onChan 0 fun ch => { ch with service := .track, changeRun := 512, divRun := 512 }))).chan 0).service = .acquire ∧
      ((after (exec (.pathChange 0)
        (busy.onChan 0 fun ch => { ch with service := .track, changeRun := 512, divRun := 512 }))).chan 0).divRun = 512 := by
  decide +kernel

/-- R90 and R60: a divergence zeroes the taps, restarts the dwell and is counted. -/
theorem test_divergence :
    ((after (exec (.divergence 0) (busy.onChan 0 fun ch => { ch with divRun := 1024 }))).block 20).taps = zeroTaps ∧
      ((after (exec (.divergence 0) (busy.onChan 0 fun ch => { ch with divRun := 1024 }))).chan 0).counters.divergences = 1 ∧
      ((after (exec (.divergence 0) (busy.onChan 0 fun ch => { ch with divRun := 1023 }))).block 20).taps = taps 30 := by
  decide +kernel

/-- Witness of ServiceModeEvents at each limit. -/
theorem test_witness_ServiceModeEvents :
    (busy.chan 0).life = .active ∧ (busy.chan 0).profile ≠ none ∧ (busy.chan 0).service = .acquire ∧
      ({ worker with convRun := 2048, divRun := 1023 }.convRun = 2048 ∧ 1023 < 1024) ∧
      { worker with service := .track, changeRun := 512 }.changeRun = 512 ∧
      { worker with divRun := 1024 }.divRun = 1024 := by decide +kernel

/-- Channel 0 with tone runs and a mode. -/
def toned (mode : ToneMode) (t : ToneRun) (policy : TonePolicy) : State :=
  busy.onChan 0 fun ch =>
    { ch with toneMode := mode, toneS := t, profile := some { prof with tonePolicy := policy } }

/-- R106 and R107: FULL with a reversal goes to BYPASS and counts; NLP-ONLY in NLP-OFF changes nothing; the stream starts
afresh either way. -/
theorem test_toneDetection :
    ((after (exec (.toneDetection 0) (toned .normal ⟨3200, true⟩ .full))).chan 0).toneMode = .bypass ∧
      ((after (exec (.toneDetection 0) (toned .normal ⟨3200, true⟩ .full))).chan 0).counters.toneBypasses = 1 ∧
      ((after (exec (.toneDetection 0) (toned .nlpOff ⟨3200, true⟩ .nlpOnly))).chan 0).toneMode = .nlpOff ∧
      ((after (exec (.toneDetection 0) (toned .nlpOff ⟨3200, true⟩ .nlpOnly))).chan 0).toneS = .zero ∧
      ((after (exec (.toneDetection 0) (toned .normal ⟨3199, true⟩ .full))).chan 0).toneMode = .normal := by
  decide +kernel

/-- R110: the exit to NORMAL on the sample that brings the quiet run to 2000, and not between two samples. -/
theorem test_returnToNormal :
    (let mode := fun (work : Bool) (run : Nat) =>
      ((after (exec (.returnToNormal 0)
        (busy.onChan 0 fun ch => { ch with inSample := work, toneMode := .bypass, quietRun := run }))).chan 0).toneMode
    mode true 2000 = .normal ∧ mode true 1999 = .bypass ∧ mode false 2000 = .bypass) := by
  decide +kernel

/-- Witness of ToneEvents: a change and none, at the limit. -/
theorem test_witness_ToneEvents :
    (worker.life ≠ .closed ∧ worker.profile = some prof) ∧ 3200 ≤ (⟨3200, true⟩ : ToneRun).count ∧
      toneModeAfter .full .normal true ≠ .normal ∧ toneModeAfter .ignore .normal true = .normal ∧
      { worker with toneMode := .bypass, quietRun := 2000 }.quietRun = 2000 := by decide +kernel

/-- Channel 0 at an ALC period's end with g, A_v and the release count. -/
def period (g v release : Nat) : State :=
  busy.onChan 0 fun ch => { ch with gain := g, sumV := 32 * v, releaseCount := release, periodCount := 128 }

/-- The gain, the release count and the clip events after the period's end. -/
def periodEnd (g v release : Nat) : Nat × Nat × Nat :=
  let ch := (after (exec (.alcPeriodEnd 0) (period g v release))).chan 0
  (ch.gain, ch.releaseCount, ch.counters.clipEvents)

/-- Section 7.8: periods 1, 2, 3, 5, 8 and 13. -/
theorem test_alcPeriodEnd :
    periodEnd 24 1400 0 = (23, 0, 0) ∧ periodEnd 23 1400 0 = (22, 0, 0) ∧ periodEnd 22 1400 0 = (22, 0, 1) ∧
      periodEnd 22 900 0 = (22, 1, 0) ∧ periodEnd 22 900 3 = (23, 0, 0) ∧ periodEnd 24 900 0 = (24, 0, 0) := by
  decide +kernel

/-- Witness of AlcPeriodEndMovesTheGain: section 7.8's thresholds, and each limit of g. -/
theorem test_witness_AlcPeriodEndMovesTheGain :
    prof.alcOn = true ∧ 128 ≤ ((period 22 1400 0).chan 0).periodCount ∧ prof.gmin = 22 ∧ prof.gmax = 26 ∧
      prof.target * 19 < (1400 * gainOf 22 / 4096) * 16 ∧ (900 * gainOf 22 / 4096) * 32 < prof.target * 27 ∧
      (100 * gainOf 26 / 4096) * 32 < prof.target * 27 ∧ ¬prof.target * 19 < 900 * 16 ∧ ¬900 * 32 < prof.target * 27 := by
  decide +kernel

/-- R79, R100 and R101: within a sample the flags clear with their hangovers at 0, and N is the smaller of A_s and F − 1. -/
theorem test_channel_timers :
    ((after (exec (.dtHangoverEnd 0) (busy.onChan 0 fun ch => { ch with dtFlag := true }))).chan 0).dtFlag = false ∧
      (let engaged := fun (work : Bool) (hangover : Nat) =>
        ((after (exec (.nlpRelease 0) (busy.onChan 0 fun ch =>
          { ch with inSample := work, engaged := true, nlpHangover := hangover }))).chan 0).engaged
      engaged true 0 = false ∧ engaged true 1 = true ∧ engaged false 0 = true) ∧
      (let floor := fun (work : Bool) (run : Nat) =>
        ((after (exec (.noiseFloorUpdate 0) (busy.onChan 0 fun ch =>
          { ch with inSample := work, quietRun := run, sumS := 3200 }))).chan 0).noiseFloor
      floor true 128 = 47 ∧ floor true 127 = 0 ∧ floor false 128 = 0) := by
  decide +kernel

/-- R122, R131 and R134: the end of OPENING at B + 1024, and the quiet point at 400 within a sample, never between two. -/
theorem test_channel_milestones :
    ((after (exec (.endOfOpening 0)
        (busy.onChan 0 fun ch => { ch with life := .opening, openingCount := 1024 }))).chan 0).life = .active ∧
      ((after (exec (.endOfOpening 0)
        (busy.onChan 0 fun ch => { ch with life := .opening, openingCount := 1023 }))).chan 0).life = .opening ∧
      (let pad := fun (work : Bool) (run : Nat) =>
        ((after (exec (.quietPoint 0) (busy.setChan 0
          { applying { prof with padIndex := 12 } with inSample := work, quietRun := run }))).chan 0).padIndex
      pad true 400 = 12 ∧ pad true 399 = 24 ∧ pad false 65535 = 24) := by
  decide +kernel

/-- A sample of an ACTIVE channel with two FOUND windows, codes 900 and 300, and a pending apply of quota 2. -/
def quieting (run : Nat) : Channel :=
  { adapting with
    staged := .pending { prof with quota := 2, padIndex := 12 }, quietRun := run, sumX := 0
    windows := [found 6 20, found 9 22] }

/-- The state of that channel: code 80h expands to 0 on both highways. -/
def quietSampling (run : Nat) : State :=
  onFrame { one (quieting run) [(20, coded [30]), (21, zeroTaps), (22, coded [10, 10, 10])] .free [] with
    law := { a := law, b := lawWith [(0x10, 1000), (0x80, 0)], buffer := .empty } }

/-- R61, R134 and R135: the IDLE sample that brings the quiet run to 400 makes the apply, the one before it does not. -/
theorem test_sampleArrival_quiet_point :
    (let ended := fun run : Nat => (after (exec (.sampleArrival 0 0x80#8 0x80#8 []) (quietSampling run)))
    (((ended 399).chan 0).padIndex = 12 ∧ ((ended 399).chan 0).staged = .empty ∧
        ((ended 399).chan 0).windows = [found 6 20] ∧ ((ended 399).block 22).condition = .free) ∧
      ((ended 398).chan 0).staged = .pending { prof with quota := 2, padIndex := 12 }) := by decide +kernel

/-- Witness of SampleIsClassified and of ChannelTimersEnd where an apply lowers the quota at a quiet point. -/
theorem test_witness_quiet_points :
    (quietSampling 399).PoolSound ∧
      (one { quieting 400 with inSample := true } [(20, coded [30]), (21, zeroTaps), (22, coded [10, 10, 10])] .free
        []).PoolSound ∧
      (quieting 399).life = .active ∧ (quieting 399).staged = .pending { prof with quota := 2, padIndex := 12 } ∧
      400 ≤ ((after (exec (.sampleArrival 0 0x80#8 0x80#8 []) (quietSampling 399))).chan 0).quietRun := by
  have h : (one (quieting 399) [(20, coded [30]), (21, zeroTaps), (22, coded [10, 10, 10])] .free []).PoolSound :=
    one_sound ⟨by decide, by decide, by decide, by decide +kernel, by decide, by decide, by decide +kernel,
      by decide +kernel⟩
  refine ⟨⟨h.1, h.2, h.3, h.4, h.5, h.6, h.7⟩, one_sound ?_, rfl, rfl, by decide +kernel⟩
  exact ⟨by decide, by decide, by decide, by decide +kernel, by decide, by decide, by decide +kernel, by decide +kernel⟩

/-- Witness of ChannelTimersEnd, each trigger at its limit. -/
theorem test_witness_ChannelTimersEnd :
    (worker.life ≠ .closed ∧ worker.profile = some prof) ∧
      ({ worker with dtFlag := true }.dtFlag = true ∧ worker.dtHangover = 0) ∧
      ({ worker with inSample := true, engaged := true }.engaged = true ∧ worker.nlpHangover = 0 ∧
        worker.inSample = false) ∧
      (worker.talk = .idle ∧ { worker with quietRun := 128 }.quietRun % 128 = 0) ∧
      32 * prof.bulk + 1024 ≤ { worker with life := .opening, openingCount := 1024 }.openingCount ∧
      (400 ≤ (applying prof).quietRun ∧ (applying prof).windows.length + 1 ≤ prof.quota) := by decide +kernel

/-! ## Laws of every state -/

/-- Witness of EveryStepCompletes and of the statements that a step keeps the laws: a command that stores, and no fault. -/
theorem test_witness_steps :
    step { base with pending := [.ident 0x10#8] } = .next (after (step { base with pending := [.ident 0x10#8] })) ∧
      base.CountersBounded ∧ base.QueuesSound ∧ base.PortSound ∧ base.SignatureSound ∧ busy.PoolSound := by
  exact ⟨rfl, by decide +kernel, by decide +kernel, by decide +kernel, by decide +kernel, busy_sound⟩

/-- Witness of the same statements' other laws. -/
theorem test_witness_laws :
    busy.ProfilesHeld ∧ base.GainSound ∧ base.CountsSound ∧ base.MapsSound := by
  exact ⟨busy_sound.profilesHeld, by decide +kernel, by decide +kernel, mapAt_namesOnce 0 0, mapAt_namesOnce 31 0,
    by decide +kernel⟩

/-- Witness of the laws of values: taps, profiles, tables, histories and levels of `base`. -/
theorem test_witness_values : base.TapsSound ∧ base.ProfilesSound ∧ base.SignalSound := by
  refine ⟨fun b => ?_, by decide +kernel, ⟨law_linear, law_linear, by decide +kernel⟩, fun c => ?_⟩
  · rw [show base.block b = Block.reset from State.powerOn_block .baud9600 b]
    exact ⟨List.length_replicate, fun t ht => by rw [List.eq_of_mem_replicate ht]; decide⟩
  · rw [show base.chan c = Channel.reset c from State.powerOn_chan .baud9600 c]
    refine ⟨List.length_replicate, fun v hv => ?_, ?_⟩
    · rw [List.eq_of_mem_replicate hv]
      decide
    · have := c.isLt
      refine ⟨Nat.zero_le _, Nat.zero_le _, Nat.zero_le _, Nat.zero_le _, Nat.zero_le _, Nat.succ_pos _, ?_⟩
      show c.val + 1 ≤ 32767
      omega

end Sys2Proof.Tests
end

section
/-!
PROOFS. The signal path's arithmetic and the commit of a companding table: compression through a table (R5), the product
rule and the gain table (R2, R12), and the refusals of LAW-COMMIT (R8).
-/

namespace Sys2Proof.Machine

/-! ## Compression -/

/-- How far the entry numbered `i` lies from `v`. -/
def entryDistance (v : Int) (es : List Int) (i : Nat) : Nat := (es.getD i 0 - v).natAbs

@[simp] theorem entryDistance_cons_zero (v e : Int) (es : List Int) :
    entryDistance v (e :: es) 0 = (e - v).natAbs := rfl

@[simp] theorem entryDistance_cons_succ (v e : Int) (es : List Int) (i : Nat) :
    entryDistance v (e :: es) (i + 1) = entryDistance v es i := rfl

/-- The entry numbered `i` is the one R5 names for `v`: of least distance, and of those at that distance the first. -/
def NearestAt (v : Int) (es : List Int) (i : Nat) : Prop :=
  i < es.length ∧ ∀ j < es.length, entryDistance v es i ≤ entryDistance v es j ∧
    (entryDistance v es j = entryDistance v es i → i ≤ j)

theorem nearestAt_singleton (v e : Int) : NearestAt v [e] 0 :=
  ⟨Nat.one_pos, fun j hj => by simp [Nat.lt_one_iff.mp hj]⟩

/-- A new first entry takes over where the nearest of the others is no nearer. -/
theorem NearestAt.cons_zero {v e : Int} {es : List Int} {i : Nat} (h : NearestAt v es i)
    (hle : (e - v).natAbs ≤ entryDistance v es i) : NearestAt v (e :: es) 0 := by
  refine ⟨Nat.succ_pos _, fun j hj => ⟨?_, fun _ => Nat.zero_le j⟩⟩
  cases j with
  | zero => exact le_rfl
  | succ j => exact hle.trans (h.2 j (Nat.lt_of_succ_lt_succ hj)).1

/-- A new first entry that lies further off moves the nearest of the others up by one place. -/
theorem NearestAt.cons_succ {v e : Int} {es : List Int} {i : Nat} (h : NearestAt v es i)
    (hlt : entryDistance v es i < (e - v).natAbs) : NearestAt v (e :: es) (i + 1) := by
  refine ⟨Nat.succ_lt_succ h.1, fun j hj => ?_⟩
  cases j with
  | zero => simp only [entryDistance_cons_succ, entryDistance_cons_zero]; omega
  | succ j =>
    obtain ⟨hle, hfirst⟩ := h.2 j (Nat.lt_of_succ_lt_succ hj)
    exact ⟨hle, fun heq => Nat.succ_le_succ (hfirst heq)⟩

/-- The search of a list that is not empty finds the entry R5 names, and its distance. -/
theorem nearestFrom_cons (v e : Int) (es : List Int) (k : Nat) :
    ∃ i, NearestAt v (e :: es) i ∧
      nearestFrom v (e :: es) k = some (k + i, entryDistance v (e :: es) i) := by
  induction es generalizing e k with
  | nil => exact ⟨0, nearestAt_singleton v e, rfl⟩
  | cons f fs ih =>
    obtain ⟨i, hi, hfound⟩ := ih f (k + 1)
    rw [nearestFrom, hfound]
    by_cases hle : (e - v).natAbs ≤ entryDistance v (f :: fs) i
    · exact ⟨0, hi.cons_zero hle, if_pos hle⟩
    · refine ⟨i + 1, hi.cons_succ (Nat.lt_of_not_le hle), ?_⟩
      simp only [if_neg hle, entryDistance_cons_succ, Nat.add_assoc, Nat.add_comm 1 i]

/-- The code given by a table of 256 entries is the number of the entry R5 names. -/
theorem compress_nearestAt (t : LawTable) (v : Int) (h : t.entries.length = 256) :
    NearestAt v t.entries (compress t v).toNat := by
  obtain ⟨e, es, hes⟩ := List.exists_cons_of_length_pos (h ▸ Nat.succ_pos 255 : 0 < t.entries.length)
  obtain ⟨i, hi, hfound⟩ := nearestFrom_cons v e es 0
  rw [← hes] at hi hfound
  have hi256 : i < 256 := hi.1.trans_eq h
  have hcode : compress t v = BitVec.ofNat 8 i := by simp [compress, hfound]
  rwa [hcode, BitVec.toNat_ofNat, Nat.mod_eq_of_lt hi256]

/-- In a list of distinct entries, what is nearest to an entry is that entry. -/
theorem NearestAt.eq_of_nodup {es : List Int} {i k : Nat} (hk : k < es.length)
    (h : NearestAt (es.getD k 0) es i) (hd : es.Nodup) : i = k := by
  obtain ⟨hi, hleast⟩ := h
  have hzero : entryDistance (es.getD k 0) es i ≤ 0 := by
    simpa [entryDistance] using (hleast k hk).1
  have heq : es.getD i 0 = es.getD k 0 := by
    rw [entryDistance] at hzero
    omega
  rw [List.getD_eq_getElem _ _ hi, List.getD_eq_getElem _ _ hk] at heq
  exact (hd.getElem_inj_iff).mp heq

/-! ## Rounding -/

theorem roundTieAway_natCast (a : Nat) {d : Nat} (hd : 0 < d) :
    roundTieAway (a : Int) d = ((2 * a + d) / (2 * d) : Nat) := by
  obtain rfl | ha := Nat.eq_zero_or_pos a
  · simp [roundTieAway, Nat.div_eq_of_lt (show d < 2 * d by omega)]
  · rw [roundTieAway, Int.sign_eq_one_of_pos (Int.natCast_pos.mpr ha), Int.natAbs_natCast, one_mul]

theorem roundTieAway_natCast_mul_self (a : Nat) {d : Nat} (hd : 0 < d) : roundTieAway ((a : Int) * d) d = a := by
  have hquot : (2 * (a * d) + d) / (2 * d) = a := by
    rw [show 2 * (a * d) + d = d + a * (2 * d) by ring, Nat.add_mul_div_right _ _ (by omega),
      Nat.div_eq_of_lt (by omega), Nat.zero_add]
  rw [← Nat.cast_mul, roundTieAway_natCast _ hd, hquot]

theorem roundTieAway_natCast_nearest (a : Nat) {d : Nat} (hd : 0 < d) :
    2 * (d * roundTieAway a d - a).natAbs ≤ d ∧
      (2 * (d * roundTieAway a d - a).natAbs = d → a ≤ d * (roundTieAway a d).natAbs) := by
  rw [roundTieAway_natCast a hd, Int.natAbs_natCast, ← Nat.cast_mul]
  have hsplit := Nat.div_add_mod (2 * a + d) (2 * d)
  have hrest := Nat.mod_lt (2 * a + d) (show 0 < 2 * d by omega)
  rw [Nat.mul_assoc] at hsplit
  generalize d * ((2 * a + d) / (2 * d)) = multiple at *
  omega

/-- The rule treats both signs alike. -/
theorem roundTieAway_neg (n : Int) (d : Nat) : roundTieAway (-n) d = -roundTieAway n d := by
  simp [roundTieAway]

/-- A whole number of `d`s is its own quotient. -/
theorem roundTieAway_mul_self (v : Int) {d : Nat} (hd : 0 < d) : roundTieAway (v * d) d = v := by
  obtain ⟨a, rfl | rfl⟩ := v.eq_nat_or_neg
  · exact roundTieAway_natCast_mul_self a hd
  · rw [Int.neg_mul, roundTieAway_neg, roundTieAway_natCast_mul_self a hd]

theorem roundTieAway_nonneg {n : Int} (d : Nat) (hn : 0 ≤ n) : 0 ≤ roundTieAway n d :=
  Int.mul_nonneg (Int.sign_nonneg_iff.mpr hn) (Int.natCast_nonneg _)

theorem roundTieAway_nonpos {n : Int} (d : Nat) (hn : n ≤ 0) : roundTieAway n d ≤ 0 := by
  have := roundTieAway_nonneg d (Int.neg_nonneg.mpr hn)
  rw [roundTieAway_neg] at this
  omega

/-- The rounded quotient is a nearest integer to `n / d`, and of two equally near the one away from zero. -/
theorem roundTieAway_nearest (n : Int) {d : Nat} (hd : 0 < d) :
    2 * (d * roundTieAway n d - n).natAbs ≤ d ∧
      (2 * (d * roundTieAway n d - n).natAbs = d → n.natAbs ≤ d * (roundTieAway n d).natAbs) := by
  obtain ⟨a, rfl | rfl⟩ := n.eq_nat_or_neg
  · exact roundTieAway_natCast_nearest a hd
  · have hmirror : (d * roundTieAway (-(a : Int)) d - -(a : Int)).natAbs = (d * roundTieAway a d - a).natAbs := by
      rw [roundTieAway_neg, Int.mul_neg, ← Int.natAbs_neg]
      congr 1
      ring
    rw [hmirror, roundTieAway_neg, Int.natAbs_neg, Int.natAbs_neg, Int.natAbs_natCast]
    exact roundTieAway_natCast_nearest a hd

/-! ## The product rule -/

/-- A value of the linear range is not saturated (R1). -/
theorem saturate_of_linear {v : Int} (h : Linear v) : saturate v = v := by
  obtain ⟨hlo, hhi⟩ := h
  rw [saturate, clampInt, min_eq_right hhi, max_eq_right hlo]

theorem saturate_nonneg {v : Int} (h : 0 ≤ v) : 0 ≤ saturate v := by
  rw [saturate, clampInt]
  omega

theorem saturate_nonpos {v : Int} (h : v ≤ 0) : saturate v ≤ 0 := by
  rw [saturate, clampInt]
  omega

/-- The multiplier 4096 is unity (R2). -/
theorem scale_unity {v : Int} (h : Linear v) : scale v 4096 = v := by
  rw [scale, roundTieAway_mul_self v (by decide), saturate_of_linear h]

theorem scale_nonneg {v : Int} (m : Nat) (h : 0 ≤ v) : 0 ≤ scale v m :=
  saturate_nonneg (roundTieAway_nonneg _ (Int.mul_nonneg h (Int.natCast_nonneg m)))

theorem scale_nonpos {v : Int} (m : Nat) (h : v ≤ 0) : scale v m ≤ 0 :=
  saturate_nonpos (roundTieAway_nonpos _ (Int.mul_nonpos_of_nonpos_of_nonneg h (Int.natCast_nonneg m)))

/-! ## The gain table -/

/-- Each multiplier is the integer nearest to 4096 × 10^((g − 24)/40) (R12). -/
theorem gainOf_nearest : ∀ g ≤ 48,
    0 < gainOf g ∧ (2 * gainOf g - 1) ^ 40 * 10 ^ 24 < 8192 ^ 40 * 10 ^ g ∧
      8192 ^ 40 * 10 ^ g < (2 * gainOf g + 1) ^ 40 * 10 ^ 24 := by decide

theorem gainOf_lt_succ : ∀ g < 48, gainOf g < gainOf (g + 1) := by decide

/-! ## LAW-COMMIT refused -/

/-- A request that its owner refuses: the state stays as it was, but for the reply with the reason (R163, R164). -/
theorem serve_of_refused {s : State} {act : Request} {why : Reason} (tag kind : Byte) (hroom : s.HasRoom)
    (h : act s = (s, .refused why)) :
    serve tag kind act s = s.answered (refusedRecord tag kind (reasonCode why)) := by
  rw [serve_of_room s tag kind act hroom, h, replyRecord_refused]

theorem exec_lawCommit (tag table : Byte) (s : State) :
    exec (.lawCommit tag table) s = .next (serve tag 0x11#8 (lawCommitRequest table) s) := by
  rfl

/-- No table has a code above 1. -/
theorem tableOf_eq_none {b : Byte} (h : 1 < b.toNat) : tableOf b = none := by
  have ha : b ≠ 0x00#8 := by rintro rfl; exact absurd h (by decide)
  have hb : b ≠ 0x01#8 := by rintro rfl; exact absurd h (by decide)
  rw [tableOf, if_neg ha, if_neg hb]

/-- A buffer without one of its quarters is not complete. -/
theorem LoadBuffer.complete_eq_none {b : LoadBuffer} {q : Fin 4} (h : b.quarters[q.val] = none) :
    b.complete = none := by
  unfold LoadBuffer.complete
  split
  · next h0 h1 h2 h3 => fin_cases q <;> simp_all
  · rfl

/-- The entries of a complete buffer are those of its quarters in order. -/
theorem LoadBuffer.complete_eq_some {b : LoadBuffer} {q0 q1 q2 q3 : List Int}
    (h : b.quarters = #v[some q0, some q1, some q2, some q3]) : b.complete = some (q0 ++ q1 ++ q2 ++ q3) := by
  simp [LoadBuffer.complete, h]

theorem lawCommitRequest_range {table : Byte} (s : State) (h : tableOf table = none) :
    lawCommitRequest table s = (s, .refused .range) := by
  simp [lawCommitRequest, h]

/-- LAW-COMMIT of a table is refused unless the buffer is for that table, complete, and without equal entries (R8). -/
theorem lawCommitRequest_law {s : State} {t : TableName}
    (h : s.law.buffer.target = some t → ∀ entries, s.law.buffer.complete = some entries → ¬entries.Nodup) :
    lawCommitRequest (tableCode (some t)) s = (s, .refused .law) := by
  simp only [lawCommitRequest, tableOf_tableCode]
  split
  · rfl
  · next htarget =>
    split
    · rfl
    · next entries hcomplete => exact if_neg (h (not_not.mp htarget) entries hcomplete)

end Sys2Proof.Machine

namespace Sys2Proof

open Sys2Proof.Machine

/-! ## The statements -/

/-- Settles O25: the search of the table finds the first of the nearest entries, by induction on the entries. -/
theorem compressGivesNearestCode : Obligations.CompressGivesNearestCode := by
  intro t v hlength
  refine ⟨fun j hj => (compress_nearestAt t v hlength).2 j (hlength ▸ hj), fun hnodup k => ?_⟩
  have hk : k.toNat < t.entries.length := hlength ▸ k.isLt
  exact BitVec.eq_of_toNat_eq ((compress_nearestAt t (expand t k) hlength).eq_of_nodup hk hnodup)

/-- Settles O26: the quotient before saturation is the integer sought; the table's facts are checked entry by entry. -/
theorem productRuleRoundsAwayFromZero : Obligations.ProductRuleRoundsAwayFromZero := by
  refine ⟨fun v m hlo hhi => ⟨?_, scale_unity ⟨hlo, hhi⟩, scale_nonneg m, scale_nonpos m⟩, gainOf_nearest,
    gainOf_lt_succ, by decide⟩
  exact ⟨roundTieAway (v * m) 4096, rfl, roundTieAway_nearest (v * m) (by decide)⟩

/-- Settles O24: each premise makes the owner refuse, and a refused request changes nothing but the replies. -/
theorem lawCommitRefusals : Obligations.LawCommitRefusals := by
  refine fun tag s hroom => ⟨fun table htable => ?_, fun t hbad => ?_⟩
  · rw [exec_lawCommit, serve_of_refused tag _ hroom (lawCommitRequest_range s (tableOf_eq_none htable))]
    rfl
  · rw [exec_lawCommit, serve_of_refused tag _ hroom (lawCommitRequest_law fun htarget entries hentries => ?_)]
    · rfl
    obtain hother | ⟨q, hmissing⟩ | ⟨q0, q1, q2, q3, hquarters, hequal⟩ := hbad
    · exact absurd htarget hother
    · simp [LoadBuffer.complete_eq_none hmissing] at hentries
    · cases (LoadBuffer.complete_eq_some hquarters).symm.trans hentries
      exact hequal

end Sys2Proof
end

section
/-!
PROOFS. READ-PORT, the report of the highway port (R156).
-/

namespace Sys2Proof.Machine

/-- A request that its owner answers without acting: the state stays as it was, but for the DONE reply (R163, R164). -/
theorem serve_of_report {s : State} {act : Request} {fields : List Byte} (tag kind : Byte) (hroom : s.HasRoom)
    (h : act s = (s, .done fields)) :
    serve tag kind act s = s.answered (doneRecord tag kind fields) := by
  rw [serve_of_room s tag kind act hroom, h, replyRecord_done]

theorem exec_readPort (tag : Byte) (s : State) :
    exec (.readPort tag) s = .next (serve tag 0x25#8 readPortRequest s) := by
  rfl

/-- The port's fields in the order of the reply's table, the configuration and the awaiting mark spelled out. -/
theorem readPortRequest_report (s : State) :
    readPortRequest s = (s, .done
      ([modeCode s.port.mode, s.port.offset, edgeCode s.port.edge, runCode s.port.runState, syncCode s.port.sync,
          if s.port.awaiting then 0x01#8 else 0x00#8, clockCode s.port.clock]
        ++ be32 s.port.complete.toNat ++ be32 s.port.dropped.toNat
        ++ s.port.lineMap.toList.map mapEntryCode ++ s.port.exchangeMap.toList.map mapEntryCode)) := by
  simp only [readPortRequest, Port.configBytes, yesNo, List.cons_append, List.nil_append]

end Sys2Proof.Machine

namespace Sys2Proof

open Sys2Proof.Machine

/-- Settles O21: READ-PORT's owner only reports, so the reply is all that joins the state. -/
theorem readPortReportsThePort : Obligations.ReadPortReportsThePort := by
  intro tag s hroom
  rw [exec_readPort, serve_of_report tag _ hroom (readPortRequest_report s)]

end Sys2Proof
end

section
/-!
PROOFS. The control link's own requests: IDENT (R166), NOTICE-MASK and NOTICE-ENABLE (R172), and what RESTART keeps of
the pool and sets of the masks (R139, R168).
-/

namespace Sys2Proof.Machine

/-! ## Requests carried out -/

/-- A request that its owner carries out: the state the owner leaves, and the DONE reply (R163, R164). -/
theorem serve_of_done {s t : State} {act : Request} {fields : List Byte} (tag kind : Byte) (hroom : s.HasRoom)
    (h : act s = (t, .done fields)) :
    serve tag kind act s = t.answered (doneRecord tag kind fields) := by
  rw [serve_of_room s tag kind act hroom, h, replyRecord_done]

@[simp] theorem State.answered_port (s : State) (r : Record) : (s.answered r).port = s.port := rfl
@[simp] theorem State.answered_chan (s : State) (r : Record) (c : Chan) : (s.answered r).chan c = s.chan c := rfl

@[simp] theorem Link.withReply_enable (l : Link) (r : Record) : (l.withReply r).enable = l.enable := by
  unfold Link.withReply
  split <;> rfl

@[simp] theorem State.answered_enable (s : State) (r : Record) : (s.answered r).link.enable = s.link.enable :=
  s.link.withReply_enable r

/-! ## IDENT -/

theorem exec_ident (tag : Byte) (s : State) : exec (.ident tag) s = .next (serve tag 0x01#8 identRequest s) := by
  rfl

/-- The part code, the revision and the two counts as the bytes of the reply. -/
theorem identRequest_report (s : State) :
    identRequest s = (s, .done [0x0C#8, 0x94#8, 0x01#8, 0x20#8, 0xC0#8, byteOf s.retiredCount]) := by
  rfl

theorem State.retiredCount_le (s : State) : s.retiredCount ≤ 192 :=
  (List.length_filter_le _ _).trans_eq (List.length_finRange (n := 192))

/-- The count rests on which blocks are retired alone. -/
theorem State.retiredCount_congr {s t : State}
    (h : ∀ b : BlockNo, (t.block b).condition = .retired ↔ (s.block b).condition = .retired) :
    t.retiredCount = s.retiredCount := by
  simp [State.retiredCount, beq_eq_decide, h]

/-! ## NOTICE-MASK -/

theorem exec_noticeMask (tag source mask : Byte) (s : State) :
    exec (.noticeMask tag source mask) s = .next (serve tag 0x28#8 (noticeMaskRequest source mask) s) := by
  rfl

/-- No source has a code above 31 but the port's. -/
theorem sourceOf_eq_none {b : Byte} (h : 31 < b.toNat) (hport : b ≠ 0x40#8) : sourceOf b = none := by
  rw [sourceOf, if_neg hport, chanOf_eq_none h, Option.map_none]

/-- A code up to 31 names a channel. -/
theorem sourceOf_eq_channel {b : Byte} (h : b.toNat ≤ 31) : ∃ c : Chan, sourceOf b = some (.channel c) := by
  have hport : b ≠ 0x40#8 := by rintro rfl; exact absurd h (by decide)
  exact ⟨⟨b.toNat, by omega⟩, by simp [sourceOf, chanOf, hport, Nat.lt_succ_of_le h]⟩

/-- A mask has no mark beyond those of the source's kinds exactly where it is no greater than the full mask (R172). -/
theorem and_not_fullMask_eq_zero (u : Source) (m : Byte) :
    m &&& ~~~(fullMask u) = 0x00#8 ↔ m.toNat ≤ (fullMask u).toNat := by
  cases u with
  | channel _ => simp only [fullMask]; revert m; decide
  | port => simp only [fullMask]; revert m; decide

theorem noticeMaskRequest_set {source m : Byte} {u : Source} (s : State) (hu : sourceOf source = some u)
    (hm : m.toNat ≤ (fullMask u).toNat) :
    noticeMaskRequest source m s = (s.setMask u m, .done [source, m]) := by
  simp [noticeMaskRequest, hu, (and_not_fullMask_eq_zero u m).mpr hm]

theorem noticeMaskRequest_range {source m : Byte} (s : State)
    (h : ∀ u, sourceOf source = some u → (fullMask u).toNat < m.toNat) :
    noticeMaskRequest source m s = (s, .refused .range) := by
  unfold noticeMaskRequest
  split
  · rfl
  · next u hu => exact if_pos fun hzero => absurd ((and_not_fullMask_eq_zero u m).mp hzero) (Nat.not_le.mpr (h u hu))

/-! ## NOTICE-ENABLE -/

theorem exec_noticeEnable (tag enable : Byte) (s : State) :
    exec (.noticeEnable tag enable) s = .next (serve tag 0x29#8 (noticeEnableRequest enable) s) := by
  rfl

theorem flagOf_yesNo (on : Bool) : flagOf (yesNo on) = some on := by
  cases on <;> rfl

/-- A field above 1 is no flag. -/
theorem flagOf_eq_none {b : Byte} (h : 1 < b.toNat) : flagOf b = none := by
  have hoff : b ≠ 0x00#8 := by rintro rfl; exact absurd h (by decide)
  have hon : b ≠ 0x01#8 := by rintro rfl; exact absurd h (by decide)
  rw [flagOf, if_neg hoff, if_neg hon]

theorem noticeEnableRequest_set (on : Bool) (s : State) :
    noticeEnableRequest (yesNo on) s = (s.onLink fun l => { l with enable := on }, .done [yesNo on]) := by
  simp only [noticeEnableRequest, flagOf_yesNo]

theorem noticeEnableRequest_range {enable : Byte} (s : State) (h : 1 < enable.toNat) :
    noticeEnableRequest enable s = (s, .refused .range) := by
  simp only [noticeEnableRequest, flagOf_eq_none h]

/-! ## Blocks returned while nobody waits -/

/-- With nobody waiting, blocks that are returned change nothing but the pool (R69). -/
theorem State.returnBlocks_eq (s : State) (bs : List BlockNo) (h : s.wait = []) :
    s.returnBlocks bs = { s with blocks := (s.returnBlocks bs).blocks } := by
  unfold State.returnBlocks
  induction bs generalizing s with
  | nil => rfl
  | cons b bs ih => rw [List.foldl_cons, s.returnBlock_free b h, ih (s.setBlock b _) h]; rfl

/-- With nobody waiting, each block that is returned becomes free and keeps its values (R68, R69). -/
theorem State.returnBlocks_block (s : State) (bs : List BlockNo) (h : s.wait = []) (j : BlockNo) :
    (s.returnBlocks bs).block j = if j ∈ bs then { s.block j with condition := .free } else s.block j := by
  unfold State.returnBlocks
  induction bs generalizing s with
  | nil => rfl
  | cons b bs ih =>
    rw [List.foldl_cons, s.returnBlock_free b h, ih (s.setBlock b _) h, s.setBlock_block]
    by_cases hj : j = b
    · subst hj; simp
    · simp [hj]

/-! ## RESTART -/

theorem exec_restart (tag : Byte) (s : State) : exec (.restart tag) s = .next (restartRequest tag s) := by
  rfl

/-- What the closing of channels within RESTART keeps (R76, R139): the wait list, the port, the link, every mask, and
which blocks are retired. -/
structure State.RestartKept (s t : State) : Prop where
  wait : t.wait = s.wait
  port : t.port = s.port
  link : t.link = s.link
  mask : ∀ c : Chan, (t.chan c).mask = (s.chan c).mask
  retired : ∀ b : BlockNo, (t.block b).condition = .retired ↔ (s.block b).condition = .retired

theorem State.RestartKept.refl (s : State) : s.RestartKept s :=
  ⟨rfl, rfl, rfl, fun _ => rfl, fun _ => Iff.rfl⟩

theorem State.RestartKept.trans {s t u : State} (h : s.RestartKept t) (k : t.RestartKept u) : s.RestartKept u :=
  ⟨k.wait.trans h.wait, k.port.trans h.port, k.link.trans h.link, fun c => (k.mask c).trans (h.mask c),
    fun b => (k.retired b).trans (h.retired b)⟩

/-- A change of one channel's context that leaves its mask alone. -/
theorem State.RestartKept.onChan (s : State) (c : Chan) {f : Channel → Channel} (h : ∀ ch, (f ch).mask = ch.mask) :
    s.RestartKept (s.onChan c f) := by
  refine ⟨rfl, rfl, rfl, fun d => ?_, fun _ => Iff.rfl⟩
  rw [s.onChan_chan]
  split
  · next hd => rw [hd, h]
  · rfl

/-- Returned blocks that no entry waits for are free in place of held; none of them was retired. -/
theorem State.RestartKept.returnBlocks {s : State} {bs : List BlockNo} (hwait : s.wait = [])
    (hbs : ∀ b ∈ bs, (s.block b).condition ≠ .retired) : s.RestartKept (s.returnBlocks bs) := by
  have heq := s.returnBlocks_eq bs hwait
  refine ⟨by rw [heq], by rw [heq], by rw [heq], fun c => by rw [heq]; rfl, fun b => ?_⟩
  rw [s.returnBlocks_block bs hwait]
  split
  · next hb => simp [hbs b hb]
  · exact Iff.rfl

/-- With the master enable off, an aborted signature raises no notice (R170, R181). -/
theorem State.RestartKept.abortSignature (s : State) (c : Chan) (hoff : s.link.enable = false) :
    s.RestartKept (s.abortSignature c) := by
  unfold State.abortSignature
  split
  · rw [State.portNotice_eq_raiseNotice, State.raiseNotice_stopped _ _ _ (by simp [hoff])]
    exact ⟨rfl, rfl, rfl, fun _ => rfl, fun _ => Iff.rfl⟩
  · exact .refl s

/-- The steps of R136 with nobody waiting and the master enable off. -/
theorem State.RestartKept.closeSteps (s : State) (c : Chan) (hwait : s.wait = []) (hoff : s.link.enable = false) :
    s.RestartKept (s.closeSteps c) := by
  unfold State.closeSteps
  extract_lets s1 s2 s3
  have h1 : s.RestartKept s1 := .onChan s c fun _ => rfl
  have h2 : s1.RestartKept s2 :=
    ⟨by simp [s2, s1, hwait], rfl, rfl, fun _ => rfl, fun _ => Iff.rfl⟩
  have h3 : s2.RestartKept s3 := by
    have hcleared : s2.RestartKept (s2.onChan c fun ch => { ch with windows := [], scout := none }) :=
      .onChan s2 c fun _ => rfl
    refine hcleared.trans (.returnBlocks ?_ fun b hb => ?_)
    · rw [State.onChan_wait, h2.wait, h1.wait, hwait]
    · rw [State.onChan_block, (s2.mem_heldBlocks b c).mp hb]
      exact BlockCondition.noConfusion
  have h123 : s.RestartKept s3 := (h1.trans h2).trans h3
  have h4 : s3.RestartKept (s3.abortSignature c) := .abortSignature s3 c (by rw [h123.link, hoff])
  exact (h123.trans h4).trans (.onChan _ c fun _ => rfl)

theorem State.RestartKept.foldl_restartClose (cs : List Chan) (s : State) (hwait : s.wait = [])
    (hoff : s.link.enable = false) : s.RestartKept (cs.foldl State.restartClose s) := by
  induction cs generalizing s with
  | nil => exact .refl s
  | cons c cs ih =>
    have hc : s.RestartKept (s.restartClose c) := by
      unfold State.restartClose
      split
      · exact .refl s
      · exact .closeSteps s c hwait hoff
    exact hc.trans (ih _ (hc.wait.trans hwait) (by rw [hc.link, hoff]))

/-- The other blocks' part of RESTART keeps the link, the masks and the retired blocks, where the link's part has
turned the master enable off. -/
theorem State.restartBlocks_keeps (s : State) (hoff : s.link.enable = false) :
    s.restartBlocks.link = s.link ∧ s.restartBlocks.port.mask = s.port.mask ∧
      (∀ c : Chan, (s.restartBlocks.chan c).mask = (s.chan c).mask) ∧
      ∀ b : BlockNo, (s.restartBlocks.block b).condition = .retired ↔ (s.block b).condition = .retired := by
  have h := RestartKept.foldl_restartClose allChans (s.withWait []) rfl hoff
  unfold State.restartBlocks
  generalize allChans.foldl State.restartClose (s.withWait []) = closed at h ⊢
  have hport : closed.port.mask = s.port.mask := by rw [h.port, State.withWait_port]
  refine ⟨h.link, hport, fun c => ?_, h.retired⟩
  rw [← s.withWait_chan [] c, ← h.mask c]
  simp [State.chan]

/-- RESTART with room: its reply is queued once the link has restarted, and then the other blocks act (R168). -/
theorem restartRequest_of_room (tag : Byte) (s : State) (hroom : s.HasRoom) :
    restartRequest tag s = (s.restartLink.answered (doneRecord tag 0x02#8 [])).restartBlocks := by
  have hlimit : ¬Config.replyLimit ≤ s.link.replies.length := Nat.not_le.mpr hroom
  rw [restartRequest, if_neg hlimit, State.pushReply_eq_answered, replyRecord_done]

/-- RESTART retires no block and takes none back (R76). -/
theorem restartRequest_retiredCount (tag : Byte) (s : State) (hroom : s.HasRoom) :
    (restartRequest tag s).retiredCount = s.retiredCount := by
  obtain ⟨-, -, -, hretired⟩ :=
    (s.restartLink.answered (doneRecord tag 0x02#8 [])).restartBlocks_keeps (State.answered_enable _ _)
  rw [restartRequest_of_room tag s hroom]
  exact State.retiredCount_congr hretired

/-- The masks and the master enable as power-on reset and RESTART set them (R172). -/
def State.NoticesInitial (s : State) : Prop :=
  s.link.enable = false ∧ s.port.mask = allPortKinds ∧ ∀ c : Chan, (s.chan c).mask = allChannelKinds

theorem restartRequest_noticesInitial (tag : Byte) (s : State) (hroom : s.HasRoom) :
    (restartRequest tag s).NoticesInitial := by
  obtain ⟨hlink, hport, hmask, -⟩ :=
    (s.restartLink.answered (doneRecord tag 0x02#8 [])).restartBlocks_keeps (State.answered_enable _ _)
  rw [restartRequest_of_room tag s hroom]
  refine ⟨by rw [hlink, State.answered_enable]; rfl, by rw [hport, State.answered_port]; rfl, fun c => ?_⟩
  rw [hmask c, State.answered_chan]
  simp [State.restartLink, State.chan]

theorem exec_powerOnReset (br1 br0 : Bool) (s : State) :
    exec (.powerOnReset br1 br0) s = .next { State.powerOn (rateOf br1 br0) with pending := s.pending } := by
  rfl

theorem powerOn_noticesInitial (rate : LineRate) (queue : List Instr) :
    ({ State.powerOn rate with pending := queue } : State).NoticesInitial :=
  ⟨rfl, rfl, fun c => congrArg Channel.mask (State.powerOn_chan rate c)⟩

end Sys2Proof.Machine

namespace Sys2Proof

open Sys2Proof.Machine

/-! ## The statements -/

/-- Settles O10: IDENT's owner only reports, and RESTART returns held blocks alone. -/
theorem identNamesThePart : Obligations.IdentNamesThePart := by
  refine fun tag s hroom => ⟨?_, s.retiredCount_le, fun t ht => ?_⟩
  · rw [exec_ident, serve_of_report tag _ hroom (identRequest_report s)]
  · cases (exec_restart tag s).symm.trans ht
    exact restartRequest_retiredCount tag s hroom

/-- Settles O12: each request by what its owner answers, and the values after reset and RESTART by their own lemmas. -/
theorem noticeMaskAndEnable : Obligations.NoticeMaskAndEnable := by
  refine fun tag m s hroom => ⟨fun c hm => ?_, fun hm => ?_, fun source hbad => ?_, ?_, ?_, fun hm => ?_, ?_⟩
  · rw [exec_noticeMask, serve_of_done tag _ hroom
      (noticeMaskRequest_set s (sourceOf_byteOf c) (Nat.le_of_lt_succ hm))]
    rfl
  · rw [exec_noticeMask, serve_of_done tag _ hroom (noticeMaskRequest_set s sourceOf_port (Nat.le_of_lt_succ hm))]
    rfl
  · rw [exec_noticeMask, serve_of_refused tag _ hroom (noticeMaskRequest_range s fun u hu => ?_)]
    · rfl
    obtain ⟨hhigh, hport⟩ | ⟨hlow, hm⟩ | ⟨rfl, hm⟩ := hbad
    · simp [sourceOf_eq_none hhigh hport] at hu
    · obtain ⟨c, hc⟩ := sourceOf_eq_channel hlow
      cases hc.symm.trans hu
      exact hm
    · cases sourceOf_port.symm.trans hu
      exact hm
  · exact (exec_noticeEnable tag _ s).trans
      (congrArg _ (serve_of_done tag _ hroom (noticeEnableRequest_set false s)))
  · exact (exec_noticeEnable tag _ s).trans
      (congrArg _ (serve_of_done tag _ hroom (noticeEnableRequest_set true s)))
  · rw [exec_noticeEnable, serve_of_refused tag _ hroom (noticeEnableRequest_range s hm)]
    rfl
  · rintro br1 br0 t (ht | ht)
    · cases (exec_powerOnReset br1 br0 s).symm.trans ht
      exact powerOn_noticesInitial _ _
    · cases (exec_restart tag s).symm.trans ht
      exact restartRequest_noticesInitial tag s hroom

end Sys2Proof
end

section
/-!
PROOFS. READ-CONDITIONS: the bits of the two condition bytes, what the request's owner answers for each source, and what
it clears (R174 to R176).
-/

namespace Sys2Proof.Machine

/-! ## The bits of a condition byte -/

/-- `n` holds the marks `bs` in its bits, bit 0 first, and nothing above them. -/
def HoldsMarks (n : Nat) (bs : List Bool) : Prop :=
  n < 2 ^ bs.length ∧ ∀ i : Nat, n.testBit i = bs.getD i false

theorem HoldsMarks.nil : HoldsMarks 0 [] := ⟨by decide, fun i => Nat.zero_testBit i⟩

theorem bitIf_eq_two_pow_mul (b : Bool) (i : Nat) : bitIf b i = 2 ^ i * b.toNat := by
  cases b <;> simp [bitIf]

theorem bitIf_testBit (b : Bool) (i j : Nat) : (bitIf b i).testBit j = (b && decide (i = j)) := by
  cases b <;> simp [bitIf, Nat.testBit_two_pow]

/-- One more mark goes into the lowest bit above those that are held, so the sum is a disjunction of bits. -/
theorem HoldsMarks.append {n : Nat} {bs : List Bool} (h : HoldsMarks n bs) (b : Bool) :
    HoldsMarks (n + bitIf b bs.length) (bs ++ [b]) := by
  obtain ⟨hlt, hbits⟩ := h
  have hor : n + bitIf b bs.length = bitIf b bs.length ||| n := by
    rw [bitIf_eq_two_pow_mul, Nat.add_comm, Nat.two_pow_add_eq_or_of_lt hlt]
  refine ⟨?_, fun i => ?_⟩
  · have hmark : bitIf b bs.length ≤ 2 ^ bs.length := by cases b <;> simp [bitIf]
    rw [List.length_append, List.length_singleton, Nat.pow_succ]
    omega
  · rw [hor, Nat.testBit_or, bitIf_testBit, hbits]
    obtain hi | rfl | hi := Nat.lt_trichotomy i bs.length
    · rw [List.getD_append _ _ _ _ hi]
      simp [hi.ne']
    · simp
    · have hend : (bs ++ [b]).length ≤ i := by simpa using hi
      rw [List.getD_eq_default _ _ hend, List.getD_eq_default _ _ hi.le]
      simp [hi.ne]

theorem HoldsMarks.singleton (b : Bool) : HoldsMarks (bitIf b 0) [b] := by
  simpa using HoldsMarks.nil.append b

/-- The bits of the byte of a number that holds at most eight marks. -/
theorem HoldsMarks.getLsbD {n : Nat} {bs : List Bool} (h : HoldsMarks n bs) (hlen : bs.length ≤ 8) (i : Nat) :
    (BitVec.ofNat 8 n).getLsbD i = bs.getD i false := by
  obtain ⟨-, hbits⟩ := h
  rw [BitVec.getLsbD_ofNat, hbits i]
  by_cases hi : i < 8
  · simp [hi]
  · simp [hi, List.getElem?_eq_none (hlen.trans (Nat.not_lt.mp hi))]

/-- A channel's condition byte holds its six marks in the order of the table (R174, R176). -/
theorem ChanConditions.byte_getLsbD (k : ChanConditions) (i : Nat) :
    k.byte.getLsbD i = [k.diverged, k.starved, k.tone, k.clipped, k.overload, k.fault].getD i false :=
  (((((HoldsMarks.singleton k.diverged).append k.starved).append k.tone).append k.clipped).append
    k.overload).append k.fault |>.getLsbD (by simp) i

/-- The port source's condition byte holds SLIP and the two latched-low values (R174 to R176). -/
theorem Port.conditionByte_getLsbD (p : Port) (i : Nat) :
    p.conditionByte.getLsbD i = [p.slip, p.inSync, p.clockOk].getD i false :=
  (((HoldsMarks.singleton p.slip).append p.inSync).append p.clockOk).getLsbD (by simp) i

/-! ## READ-CONDITIONS by source -/

theorem exec_readConditions (tag source : Byte) (s : State) :
    exec (.readConditions tag source) s = .next (serve tag 0x21#8 (readConditionsRequest source) s) := by
  rfl

theorem readConditionsRequest_channel (c : Chan) (s : State) :
    readConditionsRequest (byteOf c.val) s =
      (s.setChan c { s.chan c with conditions := .clear }, .done [byteOf c.val, (s.chan c).conditions.byte]) := by
  simp only [readConditionsRequest, sourceOf_byteOf, State.onChan_eq_setChan]

theorem readConditionsRequest_port (s : State) :
    readConditionsRequest 0x40#8 s =
      ({ s with port := s.port.conditionsRead }, .done [0x40#8, s.port.conditionByte]) := by
  simp only [readConditionsRequest, sourceOf_port, State.onPort]

theorem readConditionsRequest_range {source : Byte} (s : State) (h : sourceOf source = none) :
    readConditionsRequest source s = (s, .refused .range) := by
  simp only [readConditionsRequest, h]

end Sys2Proof.Machine

namespace Sys2Proof

open Sys2Proof.Machine

/-! ## The statement -/

/-- Settles O38: the owner's answer for each source, with the reported byte read bit by bit. -/
theorem readConditionsReportsAndClears : Obligations.ReadConditionsReportsAndClears := by
  refine fun tag s hroom => ⟨fun c => ⟨(s.chan c).conditions.byte, ?_, ?_⟩, ⟨s.port.conditionByte, ?_, ?_⟩,
    fun source hhigh hport => ?_⟩
  · rw [exec_readConditions, serve_of_done tag _ hroom (readConditionsRequest_channel c s)]
    rfl
  · exact ⟨ChanConditions.byte_getLsbD _ 0, ChanConditions.byte_getLsbD _ 1, ChanConditions.byte_getLsbD _ 2,
      ChanConditions.byte_getLsbD _ 3, ChanConditions.byte_getLsbD _ 4, ChanConditions.byte_getLsbD _ 5,
      ChanConditions.byte_getLsbD _ 6, ChanConditions.byte_getLsbD _ 7⟩
  · rw [exec_readConditions, serve_of_done tag _ hroom (readConditionsRequest_port s)]
    rfl
  · refine ⟨Port.conditionByte_getLsbD _ 0, Port.conditionByte_getLsbD _ 1, Port.conditionByte_getLsbD _ 2,
      fun i hi => ?_⟩
    rw [Port.conditionByte_getLsbD]
    exact List.getD_eq_default _ _ hi
  · rw [exec_readConditions,
      serve_of_refused tag _ hroom (readConditionsRequest_range s (sourceOf_eq_none hhigh hport))]
    rfl

end Sys2Proof
end

section
/-!
PROOFS. The queue of commands, the idle bit clock, power-on reset, the receive framer and the end of a frame on TXD: what
a step runs, and what the rows that serve no request leave (R138, R143, R158, R161, R162, R169).
-/

namespace Sys2Proof.Machine

/-! ## A step -/

theorem step_of_pending {s : State} {i : Instr} {rest : List Instr} (h : s.pending = i :: rest) :
    step s = exec i (s.withPending rest) := by
  simp only [step, h]

theorem step_of_idle {s : State} (h : s.pending = []) : step s = .next (bitClock s) := by
  simp only [step, h]

theorem Port.clocked_iff (p : Port) : p.clocked = true ↔ p.runState = .run ∧ p.clock = .ok := by
  simp [Port.clocked]

theorem Port.countsOn_iff (p : Port) : p.countsOn = true ↔ p.mode = .master ∨ p.position.toNat < 255 := by
  simp [Port.countsOn]

theorem bitClock_eq (s : State) :
    bitClock s =
      if s.port.runState = .run ∧ s.port.clock = .ok ∧ (s.port.mode = .master ∨ s.port.position.toNat < 255) then
        s.onPort fun p => { p with position := p.position + 1#8 }
      else s := by
  simp only [bitClock, Bool.and_eq_true, Port.clocked_iff, Port.countsOn_iff, and_assoc]

/-! ## The receive framer -/

theorem exec_receivedByte (b : Byte) (framingError : Bool) (s : State) :
    exec (.receivedByte b framingError) s = .next (receiveByte b framingError s) := by
  rfl

theorem exec_gapTimeout (s : State) :
    exec .gapTimeout s =
      .next (if s.link.framer.gapTimerRuns then (s.onPort Port.countGapTimeout).withFramer .hunt else s) := by
  rfl

theorem receiveByte_of_hunt {s : State} (b : Byte) (framingError : Bool) (h : s.link.framer = .hunt) :
    receiveByte b framingError s = if b = 0xC5#8 ∧ ¬framingError then s.withFramer .length else s := by
  simp only [receiveByte, h]

theorem receiveByte_of_length {s : State} (b : Byte) (framingError : Bool) (h : s.link.framer = .length) :
    receiveByte b framingError s =
      if framingError then s.dropFrame
      else if 2 ≤ b.toNat ∧ b.toNat ≤ 200 then s.withFramer (.collect b.toNat [])
      else s.dropFrame := by
  simp only [receiveByte, h]

theorem receiveByte_of_collect {s : State} {len : Nat} {stored : List Byte} (b : Byte) (framingError : Bool)
    (h : s.link.framer = .collect len stored) :
    receiveByte b framingError s =
      if framingError then s.dropFrame
      else if stored.length + 1 < len + 2 then s.withFramer (.collect len (stored ++ [b]))
      else s.checkFrame len (stored ++ [b]) := by
  simp only [receiveByte, h]

/-- The bytes of a frame as the framer holds them once its last CRC byte has come. -/
theorem receiveByte_last {s : State} {tag kind high : Byte} {body : List Byte} (low : Byte)
    (h : s.link.framer = .collect (body.length + 2) (tag :: kind :: body ++ [high])) :
    receiveByte low false s = s.checkFrame (body.length + 2) (tag :: kind :: body ++ [high, low]) := by
  rw [receiveByte_of_collect low false h, if_neg (by simp), if_neg (by simp)]
  simp

/-- The last CRC byte (R160, R161): the frame's request arrives where the CRC matches, and it is dropped otherwise. -/
theorem checkFrame_eq (s : State) (tag kind high low : Byte) (body : List Byte) :
    s.checkFrame (body.length + 2) (tag :: kind :: body ++ [high, low]) =
      if crc (byteOf (body.length + 2) :: tag :: kind :: body) = high ++ low then
        requestArrival tag kind body (s.withFramer .hunt)
      else s.dropFrame := by
  have hcovered : (tag :: kind :: body ++ [high, low]).take (body.length + 2) = tag :: kind :: body :=
    List.take_left' (by simp)
  have hcrc : halfAt (tag :: kind :: body ++ [high, low]) (body.length + 2) = high ++ low := by
    simp [halfAt, byteAt]
  simp only [State.checkFrame, hcovered, hcrc]
  rfl

theorem Framer.gapTimerRuns_iff (f : Framer) : f.gapTimerRuns = true ↔ f ≠ .hunt := by
  cases f <;> simp [Framer.gapTimerRuns]

/-! ## Bits of a byte -/

theorem testBit_toNat (n i : Nat) : (n.testBit i).toNat = n / 2 ^ i % 2 := by
  rw [Nat.testBit_eq_decide_div_mod_eq]
  obtain h | h := Nat.mod_two_eq_zero_or_one (n / 2 ^ i) <;> simp [h]

/-- Eight bits, least significant first, as the line spells them. -/
theorem byteOnLine_getLsbD (b : Byte) (stop : Bool) :
    byteOnLine false (Vector.ofFn fun i : Fin 8 => b.getLsbD i.val) stop = some (.receivedByte b (!stop)) := by
  have hb := b.isLt
  have hvalue : (Vector.ofFn fun i : Fin 8 => b.getLsbD i.val).toList.foldr (fun b n => 2 * n + b.toNat) 0 = b.toNat := by
    rw [Vector.toList_ofFn]
    simp [List.ofFn_succ, BitVec.getLsbD, testBit_toNat, -Nat.testBit_zero]
    omega
  rw [byteOnLine, if_neg (by simp), hvalue, byteOf, BitVec.ofNat_toNat, BitVec.setWidth_eq]

/-! ## The transmitter -/

theorem exec_frameSent (s : State) :
    exec .frameSent s =
      .next (if s.link.tx = .idle then s else (s.onLink fun l => { l with tx := .idle }).arbitrate) := by
  rfl

theorem State.arbitrate_of_reply {s : State} {r : Record} {rs : List Record} (htx : s.link.tx = .idle)
    (h : s.link.replies = r :: rs) :
    s.arbitrate = s.onLink fun l => { l with replies := rs, tx := .reply r } := by
  simp only [State.arbitrate, htx, h]

theorem State.arbitrate_of_notice {s : State} {n : Notice} {ns : List Notice} (htx : s.link.tx = .idle)
    (hr : s.link.replies = []) (h : s.link.notices = n :: ns) :
    s.arbitrate = s.onLink fun l => { l with notices := ns, tx := .notice n (s.noticeRecord n) } := by
  simp only [State.arbitrate, htx, hr, h]

theorem State.arbitrate_of_empty {s : State} (hr : s.link.replies = []) (hn : s.link.notices = []) :
    s.arbitrate = s := by
  unfold State.arbitrate
  split
  · simp only [hr, hn]
  · rfl

theorem State.waiting_iff (s : State) (c : Chan) : s.waiting c = true ↔ ∃ e ∈ s.wait, e.chan = c := by
  simp [State.waiting]

/-- The snapshot of a source, with its codes spelled out (section 10.10.5). -/
theorem State.snapshot_eq_sourceBytes (s : State) (u : Source) : s.snapshot u = s.sourceBytes u := by
  cases u with
  | channel c =>
    simp only [State.snapshot, State.sourceBytes, yesNo, State.waiting_iff, State.heldCount, State.heldBlocks,
      beq_eq_decide, allBlocks]
    rfl
  | port => rfl

/-- Where every part has ten elements, element `10 i + j` of the parts in a row is element `j` of part `i`. -/
theorem getD_flatMap_ten {α β : Type} {f : α → List β} (hf : ∀ a, (f a).length = 10) (d : β) (l : List α) (i j : Nat)
    (hj : j < 10) (a : α) (h : l[i]? = some a) : (l.flatMap f).getD (10 * i + j) d = (f a).getD j d := by
  induction l generalizing i with
  | nil => simp at h
  | cons x xs ih =>
    rw [List.flatMap_cons]
    cases i with
    | zero =>
      obtain rfl : x = a := by simpa using h
      rw [Nat.mul_zero, Nat.zero_add, List.getD_append _ _ _ _ (by rw [hf]; exact hj)]
    | succ i =>
      rw [List.getD_append_right _ _ _ _ (by rw [hf]; omega), hf,
        show 10 * (i + 1) + j - 10 = 10 * i + j by omega]
      exact ih i (by simpa using h)

theorem lineLevels_length (b : Byte) : (lineLevels b).length = 10 := by
  simp [lineLevels]

theorem lineLevels_data (b : Byte) {j : Nat} (hj : j < 8) : (lineLevels b).getD (1 + j) true = b.getLsbD j := by
  simp [lineLevels, List.getElem?_append, hj, Nat.add_comm 1 j]

/-- The frame of a record on TXD, one bit time after another (R158, R159). -/
theorem txd_of_sending {tx : Transmitter} {n : Notice} {r : Record} (h : tx = .reply r ∨ tx = .notice n r) (k : Nat) :
    tx.txd k = ((wireBytes r).flatMap lineLevels).getD k true := by
  obtain rfl | rfl := h <;> rfl

theorem frameLevels_length (bytes : List Byte) : (bytes.flatMap lineLevels).length = 10 * bytes.length := by
  simp [List.length_flatMap, lineLevels_length, Nat.mul_comm]

end Sys2Proof.Machine

namespace Sys2Proof

open Sys2Proof.Machine

/-! ## The statements -/

/-- Settles O1: the step takes the command at the front. -/
theorem stepRunsFrontCommand : Obligations.StepRunsFrontCommand :=
  fun _ _ _ h => step_of_pending h

/-- Settles O2: the idle step is the bit clock, whose two conditions are spelled out. -/
theorem idleStepIsOneBitClock : Obligations.IdleStepIsOneBitClock := by
  intro s h
  rw [step_of_idle h, bitClock_eq]
  rfl

/-- Settles O3: the next state is the power-on state itself, read field by field. -/
theorem powerOnResetValues : Obligations.PowerOnResetValues := by
  intro br1 br0 s
  refine ⟨_, exec_powerOnReset br1 br0 s, ⟨rfl, rfl, rfl, rfl, rfl, fun q => ?_⟩, State.powerOn_chan (rateOf br1 br0), fun b => ?_, rfl, rfl,
    ?_, rfl, rfl⟩
  · exact Vector.getElem_replicate _
  · have hb := State.powerOn_block (rateOf br1 br0) b
    exact ⟨congrArg Block.condition hb, congrArg Block.altered hb⟩
  · cases br1 <;> cases br0 <;> rfl

/-- Settles O4: the framer's rows one by one, and the eight data bits of a byte on RXD. -/
theorem framerTakesBytesAndGaps : Obligations.FramerTakesBytesAndGaps := by
  intro s b
  refine ⟨fun h => ⟨?_, fun hb => ?_, ?_⟩, fun h => ⟨fun hlen => ?_, fun hlen => ?_, ?_⟩,
    fun len stored h => ⟨fun hmore => ?_, ?_⟩, fun tag kind high body _ h hcrc => ?_, fun h => ?_, fun h => ?_, fun stop => ?_⟩
  · rw [exec_receivedByte, receiveByte_of_hunt _ _ h]; rfl
  · rw [exec_receivedByte, receiveByte_of_hunt _ _ h, if_neg (fun h' => hb h'.1)]
  · rw [exec_receivedByte, receiveByte_of_hunt _ _ h, if_neg (by simp)]
  · rw [exec_receivedByte, receiveByte_of_length _ _ h, if_neg (by simp), if_pos hlen]; rfl
  · rw [exec_receivedByte, receiveByte_of_length _ _ h, if_neg (by simp), if_neg (by omega)]; rfl
  · rw [exec_receivedByte, receiveByte_of_length _ _ h, if_pos rfl]; rfl
  · rw [exec_receivedByte, receiveByte_of_collect _ _ h, if_neg (by simp), if_pos hmore]; rfl
  · rw [exec_receivedByte, receiveByte_of_collect _ _ h, if_pos rfl]; rfl
  · rw [exec_receivedByte, receiveByte_last _ h, checkFrame_eq, if_neg hcrc]; rfl
  · rw [exec_gapTimeout, if_pos ((Framer.gapTimerRuns_iff _).mpr h)]; rfl
  · rw [exec_gapTimeout, if_neg (by rw [Framer.gapTimerRuns_iff, h]; simp)]
  · rw [byteOnLine_getLsbD]
    cases stop <;> rfl

/-- Settles O8: the arbiter's three outcomes, and the frame's levels ten to a byte. -/
theorem frameSentBeginsTheNext : Obligations.FrameSentBeginsTheNext := by
  refine fun s => ⟨fun h => ?_, fun h => ⟨fun r rest hr => ?_, fun n rest hr hn => ?_, fun hr hn => ?_⟩, fun _ => rfl,
    fun n r tx htx => ⟨fun i b hb => ?_, fun k hk => ?_⟩⟩
  · rw [exec_frameSent, if_pos h]
  · rw [exec_frameSent, if_neg h, State.arbitrate_of_reply (r := r) (rs := rest) rfl (by exact hr)]; rfl
  · rw [exec_frameSent, if_neg h, State.arbitrate_of_notice (n := n) (ns := rest) rfl (by exact hr) (by exact hn),
      ← s.snapshot_eq_sourceBytes]
    rfl
  · rw [exec_frameSent, if_neg h, State.arbitrate_of_empty (by exact hr) (by exact hn)]; rfl
  · simp only [txd_of_sending htx]
    refine ⟨?_, fun j hj => ?_, ?_⟩
    · exact getD_flatMap_ten lineLevels_length true _ i 0 (by omega) b hb
    · rw [Nat.add_assoc, ← lineLevels_data b hj]
      exact getD_flatMap_ten lineLevels_length true _ i (1 + j) (by omega) b hb
    · exact getD_flatMap_ten lineLevels_length true _ i 9 (by omega) b hb
  · rw [txd_of_sending htx]
    exact List.getD_eq_default _ _ ((frameLevels_length _).trans_le hk)

end Sys2Proof
end

section
/-!
PROOFS. The requests whose owner writes one record: PORT-SET, PORT-HOLD, PORT-RUN, MAP-SET, MAP-CLEAR (R144, R145, R154,
R155), LAW-LOAD and LAW-COMMIT (R7, R9), FREEZE and THAW (R93), READ-COUNTERS (R177), READ-POOL (R75), SIG-START and
SIG-READ with the fold (R179 to R182); and what a notice event leaves (R170).
-/

namespace Sys2Proof.Machine

/-! ## The rows -/

theorem exec_portSet (tag mode offset edge : Byte) (s : State) :
    exec (.portSet tag mode offset edge) s = .next (serve tag 0x08#8 (portSetRequest mode offset edge) s) := by
  rfl

theorem exec_portHold (tag : Byte) (s : State) :
    exec (.portHold tag) s = .next (serve tag 0x09#8 portHoldRequest s) := by
  rfl

theorem exec_portRun (tag : Byte) (s : State) :
    exec (.portRun tag) s = .next (serve tag 0x0A#8 portRunRequest s) := by
  rfl

theorem exec_mapSet (tag highway slot channel : Byte) (s : State) :
    exec (.mapSet tag highway slot channel) s = .next (serve tag 0x0B#8 (mapSetRequest highway slot channel) s) := by
  rfl

theorem exec_mapClear (tag highway slot : Byte) (s : State) :
    exec (.mapClear tag highway slot) s = .next (serve tag 0x0C#8 (mapClearRequest highway slot) s) := by
  rfl

theorem exec_lawLoad (tag table quarter : Byte) (entries : List Half) (s : State) :
    exec (.lawLoad tag table quarter entries) s = .next (serve tag 0x10#8 (lawLoadRequest table quarter entries) s) := by
  rfl

theorem exec_freeze (tag channel : Byte) (s : State) :
    exec (.freeze tag channel) s = .next (serve tag 0x1D#8 (frozenRequest channel true) s) := by
  rfl

theorem exec_thaw (tag channel : Byte) (s : State) :
    exec (.thaw tag channel) s = .next (serve tag 0x1E#8 (frozenRequest channel false) s) := by
  rfl

theorem exec_readCounters (tag source : Byte) (s : State) :
    exec (.readCounters tag source) s = .next (serve tag 0x22#8 (readCountersRequest source) s) := by
  rfl

theorem exec_readPool (tag start : Byte) (s : State) :
    exec (.readPool tag start) s = .next (serve tag 0x24#8 (readPoolRequest start) s) := by
  rfl

theorem exec_sigStart (tag channel stream : Byte) (count : Half) (s : State) :
    exec (.sigStart tag channel stream count) s = .next (serve tag 0x30#8 (sigStartRequest channel stream count) s) := by
  rfl

theorem exec_sigRead (tag : Byte) (s : State) : exec (.sigRead tag) s = .next (serve tag 0x31#8 sigReadRequest s) := by
  rfl

theorem exec_signatureDone (s : State) : exec .signatureDone s = .next s.completeSignature := by
  rfl

/-! ## Operand codes -/

theorem modeOf_modeCode (m : PortMode) : modeOf (modeCode m) = some m := by
  cases m <;> rfl

theorem edgeOf_edgeCode (e : Edge) : edgeOf (edgeCode e) = some e := by
  cases e <;> rfl

/-- A byte above 1 is neither 0 nor 1, the two codes of a two-valued field. -/
theorem Byte.ne_zero_and_ne_one {b : Byte} (h : 1 < b.toNat) : b ≠ 0x00#8 ∧ b ≠ 0x01#8 := by
  constructor <;> rintro rfl <;> exact absurd h (by decide)

theorem modeOf_eq_none {b : Byte} (h : 1 < b.toNat) : modeOf b = none := by
  simp [modeOf, Byte.ne_zero_and_ne_one h]

theorem edgeOf_eq_none {b : Byte} (h : 1 < b.toNat) : edgeOf b = none := by
  simp [edgeOf, Byte.ne_zero_and_ne_one h]

theorem highwayOf_eq_none {b : Byte} (h : 1 < b.toNat) : highwayOf b = none := by
  simp [highwayOf, Byte.ne_zero_and_ne_one h]

theorem streamOf_eq_none {b : Byte} (h : 1 < b.toNat) : streamOf b = none := by
  simp [streamOf, Byte.ne_zero_and_ne_one h]

/-- The code of a highway. -/
def highwayCode (h : Highway) : Byte := if h = .line then 0x00#8 else 0x01#8

theorem highwayOf_highwayCode (h : Highway) : highwayOf (highwayCode h) = some h := by
  cases h <;> rfl

theorem streamOf_streamCode (st : SigStream) : streamOf (streamCode st) = some st := by
  cases st <;> rfl

theorem streamCode_eq (st : SigStream) : streamCode st = if st = .sout then 0x00#8 else 0x01#8 := by
  cases st <;> rfl

theorem quarterOf_byteOf (q : Fin 4) : quarterOf (byteOf q.val) = some q := by
  revert q; decide

theorem quarterOf_eq_none {b : Byte} (h : 3 < b.toNat) : quarterOf b = none := by
  simp [quarterOf]; omega

/-! ## The port's requests -/

theorem portSetRequest_hold (m : PortMode) (offset : Byte) (e : Edge) {s : State} (h : s.port.runState = .hold) :
    portSetRequest (modeCode m) offset (edgeCode e) s =
      (let set : State :=
          { s with
            port :=
              { s.port with
                mode := m, offset := offset, edge := e, sync := if m = .master then .locked else s.port.sync } }
        if m = .master ∧ s.port.sync = .lost then set.raiseNotice .port .sync else set,
        .done [modeCode m, offset, edgeCode e]) := by
  have hrun : s.port.runState ≠ .run := by simp [h]
  simp only [portSetRequest, modeOf_modeCode, edgeOf_edgeCode, if_neg hrun]
  by_cases hlost : m = .master ∧ s.port.sync = .lost
  · simp only [if_pos hlost, State.portNotice_eq_raiseNotice, State.raiseNotice_port]
    rw [hlost.1]
    rfl
  · have hsync : (if m = .master then SyncState.locked else s.port.sync) = s.port.sync := by
      cases hm : m <;> cases hs : s.port.sync <;> simp_all
    simp only [if_neg hlost, hsync]
    rfl

theorem portSetRequest_run (m : PortMode) (offset : Byte) (e : Edge) {s : State} (h : s.port.runState = .run) :
    portSetRequest (modeCode m) offset (edgeCode e) s = (s, .refused .state) := by
  simp only [portSetRequest, modeOf_modeCode, edgeOf_edgeCode, h, if_true]

theorem portSetRequest_range {mode edge : Byte} (offset : Byte) (s : State) (h : 1 < mode.toNat ∨ 1 < edge.toNat) :
    portSetRequest mode offset edge s = (s, .refused .range) := by
  obtain h | h := h
  · simp [portSetRequest, modeOf_eq_none h]
  · simp [portSetRequest, edgeOf_eq_none h]

/-- The dropped-frame count after a cut, told by whether a frame was in progress (R145, R148). -/
theorem Port.cutFrame_eq (p : Port) :
    p.cutFrame =
      { p with
        frame := none, lout := none, xout := none
        dropped := if p.frame = none then p.dropped else p.dropped + 1#32 } := by
  unfold Port.cutFrame
  cases p.frame <;> simp

/-- The map of a highway, by the highway's name. -/
theorem Port.mapOf_eq (p : Port) (h : Highway) :
    p.mapOf h = if h = .line then p.lineMap else p.exchangeMap := by
  cases h <;> rfl

/-- One entry written, by the highway's name. -/
theorem Port.setEntry_eq (p : Port) (h : Highway) (n : Slot) (entry : Option Chan) :
    p.setEntry h n entry =
      if h = .line then { p with lineMap := p.lineMap.set n.val entry }
      else { p with exchangeMap := p.exchangeMap.set n.val entry } := by
  cases h <;> rfl

/-- MAP-SET of codes in range, its checks in order (R154). -/
theorem mapSetRequest_eq (h : Highway) (n : Slot) (c : Chan) (s : State) :
    mapSetRequest (highwayCode h) (byteOf n.val) (byteOf c.val) s =
      (if (s.port.mapOf h)[n.val] = some c then (s, .done [highwayCode h, byteOf n.val, byteOf c.val])
      else if (s.chan c).life ≠ .closed then (s, .refused .state)
      else if (s.port.mapOf h)[n.val] ≠ none ∨ ∃ k : Slot, (s.port.mapOf h)[k.val] = some c then (s, .refused .map)
      else (s.onPort fun p => p.setEntry h n (some c), .done [highwayCode h, byteOf n.val, byteOf c.val])) := by
  have hslot : slotOf (s.port.mapOf h) c ≠ none ↔ ∃ k : Slot, (s.port.mapOf h)[k.val] = some c := by
    rw [ne_eq, slotOf_eq_none]
    push Not
    rfl
  simp only [mapSetRequest, highwayOf_highwayCode, posOf_byteOf, chanOf_byteOf, hslot]
  by_cases hentry : (s.port.mapOf h)[n.val] = none <;> simp [hentry]

/-- MAP-CLEAR of codes in range (R155). -/
theorem mapClearRequest_eq (h : Highway) (n : Slot) (s : State) :
    mapClearRequest (highwayCode h) (byteOf n.val) s =
      (match (s.port.mapOf h)[n.val] with
      | none => (s, .done [highwayCode h, byteOf n.val])
      | some c =>
        if (s.chan c).life ≠ .closed then (s, .refused .state)
        else (s.onPort fun p => p.setEntry h n none, .done [highwayCode h, byteOf n.val])) := by
  simp only [mapClearRequest, highwayOf_highwayCode, posOf_byteOf] <;> rfl

theorem mapSetRequest_range {highway slot channel : Byte} (s : State)
    (h : 1 < highway.toNat ∨ 31 < slot.toNat ∨ 31 < channel.toNat) :
    mapSetRequest highway slot channel s = (s, .refused .range) := by
  unfold mapSetRequest
  split
  · next hh hp hc =>
    obtain h | h | h := h
    · simp [highwayOf_eq_none h] at hh
    · simp [posOf_eq_none h] at hp
    · simp [chanOf_eq_none h] at hc
  · rfl

theorem mapClearRequest_range {highway slot : Byte} (s : State) (h : 1 < highway.toNat ∨ 31 < slot.toNat) :
    mapClearRequest highway slot s = (s, .refused .range) := by
  unfold mapClearRequest
  split
  · next hh hp =>
    obtain h | h := h
    · simp [highwayOf_eq_none h] at hh
    · simp [posOf_eq_none h] at hp
  · rfl

/-! ## The law store -/

theorem LoadBuffer.store_target (b : LoadBuffer) (t : TableName) (q : Fin 4) (entries : List Int) :
    (b.store t q entries).target = some t := rfl

theorem LoadBuffer.store_self (b : LoadBuffer) (t : TableName) (q : Fin 4) (entries : List Int) :
    (b.store t q entries).quarters[q.val] = some entries := by
  simp [LoadBuffer.store]

theorem LoadBuffer.store_other (b : LoadBuffer) (t : TableName) {q k : Fin 4} (entries : List Int) (h : k ≠ q) :
    (b.store t q entries).quarters[k.val] = if b.target = some t then b.quarters[k.val] else none := by
  have hval : q.val ≠ k.val := fun e => h (Fin.ext e.symm)
  simp only [LoadBuffer.store, Vector.getElem_set_ne _ _ hval]
  split
  · rfl
  · exact Vector.getElem_replicate _

/-- The quarter set holds one mark for each quarter. -/
theorem LoadBuffer.quarterSet_marks (b : LoadBuffer) :
    HoldsMarks (bitIf b.quarters[0].isSome 0 + bitIf b.quarters[1].isSome 1 + bitIf b.quarters[2].isSome 2
      + bitIf b.quarters[3].isSome 3)
      [b.quarters[0].isSome, b.quarters[1].isSome, b.quarters[2].isSome, b.quarters[3].isSome] :=
  (((HoldsMarks.singleton _).append _).append _).append _

theorem LoadBuffer.quarterSet_lt (b : LoadBuffer) : b.quarterSet.toNat < 16 := by
  obtain ⟨hlt, -⟩ := b.quarterSet_marks
  rw [LoadBuffer.quarterSet, byteOf, BitVec.toNat_ofNat]
  exact (Nat.mod_le _ _).trans_lt hlt

theorem LoadBuffer.quarterSet_getLsbD (b : LoadBuffer) (k : Fin 4) :
    b.quarterSet.getLsbD k.val = b.quarters[k.val].isSome := by
  rw [LoadBuffer.quarterSet, byteOf, b.quarterSet_marks.getLsbD (by simp)]
  fin_cases k <;> rfl

theorem lawLoadRequest_store {entries : List Half} (t : TableName) (q : Fin 4) (s : State) (hlen : entries.length = 64)
    (hin : ∀ e ∈ entries, -32767 ≤ e.toInt ∧ e.toInt ≤ 32767) :
    lawLoadRequest (tableCode (some t)) (byteOf q.val) entries s =
      (s.onLaw fun l => { l with buffer := s.law.buffer.store t q (entries.map BitVec.toInt) },
        .done [tableCode (some t), (s.law.buffer.store t q (entries.map BitVec.toInt)).quarterSet]) := by
  have hall : ((entries.map BitVec.toInt).all fun v => decide (-32767 ≤ v ∧ v ≤ 32767)) = true := by
    simpa using hin
  simp only [lawLoadRequest, hlen, tableOf_tableCode, quarterOf_byteOf, hall, LoadBuffer.store_target]
  rfl

theorem lawLoadRequest_range {table quarter : Byte} {entries : List Half} (s : State) (hlen : entries.length = 64)
    (h : 1 < table.toNat ∨ 3 < quarter.toNat ∨ ∃ e ∈ entries, e.toInt < -32767 ∨ 32767 < e.toInt) :
    lawLoadRequest table quarter entries s = (s, .refused .range) := by
  simp only [lawLoadRequest, hlen, ne_eq, not_true_eq_false, if_false]
  split
  · next ht hq =>
    obtain h | h | ⟨e, he, hout⟩ := h
    · simp [tableOf_eq_none h] at ht
    · simp [quarterOf_eq_none h] at hq
    · refine if_neg fun hall => ?_
      have := List.all_eq_true.mp hall _ (List.mem_map_of_mem he)
      simp only [decide_eq_true_eq] at this
      omega
  · rfl

theorem lawCommitRequest_done {s : State} {t : TableName} {q0 q1 q2 q3 : List Int}
    (hbuf : s.law.buffer = { target := some t, quarters := #v[some q0, some q1, some q2, some q3] })
    (hnodup : (q0 ++ q1 ++ q2 ++ q3).Nodup) :
    lawCommitRequest (tableCode (some t)) s =
      (s.onLaw fun l => { l.setTable t (LawTable.committed (q0 ++ q1 ++ q2 ++ q3)) with buffer := .empty },
        .done (tableCode (some t) :: (LawTable.committed (q0 ++ q1 ++ q2 ++ q3)).idle.toList)) := by
  have htarget : s.law.buffer.target = some t := by rw [hbuf]
  have hcomplete : s.law.buffer.complete = some (q0 ++ q1 ++ q2 ++ q3) :=
    LoadBuffer.complete_eq_some (by rw [hbuf])
  simp only [lawCommitRequest, tableOf_tableCode, htarget, hcomplete, if_pos hnodup, ne_eq, not_true_eq_false, if_false]

theorem LawStore.setTable_eq (l : LawStore) (t : TableName) (k : LawTable) :
    l.setTable t k =
      { a := if t = .a then k else l.a, b := if t = .b then k else l.b, buffer := l.buffer } := by
  cases t <;> rfl

/-! ## FREEZE and THAW -/

theorem frozenRequest_range {channel : Byte} (want : Bool) (s : State) (h : 31 < channel.toNat) :
    frozenRequest channel want s = (s, .refused .range) := by
  simp only [frozenRequest, chanOf_eq_none h]

theorem frozenRequest_closed {c : Chan} (want : Bool) {s : State} (h : (s.chan c).life = .closed) :
    frozenRequest (byteOf c.val) want s = (s, .refused .state) := by
  simp only [frozenRequest, chanOf_byteOf, h, if_true]

theorem frozenRequest_open {c : Chan} (want : Bool) {s : State} (h : (s.chan c).life ≠ .closed) :
    frozenRequest (byteOf c.val) want s =
      (if (s.chan c).frozen = want then s
        else (s.setChan c { s.chan c with frozen := want }).raiseNotice (.channel c) .mode,
        .done [byteOf c.val, yesNo want]) := by
  simp only [frozenRequest, chanOf_byteOf, if_neg h]
  split <;> rfl

/-! ## READ-COUNTERS -/

theorem readCountersRequest_channel (c : Chan) (s : State) :
    readCountersRequest (byteOf c.val) s =
      (s.setChan c { s.chan c with counters := .zero }, .done (byteOf c.val :: (s.chan c).counters.bytes)) := by
  simp only [readCountersRequest, sourceOf_byteOf, State.onChan_eq_setChan]

theorem readCountersRequest_port (s : State) :
    readCountersRequest 0x40#8 s =
      ({ s with port := s.port.countersRead }, .done (0x40#8 :: s.port.counterBytes)) := by
  simp only [readCountersRequest, sourceOf_port, State.onPort]

theorem readCountersRequest_range {source : Byte} (s : State) (h : sourceOf source = none) :
    readCountersRequest source s = (s, .refused .range) := by
  simp only [readCountersRequest, h]

/-! ## READ-POOL -/

/-- A held block counts for one channel. -/
theorem holders_of_held :
    ∀ d : Chan, ((List.finRange 32).map fun c : Chan => if BlockCondition.held d = .held c then 1 else 0).sum = 1 := by
  decide

/-- Every block of a list is free, retired, or held by one channel, so the counts of the three kinds add up (R63, R75). -/
theorem blockCounts_add_up (cond : BlockNo → BlockCondition) (bs : List BlockNo) :
    (bs.filter fun b => cond b = .free).length
      + ((List.finRange 32).map fun c => (bs.filter fun b => cond b = .held c).length).sum
      + (bs.filter fun b => cond b = .retired).length = bs.length := by
  induction bs with
  | nil => simp
  | cons b bs ih =>
    have hsum : ∀ c : Chan, (((b :: bs).filter fun b => cond b = .held c).length
        = (bs.filter fun b => cond b = .held c).length + if cond b = .held c then 1 else 0) := by
      intro c
      rw [List.filter_cons]
      by_cases h : cond b = .held c <;> simp [h]
    simp only [hsum, List.sum_map_add]
    cases hb : cond b with
    | free => simp [hb]; omega
    | retired => simp [hb]; omega
    | held d =>
      simp only [List.filter_cons, hb, holders_of_held d, reduceCtorEq, decide_false, Bool.false_eq_true, if_false, List.length_cons]
      omega

theorem readPoolRequest_report {start : Byte} {s : State} (h : start.toNat ≤ 159) :
    readPoolRequest start s =
      (s, .done ([byteOf s.freeBlocks.length, byteOf s.heldTotal, byteOf s.retiredCount, byteOf s.wait.length, start]
        ++ ((s.wait.drop start.toNat).take 80).flatMap waitEntryBytes
        ++ allChans.map fun c => byteOf (s.heldCount c))) :=
  if_neg (Nat.not_lt.mpr h)

theorem readPoolRequest_range {start : Byte} (s : State) (h : 159 < start.toNat) :
    readPoolRequest start s = (s, .refused .range) :=
  if_pos h

/-! ## The signature -/

theorem sigStartRequest_eq (c : Chan) (st : SigStream) {count : Half} (hcount : count ≠ 0#16) (s : State) :
    sigStartRequest (byteOf c.val) (streamCode st) count s =
      if s.sig.state = .running then (s, .refused .busy)
      else if (s.chan c).life ≠ .active then (s, .refused .state)
      else
        (s.onSig fun _ => { state := .running, channel := c, stream := st, remaining := count.toNat, value := 0 },
          .done ([byteOf c.val, streamCode st] ++ be16 count.toNat)) := by
  simp only [sigStartRequest, chanOf_byteOf, streamOf_streamCode, if_neg hcount]

theorem sigStartRequest_range {channel stream : Byte} {count : Half} (s : State)
    (h : 31 < channel.toNat ∨ 1 < stream.toNat ∨ count = 0#16) :
    sigStartRequest channel stream count s = (s, .refused .range) := by
  unfold sigStartRequest
  split
  · next hc hst =>
    obtain h | h | h := h
    · simp [chanOf_eq_none h] at hc
    · simp [streamOf_eq_none h] at hst
    · exact if_pos h
  · rfl

theorem sigReadRequest_report (s : State) :
    sigReadRequest s = (s, .done
      ([sigStateCode s.sig.state, byteOf s.sig.channel.val, if s.sig.stream = .sout then 0x00#8 else 0x01#8]
        ++ be16 s.sig.remaining ++ if s.sig.state = .done then be16 s.sig.value else [])) := by
  simp only [sigReadRequest, streamCode_eq]

theorem State.completeSignature_of_over {s : State} (hrun : s.sig.state = .running) (h : s.sig.remaining = 0) :
    s.completeSignature = ({ s with sig := { s.sig with state := .done } } : State).raiseNotice .port .signature := by
  rw [State.completeSignature, if_pos ⟨hrun, h⟩]
  rfl

theorem State.completeSignature_of_left {s : State} (h : s.sig.remaining ≠ 0) : s.completeSignature = s :=
  if_neg fun h' => h h'.2

/-! ## A notice event -/

/-- A notice event that passes joins the queue, and the arbiter acts. -/
theorem State.raiseNotice_passed {s : State} {u : Source} {k : NoticeKind} (hon : s.link.enable = true)
    (hmask : (s.maskOf u).getLsbD (maskBit k) = true) :
    s.raiseNotice u k = (s.onLink fun l => { l with notices := queueNotice u k l.notices }).arbitrate := by
  simp [State.raiseNotice, hon, hmask]

/-- A notice of another source or kind is not the one an event coalesces with. -/
theorem queueNotice_map_of_ne {u : Source} {k : NoticeKind} {q : List Notice}
    (h : ∀ m ∈ q, m.source ≠ u ∨ m.kind ≠ k) :
    (q.map fun n => if n.source == u && n.kind == k then { n with count := bump n.count } else n) = q := by
  refine (List.map_congr_left fun m hm => ?_).trans (List.map_id q)
  have : ¬(m.source = u ∧ m.kind = k) := fun h' => (h m hm).elim (fun hn => hn h'.1) fun hn => hn h'.2
  exact if_neg (by simpa using this)

/-- With one notice of the source and kind queued, the event adds to its count (R170). -/
theorem queueNotice_coalesce {u : Source} {k : NoticeKind} {before after : List Notice} {n : Nat}
    (h : ((before ++ { source := u, kind := k, count := n } :: after).map fun m => (m.source, m.kind)).Nodup) :
    queueNotice u k (before ++ { source := u, kind := k, count := n } :: after) =
      before ++ { source := u, kind := k, count := bump n } :: after := by
  have hsplit := h
  rw [List.map_append, List.map_cons, List.nodup_append] at hsplit
  obtain ⟨-, hcons, hdisjoint⟩ := hsplit
  have hbefore : ∀ m ∈ before, m.source ≠ u ∨ m.kind ≠ k := by
    intro m hm
    by_contra hsame
    push Not at hsame
    exact hdisjoint (m.source, m.kind) (List.mem_map_of_mem hm) (u, k) List.mem_cons_self (by rw [hsame.1, hsame.2])
  have hafter : ∀ m ∈ after, m.source ≠ u ∨ m.kind ≠ k := by
    intro m hm
    by_contra hsame
    push Not at hsame
    refine (List.nodup_cons.mp hcons).1 (List.mem_map.mpr ⟨m, hm, ?_⟩)
    rw [hsame.1, hsame.2]
  rw [queueNotice, if_pos (by simp), List.map_append, List.map_cons, queueNotice_map_of_ne hbefore,
    queueNotice_map_of_ne hafter]
  simp

/-- With none of the source and kind queued, the event joins the tail (R170). -/
theorem queueNotice_join {u : Source} {k : NoticeKind} {q : List Notice}
    (h : ∀ m ∈ q, m.source ≠ u ∨ m.kind ≠ k) :
    queueNotice u k q = q ++ [{ source := u, kind := k, count := 1 }] := by
  refine if_neg ?_
  simp only [List.any_eq_true, Bool.and_eq_true, beq_iff_eq, not_exists]
  rintro m ⟨hm, hsame⟩
  exact (h m hm).elim (fun hn => hn hsame.1) fun hn => hn hsame.2

end Sys2Proof.Machine

namespace Sys2Proof

open Sys2Proof.Machine

/-! ## The statements -/

/-- Settles O13: by the run state, and by what the two codes name. -/
theorem portSetReplacesConfiguration : Obligations.PortSetReplacesConfiguration := by
  refine fun tag offset s hroom => ⟨fun m e => ⟨fun h => ?_, fun h => ?_⟩, fun mode edge h => ?_⟩
  · rw [exec_portSet, serve_of_done tag _ hroom (portSetRequest_hold m offset e h)]
  · rw [exec_portSet, serve_of_refused tag _ hroom (portSetRequest_run m offset e h)]
    rfl
  · rw [exec_portSet, serve_of_refused tag _ hroom (portSetRequest_range offset s h)]
    rfl

/-- Settles O14: by the run state and, for PORT-RUN, the clock. -/
theorem portHoldAndRun : Obligations.PortHoldAndRun := by
  refine fun tag s hroom => ⟨fun h => ⟨?_, ?_⟩, fun h => ⟨?_, fun hclock => ?_, fun hclock => ?_⟩⟩
  · rw [exec_portHold, serve_of_done tag _ hroom (if_pos h), State.stopFraming, Port.cutFrame_eq]
    rfl
  · rw [exec_portRun, serve_of_done tag _ hroom (if_pos h)]
    rfl
  · rw [exec_portHold, serve_of_done tag _ hroom (if_neg (by simp [h]))]
    rfl
  · rw [exec_portRun, serve_of_done tag _ hroom ((if_neg (by simp [h])).trans (if_pos hclock))]
    rfl
  · rw [exec_portRun, serve_of_done tag _ hroom ((if_neg (by simp [h])).trans (if_neg (by simp [hclock])))]
    rfl

/-- Settles O15: by the entry named, the channel's life state and the other slots of the highway. -/
theorem mapRequestsWriteOneEntry : Obligations.MapRequestsWriteOneEntry := by
  intro tag h n c s hroom
  simp only [← Port.mapOf_eq, ← Port.setEntry_eq]
  have hset := mapSetRequest_eq h n c s
  have hclear := mapClearRequest_eq h n s
  refine ⟨fun hentry => ?_, fun hentry hlife => ?_, fun hentry hlife htaken => ?_, fun hentry hlife hnone => ?_,
    fun hentry => ?_, fun hentry hlife => ?_, fun hentry hlife => ?_, fun highway slot channel => ⟨fun hbad => ?_, fun hbad => ?_⟩⟩
  · rw [if_pos hentry] at hset
    exact (exec_mapSet ..).trans (congrArg _ (serve_of_done tag _ hroom hset))
  · rw [if_neg hentry, if_pos hlife] at hset
    exact (exec_mapSet ..).trans (congrArg _ (serve_of_refused tag _ hroom hset))
  · rw [if_neg hentry, if_neg (not_not.mpr hlife), if_pos htaken] at hset
    exact (exec_mapSet ..).trans (congrArg _ (serve_of_refused tag _ hroom hset))
  · rw [if_neg (by simp [hentry]), if_neg (not_not.mpr hlife), if_neg (by simp [hentry, hnone])] at hset
    exact (exec_mapSet ..).trans (congrArg _ (serve_of_done tag _ hroom hset))
  · simp only [hentry] at hclear
    exact (exec_mapClear ..).trans (congrArg _ (serve_of_done tag _ hroom hclear))
  · simp only [hentry, if_neg (not_not.mpr hlife)] at hclear
    exact (exec_mapClear ..).trans (congrArg _ (serve_of_done tag _ hroom hclear))
  · simp only [hentry, if_pos hlife] at hclear
    exact (exec_mapClear ..).trans (congrArg _ (serve_of_refused tag _ hroom hclear))
  · exact (exec_mapSet ..).trans (congrArg _ (serve_of_refused tag _ hroom (mapSetRequest_range s hbad)))
  · exact (exec_mapClear ..).trans (congrArg _ (serve_of_refused tag _ hroom (mapClearRequest_range s hbad)))

/-- Settles O22: the buffer's `store` gives the quarters, and the quarter set is a byte of four marks. -/
theorem lawLoadStoresOneQuarter : Obligations.LawLoadStoresOneQuarter := by
  refine fun tag entries s hroom hlen => ⟨fun t q hin => ?_, fun table quarter hbad => ?_⟩
  · let stored := s.law.buffer.store t q (entries.map BitVec.toInt)
    refine ⟨stored.quarters, stored.quarterSet, ?_, LoadBuffer.store_self _ _ _ _, fun k hk => LoadBuffer.store_other _ _ _ hk,
      stored.quarterSet_lt, stored.quarterSet_getLsbD⟩
    rw [exec_lawLoad, serve_of_done tag _ hroom (lawLoadRequest_store t q s hlen hin)]
    rfl
  · rw [exec_lawLoad, serve_of_refused tag _ hroom (lawLoadRequest_range s hlen hbad)]
    rfl

/-- Settles O23: a complete buffer of distinct entries for the table named is committed. -/
theorem lawCommitReplacesTheTable : Obligations.LawCommitReplacesTheTable := by
  intro tag t q0 q1 q2 q3 s hroom hbuf hnodup idle hidle
  rw [exec_lawCommit, serve_of_done tag _ hroom (lawCommitRequest_done hbuf hnodup), State.onLaw, LawStore.setTable_eq, hidle]
  rfl

/-- Settles O36: by the life state and whether the flag changes. -/
theorem freezeAndThaw : Obligations.FreezeAndThaw := by
  refine fun tag s hroom => ⟨fun c h => ⟨?_, ?_⟩, fun c h => ⟨?_, ?_⟩, fun channel h => ⟨?_, ?_⟩⟩
  · rw [exec_freeze, serve_of_done tag _ hroom (frozenRequest_open true h)]
    rfl
  · rw [exec_thaw, serve_of_done tag _ hroom (frozenRequest_open false h)]
    cases (s.chan c).frozen <;> rfl
  · rw [exec_freeze, serve_of_refused tag _ hroom (frozenRequest_closed true h)]
    rfl
  · rw [exec_thaw, serve_of_refused tag _ hroom (frozenRequest_closed false h)]
    rfl
  · rw [exec_freeze, serve_of_refused tag _ hroom (frozenRequest_range true s h)]
    rfl
  · rw [exec_thaw, serve_of_refused tag _ hroom (frozenRequest_range false s h)]
    rfl

/-- Settles O39: by the source named, and by the reply queue's room. -/
theorem readCountersReportsAndClears : Obligations.ReadCountersReportsAndClears := by
  refine fun tag s => ⟨fun hroom => ⟨fun c => ?_, ?_, fun source hhigh hport => ?_⟩, fun hfull source => ?_⟩
  · rw [exec_readCounters, serve_of_done tag _ hroom (readCountersRequest_channel c s)]
    rfl
  · rw [exec_readCounters, serve_of_done tag _ hroom (readCountersRequest_port s)]
    rfl
  · rw [exec_readCounters, serve_of_refused tag _ hroom (readCountersRequest_range s (sourceOf_eq_none hhigh hport))]
    rfl
  · rw [exec_readCounters, serve_of_full s tag _ _ hfull]
    rfl

/-- Settles O41: the owner only reports, and the three counts add up over the 192 blocks. -/
theorem readPoolReportsThePool : Obligations.ReadPoolReportsThePool := by
  refine fun tag start s hroom => ⟨fun hstart => ?_, fun hstart => ?_⟩
  · have hsum := blockCounts_add_up (fun b => (s.block b).condition) allBlocks
    have hfree : s.freeBlocks = allBlocks.filter fun b => (s.block b).condition = .free := by
      simp only [State.freeBlocks, beq_eq_decide]
    have hheld : ∀ c, s.heldBlocks c = allBlocks.filter fun b => (s.block b).condition = .held c := by
      simp only [State.heldBlocks, beq_eq_decide, implies_true]
    have hretired : s.retiredCount = (allBlocks.filter fun b => (s.block b).condition = .retired).length := by
      simp only [State.retiredCount, beq_eq_decide]
    have hall : allBlocks.length = 192 := List.length_finRange
    rw [← hfree, ← hretired, hall] at hsum
    simp only [allBlocks] at hsum
    refine ⟨s.freeBlocks.length, s.heldTotal, s.retiredCount, ?_, congrArg _ hfree, hretired, ?_, ?_⟩
    · rw [exec_readPool, serve_of_report tag _ hroom (readPoolRequest_report hstart)]
      simp only [State.heldCount, hheld]
      rfl
    · rw [State.heldTotal]
      omega
    · rw [State.heldTotal]
      omega
  · rw [exec_readPool, serve_of_refused tag _ hroom (readPoolRequest_range s hstart)]
    rfl

/-- Settles O43: the owner only reports the record. -/
theorem sigReadReportsTheRecord : Obligations.SigReadReportsTheRecord := by
  intro tag s hroom
  rw [exec_sigRead, serve_of_report tag _ hroom (sigReadRequest_report s)]

/-- Settles O42: SIG-START by its checks in order, the fold by whether the slot is the watched one and by what is left. -/
theorem signatureStartsAndFolds : Obligations.SignatureStartsAndFolds := by
  refine ⟨fun tag s hroom => ⟨fun c st count hcount => ?_, fun channel stream count hbad => ?_⟩,
    fun s c st fresh code => ⟨fun hno => if_neg hno, fun hw hleft => ?_, fun hw hleft => ?_⟩, fun s hrun hleft => ?_⟩
  · have hstart := sigStartRequest_eq c st hcount s
    rw [streamCode_eq] at hstart
    refine ⟨fun hidle hactive => ?_, fun hrun => ?_, fun hidle hlife => ?_⟩
    · rw [if_neg hidle, if_neg (not_not.mpr hactive)] at hstart
      exact (exec_sigStart ..).trans (congrArg _ (serve_of_done tag _ hroom hstart))
    · rw [if_pos hrun] at hstart
      exact (exec_sigStart ..).trans (congrArg _ (serve_of_refused tag _ hroom hstart))
    · rw [if_neg hidle, if_pos hlife] at hstart
      exact (exec_sigStart ..).trans (congrArg _ (serve_of_refused tag _ hroom hstart))
  · rw [exec_sigStart, serve_of_refused tag _ hroom (sigStartRequest_range s hbad)]
    rfl
  · rw [State.watchSlot, if_pos hw, State.completeSignature_of_left (by exact Nat.sub_ne_zero_of_lt hleft)]
    rfl
  · rw [State.watchSlot, if_pos hw, State.completeSignature_of_over (by exact hw.1) (by exact Nat.sub_eq_zero_of_le hleft.le)]
    rfl
  · rw [exec_signatureDone, State.completeSignature_of_over hrun hleft]

/-- Settles O9: by whether the event passes, and by what the transmitter and the queue hold. -/
theorem noticeEventQueuesOrCoalesces : Obligations.NoticeEventQueuesOrCoalesces := by
  refine fun s u k => ⟨fun hstop => s.raiseNotice_stopped u k (Bool.and_eq_false_iff.mpr hstop), fun hon hmask => ?_⟩
  rw [State.raiseNotice_passed hon hmask]
  refine ⟨fun hbusy => ⟨fun before after n hq hnodup => ?_, fun hq => ?_⟩, fun hidle hr hn => ?_⟩
  · rw [State.arbitrate_busy _ (by exact hbusy), State.onLink, hq, queueNotice_coalesce (hq ▸ hnodup)]
    rfl
  · rw [State.arbitrate_busy _ (by exact hbusy), State.onLink, queueNotice_join hq]
  · obtain ⟨law, chs, bl, w, port, ⟨fr, rep, no, tx, en, rate⟩, sig, pend⟩ := s
    obtain rfl : tx = .idle := hidle
    obtain rfl : rep = [] := hr
    obtain rfl : no = [] := hn
    rw [← State.snapshot_eq_sourceBytes]
    rfl

end Sys2Proof
end

section
/-!
PROOFS. The events of the highways and of the bit clock: frames and slots (R143, R153, R155), the bits on the OUT pins,
frame pulses, missed pulses and the loss of sync (R147 to R150), and the clock monitor (R151).
-/

namespace Sys2Proof.Machine

/-! ## The rows -/

theorem exec_frameBegin (s : State) : exec .frameBegin s = execFrameBegin s := by
  rfl

theorem exec_frameComplete (s : State) : exec .frameComplete s = execFrameComplete s := by
  rfl

theorem exec_masterFramePulse (s : State) : exec .masterFramePulse s = execMasterFramePulse s := by
  rfl

theorem exec_slotSent (h : Highway) (n : Slot) (s : State) : exec (.slotSent h n) s = execSlotSent h n s := by
  rfl

theorem exec_framePulse (position : Byte) (s : State) : exec (.framePulse position) s = execFramePulse position s := by
  rfl

theorem exec_missedPulse (s : State) : exec .missedPulse s = execMissedPulse s := by
  rfl

theorem exec_syncLoss (s : State) : exec .syncLoss s = execSyncLoss s := by
  rfl

theorem exec_clockLoss (s : State) : exec .clockLoss s = execClockLoss s := by
  rfl

theorem exec_clockReturn (s : State) : exec .clockReturn s = execClockReturn s := by
  rfl

/-! ## Frames -/

theorem Port.countReaches_iff (p : Port) (target : Byte) :
    p.countReaches target = true ↔ p.mode = .master ∨ p.position.toNat ≤ target.toNat := by
  simp [Port.countReaches]

/-! ## Slots -/

/-- An assigned slot that begins: its code on the pin, its fresh mark cleared, and the signature unit sees it (R18, R153,
R180). -/
theorem execSlotSent_assigned {s : State} {f : Frame} {h : Highway} {n : Slot} {c : Chan} (hframing : s.port.framing = true)
    (hframe : s.port.frame = some f) (hbegun : f.begun h ≤ n.val) (hmap : (f.mapOf h)[n.val] = some c) :
    execSlotSent h n s =
      .next (((s.onPort fun p => p.beginSlot f h n (some ((s.chan c).lastCode (outStream h)))).onChan c
        fun ch => ch.markSent (outStream h)).watchSlot c (outStream h) ((s.chan c).freshMark (outStream h))
          ((s.chan c).lastCode (outStream h))) := by
  simp only [execSlotSent, hframing, hframe, if_neg (Nat.not_lt.mpr hbegun), hmap]

theorem execSlotSent_unassigned {s : State} {f : Frame} {h : Highway} {n : Slot} (hframing : s.port.framing = true)
    (hframe : s.port.frame = some f) (hbegun : f.begun h ≤ n.val) (hmap : (f.mapOf h)[n.val] = none) :
    execSlotSent h n s = .next (s.onPort fun p => p.beginSlot f h n none) := by
  simp only [execSlotSent, hframing, hframe, if_neg (Nat.not_lt.mpr hbegun), hmap]

/-- A bit clock is bit `b` of slot `n` exactly where the count says so (R143). -/
theorem Port.position_eq_iff (p : Port) (n : Slot) {b : Nat} (hb : b < 8) :
    p.position = p.offset + BitVec.ofNat 8 (8 * n.val) + BitVec.ofNat 8 b ↔ p.elapsed = 8 * n.val + b := by
  have hn := n.isLt
  unfold Port.elapsed
  constructor
  · intro h
    rw [h]
    bv_omega
  · intro h
    bv_omega

/-- The pin of a slot that has begun, bit clock by bit clock (R143, R153). -/
theorem Port.outPin_of_slot {p : Port} {f : Frame} {h : Highway} {n : Slot} {code : Byte} (hframe : p.frame = some f)
    (hbegun : f.begun h = n.val + 1) (hcode : p.outCode h = some code) :
    (∀ b : Nat, b < 8 → p.position = p.offset + BitVec.ofNat 8 (8 * n.val) + BitVec.ofNat 8 b →
      p.outPin h = some (code.getLsbD (7 - b))) ∧
    ((∀ b : Nat, b < 8 → p.position ≠ p.offset + BitVec.ofNat 8 (8 * n.val) + BitVec.ofNat 8 b) →
      p.outPin h = none) := by
  constructor
  · intro b hb hpos
    have helapsed := (p.position_eq_iff n hb).mp hpos
    rw [Port.outPin_eq_some]
    exact ⟨f, code, hframe, hcode, by omega, by rw [slotBit, helapsed]; congr 2; omega⟩
  · intro hout
    rw [Option.eq_none_iff_forall_ne_some]
    intro bit hbit
    obtain ⟨g, k, hg, hk, helapsed, -⟩ := Port.outPin_eq_some.mp hbit
    obtain rfl : f = g := Option.some.inj (hframe.symm.trans hg)
    exact hout (p.elapsed % 8) (by omega) ((p.position_eq_iff n (by omega)).mpr (by omega))

theorem Port.outPin_of_no_frame {p : Port} (h : Highway) (hframe : p.frame = none) : p.outPin h = none := by
  simp only [Port.outPin, hframe]

theorem Port.outPin_of_no_code {p : Port} {h : Highway} (hcode : p.outCode h = none) : p.outPin h = none := by
  unfold Port.outPin
  cases p.frame <;> simp [hcode]

/-! ## Sync and clock -/

theorem State.loseSync_eq (s : State) :
    s.loseSync = ({ s with
      port :=
        { s.port with
          sync := .lost, awaiting := false, syncLosses := bump s.port.syncLosses, inSync := false } } : State).raiseNotice
      .port .sync := by
  rfl

end Sys2Proof.Machine

namespace Sys2Proof

open Sys2Proof.Machine

/-! ## The statements -/

/-- Settles O16: the guards of the three rows, spelled out. -/
theorem framesBeginAndComplete : Obligations.FramesBeginAndComplete := by
  refine fun s hrun hclock => ⟨fun hawait hframe hslave hpast => ?_, fun hawait hframe hcount => ?_,
    fun hawait hframe => ?_, fun hmaster => ⟨?_, ?_⟩⟩
  · rw [exec_frameBegin, execFrameBegin, if_neg]
    rw [Port.countReaches_iff, hslave]
    simpa using fun _ _ => hpast
  · rw [exec_frameBegin, execFrameBegin,
      if_pos ⟨(Port.framing_iff _).mpr ⟨hrun, hclock, hawait⟩, hframe, (Port.countReaches_iff _ _).mpr hcount⟩]
    rfl
  · rw [exec_frameComplete, execFrameComplete,
      if_pos ⟨(Port.framing_iff _).mpr ⟨hrun, hclock, hawait⟩, Option.isSome_iff_ne_none.mpr hframe⟩]
    rfl
  · rw [exec_masterFramePulse, execMasterFramePulse, if_pos ⟨(Port.clocked_iff _).mpr ⟨hrun, hclock⟩, hmaster⟩]
    rfl
  · simp only [Port.fpPin, hmaster, (Port.clocked_iff _).mpr ⟨hrun, hclock⟩, Bool.true_and]
    rfl

/-- Settles O17: the slot's map entry says what begins, and the count says which bit the pin carries. -/
theorem slotSentDrivesLastCode : Obligations.SlotSentDrivesLastCode := by
  intro s f n hrun hclock hawait hframe
  have hframing : s.port.framing = true := (Port.framing_iff _).mpr ⟨hrun, hclock, hawait⟩
  refine ⟨fun hbegun => ⟨fun hmap => ?_, fun c hmap => ?_⟩, fun hbegun => ⟨fun hmap => ?_, fun c hmap => ?_⟩,
    fun q code hoffset => ⟨fun hq => ?_, fun hq => ?_, Port.outPin_of_no_code (h := .line),
      Port.outPin_of_no_code (h := .exchange),
      fun hno => ⟨Port.outPin_of_no_frame _ hno, Port.outPin_of_no_frame _ hno⟩⟩⟩
  · rw [exec_slotSent, execSlotSent_unassigned (h := .line) hframing hframe hbegun hmap]; rfl
  · rw [exec_slotSent, execSlotSent_assigned (h := .line) hframing hframe hbegun hmap]; rfl
  · rw [exec_slotSent, execSlotSent_unassigned (h := .exchange) hframing hframe hbegun hmap]; rfl
  · rw [exec_slotSent, execSlotSent_assigned (h := .exchange) hframing hframe hbegun hmap]; rfl
  · exact hoffset ▸ Port.outPin_of_slot hq.1 rfl hq.2
  · exact hoffset ▸ Port.outPin_of_slot hq.1 rfl hq.2

/-- Settles O18: by the sync state, the awaiting mark and the position of the pulse. -/
theorem framePulseAlignsSlipsOrRegains : Obligations.FramePulseAlignsSlipsOrRegains := by
  intro s position hslave hrun hclock
  have hpulse : s.port.clocked = true ∧ s.port.mode = .slave := ⟨(Port.clocked_iff _).mpr ⟨hrun, hclock⟩, hslave⟩
  refine ⟨fun hsync hat => ?_, fun hsync hawait hpos => ?_, fun hsync hpos => ?_, fun hsync hpos => ?_⟩
  · rw [exec_framePulse, execFramePulse, if_pos hpulse, if_neg (by simp [hsync]), if_pos hat]
    rfl
  · rw [exec_framePulse, execFramePulse, if_pos hpulse, if_neg (by simp [hsync]), if_neg (by simp [hawait, hpos])]
    simp only [Port.cutFrame_eq]
    rfl
  · rw [exec_framePulse, execFramePulse, if_pos hpulse, if_pos hsync, State.regain]
    simp only [if_pos hpos]
    rfl
  · rw [exec_framePulse, execFramePulse, if_pos hpulse, if_pos hsync, State.regain]
    simp only [if_neg hpos, Port.cutFrame_eq]
    rfl

/-- Settles O19: by the missed-pulse count that results, and the sync state. -/
theorem missedPulsesLoseSync : Obligations.MissedPulsesLoseSync := by
  intro s hslave hrun hclock
  have hpulse : s.port.clocked = true ∧ s.port.mode = .slave := ⟨(Port.clocked_iff _).mpr ⟨hrun, hclock⟩, hslave⟩
  have hmissed : ∀ m : Nat, min 4 (s.port.missed + 1) = m →
      exec .missedPulse s = .next (({ s with
        port := { s.port with position := 0x00#8, missed := m } } : State).endMissedRun) := by
    rintro m rfl
    rw [exec_missedPulse, execMissedPulse, if_pos hpulse]
    rfl
  refine ⟨fun hm => ?_, fun hm hsync => ?_, fun hm hsync => ?_, fun hm hsync => ?_⟩
  · rw [hmissed (s.port.missed + 1) (by omega), State.endMissedRun, if_neg (by simp; omega)]
  · rw [hmissed 4 (by omega), State.endMissedRun, if_pos rfl, if_pos hsync, State.loseSync_eq]
    rfl
  · rw [hmissed 4 (by omega), State.endMissedRun, if_pos rfl, if_neg (by simp [hsync])]
    rfl
  · rw [exec_syncLoss, execSyncLoss, if_pos ⟨hpulse.1, hpulse.2, hsync, hm⟩, State.loseSync_eq]
    rfl

/-- Settles O20: by the clock state that stands and the run state. -/
theorem clockLossAndReturn : Obligations.ClockLossAndReturn := by
  refine fun s => ⟨fun hclock => ⟨fun hhold => ?_, fun hrun => ?_⟩, fun hclock => ⟨fun hhold => ?_, fun hrun => ?_⟩⟩
  · simp only [exec_clockLoss, execClockLoss, if_pos hclock, if_neg (show s.port.runState ≠ .run by simp [hhold])]
    rfl
  · simp only [exec_clockLoss, execClockLoss, if_pos hclock, if_pos hrun, State.portNotice_eq_raiseNotice,
      State.stopFraming, State.raiseNotice_port, State.raiseNotice_channels, State.onPort_port, Port.cutFrame_eq]
    rfl
  · simp only [exec_clockReturn, execClockReturn, if_pos hclock, if_neg (show s.port.runState ≠ .run by simp [hhold])]
    rfl
  · simp only [exec_clockReturn, execClockReturn, if_pos hclock, if_pos hrun, State.portNotice_eq_raiseNotice]
    rw [State.onPort, State.raiseNotice_port]
    rfl

end Sys2Proof
end

section
/-!
PROOFS. A checked frame and the request row it spells (R161, R163, section 10.5), and the rounding of the echo estimate
and of the tap update (R27, R31).
-/

namespace Sys2Proof.Machine

/-! ## The row a frame spells -/

section Spelled

variable {tag kind : Byte} {s : State}

theorem exec_noField {i : Instr} (body : List Byte) (h : exec i s = .next (requestArrival tag kind [] s)) :
    exec ((noField i body).getD (.unknownRequest tag kind body)) s = .next (requestArrival tag kind body s) := by
  unfold noField
  split
  · next hb => rw [hb]; exact h
  · rfl

theorem exec_oneField {f : Byte → Instr} (body : List Byte)
    (h : ∀ a, exec (f a) s = .next (requestArrival tag kind [a] s)) :
    exec ((oneField f body).getD (.unknownRequest tag kind body)) s = .next (requestArrival tag kind body s) := by
  unfold oneField
  split
  · exact h _
  · rfl

theorem exec_twoFields {f : Byte → Byte → Instr} (body : List Byte)
    (h : ∀ a b, exec (f a b) s = .next (requestArrival tag kind [a, b] s)) :
    exec ((twoFields f body).getD (.unknownRequest tag kind body)) s = .next (requestArrival tag kind body s) := by
  unfold twoFields
  split
  · exact h _ _
  · rfl

theorem exec_threeFields {f : Byte → Byte → Byte → Instr} (body : List Byte)
    (h : ∀ a b c, exec (f a b c) s = .next (requestArrival tag kind [a, b, c] s)) :
    exec ((threeFields f body).getD (.unknownRequest tag kind body)) s = .next (requestArrival tag kind body s) := by
  unfold threeFields
  split
  · exact h _ _ _
  · rfl

theorem exec_lawLoadFields (body : List Byte) :
    exec ((lawLoadFields tag body).getD (.unknownRequest tag 0x10#8 body)) s =
      .next (requestArrival tag 0x10#8 body s) := by
  unfold lawLoadFields
  split
  · next table quarter entries =>
    split
    · next hlen =>
      have hbody : (table :: quarter :: entries).length = 130 := by simp [hlen]
      simp only [requestArrival, requestOf, catalogueLength, hbody, ne_eq,
        Option.getD_some, exec_lawLoad]
      rfl
    · rfl
  · rfl

theorem exec_profileFields (body : List Byte) :
    exec ((profileFields tag body).getD (.unknownRequest tag 0x18#8 body)) s =
      .next (requestArrival tag 0x18#8 body s) := by
  unfold profileFields
  split
  · next channel record =>
    split
    · next hlen =>
      have hbody : (channel :: record).length = 24 := by simp [hlen]
      simp only [requestArrival, requestOf, catalogueLength, hbody, ne_eq,
        Option.getD_some]
      rfl
    · rfl
  · rfl

theorem exec_sigStartFields (body : List Byte) :
    exec ((sigStartFields tag body).getD (.unknownRequest tag 0x30#8 body)) s =
      .next (requestArrival tag 0x30#8 body s) := by
  unfold sigStartFields
  split <;> rfl

end Spelled

/-- The command a frame stands for does what the arrival of the frame does (R163). -/
theorem exec_ofFrame (tag kind : Byte) (body : List Byte) (s : State) :
    exec (Instr.ofFrame tag kind body) s = .next (requestArrival tag kind body s) := by
  unfold Instr.ofFrame Instr.spelled?
  split
  case h_8 hkind => cases BitVec.eq_of_toNat_eq (y := 0x10#8) hkind; exact exec_lawLoadFields body
  case h_10 hkind => cases BitVec.eq_of_toNat_eq (y := 0x18#8) hkind; exact exec_profileFields body
  case h_25 hkind => cases BitVec.eq_of_toNat_eq (y := 0x30#8) hkind; exact exec_sigStartFields body
  case h_1 hkind => cases BitVec.eq_of_toNat_eq (y := 0x01#8) hkind; exact exec_noField body rfl
  case h_2 hkind => cases BitVec.eq_of_toNat_eq (y := 0x02#8) hkind; exact exec_noField body rfl
  case h_3 hkind => cases BitVec.eq_of_toNat_eq (y := 0x08#8) hkind; exact exec_threeFields body fun _ _ _ => rfl
  case h_4 hkind => cases BitVec.eq_of_toNat_eq (y := 0x09#8) hkind; exact exec_noField body rfl
  case h_5 hkind => cases BitVec.eq_of_toNat_eq (y := 0x0A#8) hkind; exact exec_noField body rfl
  case h_6 hkind => cases BitVec.eq_of_toNat_eq (y := 0x0B#8) hkind; exact exec_threeFields body fun _ _ _ => rfl
  case h_7 hkind => cases BitVec.eq_of_toNat_eq (y := 0x0C#8) hkind; exact exec_twoFields body fun _ _ => rfl
  case h_9 hkind => cases BitVec.eq_of_toNat_eq (y := 0x11#8) hkind; exact exec_oneField body fun _ => rfl
  case h_11 hkind => cases BitVec.eq_of_toNat_eq (y := 0x19#8) hkind; exact exec_oneField body fun _ => rfl
  case h_12 hkind => cases BitVec.eq_of_toNat_eq (y := 0x1A#8) hkind; exact exec_twoFields body fun _ _ => rfl
  case h_13 hkind => cases BitVec.eq_of_toNat_eq (y := 0x1B#8) hkind; exact exec_oneField body fun _ => rfl
  case h_14 hkind => cases BitVec.eq_of_toNat_eq (y := 0x1C#8) hkind; exact exec_oneField body fun _ => rfl
  case h_15 hkind => cases BitVec.eq_of_toNat_eq (y := 0x1D#8) hkind; exact exec_oneField body fun _ => rfl
  case h_16 hkind => cases BitVec.eq_of_toNat_eq (y := 0x1E#8) hkind; exact exec_oneField body fun _ => rfl
  case h_17 hkind => cases BitVec.eq_of_toNat_eq (y := 0x20#8) hkind; exact exec_oneField body fun _ => rfl
  case h_18 hkind => cases BitVec.eq_of_toNat_eq (y := 0x21#8) hkind; exact exec_oneField body fun _ => rfl
  case h_19 hkind => cases BitVec.eq_of_toNat_eq (y := 0x22#8) hkind; exact exec_oneField body fun _ => rfl
  case h_20 hkind => cases BitVec.eq_of_toNat_eq (y := 0x23#8) hkind; exact exec_twoFields body fun _ _ => rfl
  case h_21 hkind => cases BitVec.eq_of_toNat_eq (y := 0x24#8) hkind; exact exec_oneField body fun _ => rfl
  case h_22 hkind => cases BitVec.eq_of_toNat_eq (y := 0x25#8) hkind; exact exec_noField body rfl
  case h_23 hkind => cases BitVec.eq_of_toNat_eq (y := 0x28#8) hkind; exact exec_twoFields body fun _ _ => rfl
  case h_24 hkind => cases BitVec.eq_of_toNat_eq (y := 0x29#8) hkind; exact exec_oneField body fun _ => rfl
  case h_26 hkind => cases BitVec.eq_of_toNat_eq (y := 0x31#8) hkind; exact exec_noField body rfl
  case h_27 => rfl

/-! ## Rounding with ties toward zero -/

theorem roundTieToZero_natCast (a : Nat) {d : Nat} (hd : 0 < d) :
    roundTieToZero (a : Int) d = ((2 * a + d - 1) / (2 * d) : Nat) := by
  obtain rfl | ha := Nat.eq_zero_or_pos a
  · simp [roundTieToZero, Nat.div_eq_of_lt (show d - 1 < 2 * d by omega)]
  · rw [roundTieToZero, Int.sign_eq_one_of_pos (Int.natCast_pos.mpr ha), Int.natAbs_natCast, one_mul]

theorem roundTieToZero_natCast_nearest (a : Nat) {d : Nat} (hd : 0 < d) :
    2 * (d * roundTieToZero a d - a).natAbs ≤ d ∧
      (2 * (d * roundTieToZero a d - a).natAbs = d → d * (roundTieToZero a d).natAbs ≤ a) := by
  rw [roundTieToZero_natCast a hd, Int.natAbs_natCast, ← Nat.cast_mul]
  have hsplit := Nat.div_add_mod (2 * a + d - 1) (2 * d)
  have hrest := Nat.mod_lt (2 * a + d - 1) (show 0 < 2 * d by omega)
  rw [Nat.mul_assoc] at hsplit
  generalize d * ((2 * a + d - 1) / (2 * d)) = multiple at *
  omega

theorem roundTieToZero_neg (n : Int) (d : Nat) : roundTieToZero (-n) d = -roundTieToZero n d := by
  simp [roundTieToZero]

/-- The rounded quotient is a nearest integer to `n / d`, and of two equally near the one toward zero. -/
theorem roundTieToZero_nearest (n : Int) {d : Nat} (hd : 0 < d) :
    2 * (d * roundTieToZero n d - n).natAbs ≤ d ∧
      (2 * (d * roundTieToZero n d - n).natAbs = d → d * (roundTieToZero n d).natAbs ≤ n.natAbs) := by
  obtain ⟨a, rfl | rfl⟩ := n.eq_nat_or_neg
  · exact roundTieToZero_natCast_nearest a hd
  · have hmirror : (d * roundTieToZero (-(a : Int)) d - -(a : Int)).natAbs = (d * roundTieToZero a d - a).natAbs := by
      rw [roundTieToZero_neg, Int.mul_neg, ← Int.natAbs_neg]
      congr 1
      ring
    rw [hmirror, roundTieToZero_neg, Int.natAbs_neg, Int.natAbs_neg, Int.natAbs_natCast]
    exact roundTieToZero_natCast_nearest a hd

end Sys2Proof.Machine

namespace Sys2Proof

open Sys2Proof.Machine

/-! ## The statements -/

/-- Settles O5: the framer hands over the frame, and the frame does what its row does. -/
theorem checkedFrameIsItsRequest : Obligations.CheckedFrameIsItsRequest := by
  intro s tag kind high low body _ hframer hcrc
  rw [exec_receivedByte, receiveByte_last _ hframer, checkFrame_eq, if_pos hcrc, exec_ofFrame]
  rfl

/-- Settles O27: both quotients before saturation and clamping are the integers sought. -/
theorem estimateAndUpdateRounding : Obligations.EstimateAndUpdateRounding := by
  refine ⟨fun total => ?_, fun step e power t x => ?_⟩
  · exact ⟨roundTieAway total tapUnit, rfl, roundTieAway_nearest total (by decide)⟩
  · have hd : 0 < 64 * (power + regulariser) := Nat.mul_pos (by decide) (Nat.add_pos_right _ (by decide))
    have hnear := roundTieToZero_nearest (step * e * x * tapUnit) hd
    simp only [Nat.cast_mul, Nat.cast_add] at hnear
    exact ⟨tapStep step e power x, rfl, hnear⟩

end Sys2Proof
end

section
/-!
PROOFS. The profile record (R125, R126, section 10.10.3): which records are accepted, what is stored of one, and the clamped
fields the reply lists; and PROFILE (R127).
-/

namespace Sys2Proof.Machine

/-! ## Field codes by value -/

theorem tableOf_eq : ∀ b : Byte,
    tableOf b = if b.toNat ≤ 1 then some (if b.toNat = 0 then .a else .b) else none := by decide

theorem activityFloorOf_eq : ∀ b : Byte,
    activityFloorOf b =
      if b.toNat ≤ 2 then some (if b.toNat = 0 then .low else if b.toNat = 1 then .normal else .high) else none := by
  decide

theorem echoLossOf_eq : ∀ b : Byte,
    echoLossOf b =
      if b.toNat ∈ [0, 6, 12] then some (if b.toNat = 0 then .db0 else if b.toNat = 6 then .db6 else .db12)
      else none := by decide

theorem nlpModeOf_eq : ∀ b : Byte,
    nlpModeOf b =
      if b.toNat ≤ 3 then
        some (if b.toNat = 0 then .pass else if b.toNat = 1 then .soft else if b.toNat = 2 then .noise else .silent)
      else none := by decide

theorem nlpMarginOf_eq : ∀ b : Byte,
    nlpMarginOf b =
      if b.toNat ∈ [6, 12, 18] then some (if b.toNat = 6 then .db6 else if b.toNat = 12 then .db12 else .db18)
      else none := by decide

theorem tonePolicyOf_eq : ∀ b : Byte,
    tonePolicyOf b =
      if b.toNat ≤ 2 then some (if b.toNat = 0 then .ignore else if b.toNat = 1 then .nlpOnly else .full)
      else none := by decide

theorem flagOf_eq : ∀ b : Byte, flagOf b = if b.toNat ≤ 1 then some (decide (b.toNat = 1)) else none := by decide

theorem posOf_eq_some_iff {b : Byte} {p : Pos} : posOf b = some p ↔ b = byteOf p.val := by
  constructor
  · intro h
    unfold posOf at h
    split at h
    · cases h; simp [byteOf]
    · cases h
  · rintro rfl
    exact posOf_byteOf p

theorem posOf_isSome_iff {b : Byte} : (∃ p, posOf b = some p) ↔ b.toNat ≤ 31 := by
  constructor
  · rintro ⟨p, hp⟩
    have := p.isLt
    rw [posOf_eq_some_iff.mp hp]
    simp [byteOf]
    omega
  · intro h
    exact ⟨⟨b.toNat, by omega⟩, by simp [posOf]; omega⟩

theorem byteOf_pos_injective : Function.Injective fun p : Pos => byteOf p.val := by
  intro p q h
  have hpq := congrArg posOf (show byteOf p.val = byteOf q.val from h)
  rw [posOf_byteOf, posOf_byteOf] at hpq
  exact Option.some.inj hpq

theorem numberIn_eq_some_iff {lo hi n : Nat} {b : Byte} :
    numberIn lo hi b = some n ↔ lo ≤ b.toNat ∧ b.toNat ≤ hi ∧ b.toNat = n := by
  unfold numberIn
  split <;> simp_all

/-! ## Pins -/

theorem mapM_posOf_eq_some_iff {bs : List Byte} {ps : List Pos} :
    bs.mapM posOf = some ps ↔ bs = ps.map fun p => byteOf p.val := by
  induction bs generalizing ps with
  | nil => cases ps <;> simp
  | cons b bs ih =>
    simp only [List.mapM_cons, Option.bind_eq_bind, Option.bind_eq_some_iff, posOf_eq_some_iff, ih, Option.pure_def,
      Option.some.injEq]
    cases ps with
    | nil => simp
    | cons p ps =>
      simp only [List.cons.injEq, List.map_cons]
      constructor
      · rintro ⟨q, rfl, qs, rfl, rfl, rfl⟩
        exact ⟨rfl, rfl⟩
      · rintro ⟨rfl, rfl⟩
        exact ⟨p, rfl, ps, rfl, rfl, rfl⟩

theorem mem_insertPos {p q : Pos} {ps : List Pos} : q ∈ insertPos p ps ↔ q = p ∨ q ∈ ps := by
  induction ps with
  | nil => simp [insertPos]
  | cons r rs ih =>
    unfold insertPos
    split
    · simp
    · split
      · next h => subst h; simp
      · simp [ih]; tauto

theorem insertPos_ascending (p : Pos) {ps : List Pos} (h : ps.Pairwise fun a b => a < b) :
    (insertPos p ps).Pairwise fun a b => a < b := by
  induction ps with
  | nil => simp [insertPos]
  | cons r rs ih =>
    obtain ⟨hr, hrs⟩ := List.pairwise_cons.mp h
    unfold insertPos
    split
    · next hlt =>
      exact List.pairwise_cons.mpr ⟨fun a ha => (List.mem_cons.mp ha).elim (fun e => e ▸ hlt) fun ha => hlt.trans (hr a ha), h⟩
    · next hge =>
      split
      · exact h
      · next hne =>
        refine List.pairwise_cons.mpr ⟨fun a ha => ?_, ih hrs⟩
        obtain rfl | ha := mem_insertPos.mp ha
        · exact lt_of_le_of_ne (not_lt.mp hge) (Ne.symm hne)
        · exact hr a ha

theorem mem_foldr_insertPos {q : Pos} {ps : List Pos} : q ∈ ps.foldr insertPos [] ↔ q ∈ ps := by
  induction ps with
  | nil => simp
  | cons p ps ih => simp [mem_insertPos, ih]

theorem foldr_insertPos_ascending (ps : List Pos) : (ps.foldr insertPos []).Pairwise fun a b => a < b := by
  induction ps with
  | nil => exact List.Pairwise.nil
  | cons p ps ih => exact insertPos_ascending p ih

theorem length_insertPos_le (p : Pos) (ps : List Pos) : (insertPos p ps).length ≤ ps.length + 1 := by
  induction ps with
  | nil => simp [insertPos]
  | cons r rs ih =>
    unfold insertPos
    split
    · simp
    · split <;> simp [ih]

theorem length_foldr_insertPos_le (ps : List Pos) : (ps.foldr insertPos []).length ≤ ps.length := by
  induction ps with
  | nil => simp
  | cons p ps ih => exact (length_insertPos_le _ _).trans (Nat.succ_le_succ ih)

/-- The pins list as a whole (R125): at most 4 and fewer than the quota, positions, distinct, kept as a set. -/
theorem pinsOf_eq_some_iff {quota : Nat} {count : Byte} {bs : List Byte} {pins : List Pos} :
    pinsOf quota count bs = some pins ↔
      count.toNat ≤ 4 ∧ count.toNat ≤ quota - 1 ∧
        ∃ ps : List Pos, bs.take count.toNat = ps.map (fun p => byteOf p.val) ∧ ps.Nodup ∧ pins = ps.foldr insertPos [] := by
  unfold pinsOf
  split
  · next hcount =>
    simp only [hcount.1, hcount.2, true_and]
    split
    · next ps hps =>
      rw [mapM_posOf_eq_some_iff] at hps
      constructor
      · intro h
        split at h
        · next hnodup => exact ⟨ps, hps, hnodup, (Option.some.inj h).symm⟩
        · cases h
      · rintro ⟨qs, hqs, hnodup, rfl⟩
        obtain rfl : ps = qs := List.map_injective_iff.mpr byteOf_pos_injective (hps.symm.trans hqs)
        rw [if_pos hnodup]
    · next hnone =>
      refine ⟨fun h => by simp at h, ?_⟩
      rintro ⟨qs, hqs, -⟩
      rw [mapM_posOf_eq_some_iff.mpr hqs] at hnone
      cases hnone
  · next hcount =>
    refine ⟨fun h => by simp at h, fun h => absurd ⟨h.1, h.2.1⟩ hcount⟩

/-! ## Clamps -/

theorem clampField_stored {lo hi v : Int} {a b : Nat} (ha : (a : Int) = lo) (hb : (b : Int) = hi) :
    ((clampField a b v).stored : Int) = max lo (min hi v) := by
  subst ha hb
  simp only [clampField, clampInt]
  omega

/-- A gain index is clamped to 0..48. -/
theorem clampField_index (v : Int) : ((clampField 0 48 v).stored : Int) = max 0 (min 48 v) :=
  clampField_stored rfl rfl

theorem clampField_changed (lo hi : Nat) (v : Int) :
    (clampField lo hi v).changed = decide (((clampField lo hi v).stored : Int) ≠ v) := by
  simp only [clampField, clampInt]
  congr 1
  rw [eq_iff_iff]
  omega

/-! ## A record checked -/

/-- What checking a record answers, field by field (R125, R126, section 10.10.3). -/
structure CheckedAs (r : List Byte) (k : CheckedProfile) : Prop where
  lineLaw : tableOf (byteAt r 0) = some k.profile.lineLaw
  exchangeLaw : tableOf (byteAt r 1) = some k.profile.exchangeLaw
  bulk : numberIn 0 32 (byteAt r 2) = some k.profile.bulk
  quota : numberIn 2 8 (byteAt r 3) = some k.profile.quota
  pins : pinsOf k.profile.quota (byteAt r 4) ((r.drop 5).take 4) = some k.profile.pins
  initialPos : posOf (byteAt r 9) = some k.profile.initialPos
  floor : activityFloorOf (byteAt r 11) = some k.profile.floor
  echoLoss : echoLossOf (byteAt r 12) = some k.profile.echoLoss
  nlpMode : nlpModeOf (byteAt r 13) = some k.profile.nlpMode
  nlpMargin : nlpMarginOf (byteAt r 14) = some k.profile.nlpMargin
  tonePolicy : tonePolicyOf (byteAt r 15) = some k.profile.tonePolicy
  alcOn : flagOf (byteAt r 16) = some k.profile.alcOn
  step : k.profile.step = (clampField 1 64 (byteAt r 10).toInt).stored
  target : k.profile.target = (clampField 64 8192 ((halfAt r 17).toNat : Int)).stored
  gmin : k.profile.gmin = (clampField 0 48 (byteAt r 19).toInt).stored
  gmax : k.profile.gmax = (clampField 0 48 (byteAt r 20).toInt).stored
  fixedIndex : k.profile.fixedIndex = (clampField 0 48 (byteAt r 21).toInt).stored
  padIndex : k.profile.padIndex = (clampField 0 48 (byteAt r 22).toInt).stored
  limits : k.profile.gmin ≤ k.profile.gmax
  clamped : k.clamped = byteOf
    (bitIf (clampField 1 64 (byteAt r 10).toInt).changed 0 + bitIf (clampField 64 8192 ((halfAt r 17).toNat : Int)).changed 1
      + bitIf (clampField 0 48 (byteAt r 19).toInt).changed 2 + bitIf (clampField 0 48 (byteAt r 20).toInt).changed 3
      + bitIf (clampField 0 48 (byteAt r 21).toInt).changed 4 + bitIf (clampField 0 48 (byteAt r 22).toInt).changed 5)

theorem checkProfile_eq_some_iff {r : List Byte} {k : CheckedProfile} : checkProfile r = some k ↔ CheckedAs r k := by
  simp only [checkProfile, Option.bind_eq_bind, Option.bind_eq_some_iff, ite_eq_iff, reduceCtorEq, and_false, false_or,
    Option.some.injEq]
  constructor
  · rintro ⟨_, h0, _, h1, _, h2, _, h3, _, h4, _, h9, _, h11, _, h12, _, h13, _, h14, _, h15, _, h16, hlimits, rfl⟩
    exact ⟨h0, h1, h2, h3, h4, h9, h11, h12, h13, h14, h15, h16, rfl, rfl, rfl, rfl, rfl, rfl, Nat.not_lt.mp hlimits, rfl⟩
  · intro h
    refine ⟨_, h.lineLaw, _, h.exchangeLaw, _, h.bulk, _, h.quota, _, h.pins, _, h.initialPos, _, h.floor, _, h.echoLoss, _,
      h.nlpMode, _, h.nlpMargin, _, h.tonePolicy, _, h.alcOn, ?_, ?_⟩
    · rw [← h.gmin, ← h.gmax]
      exact Nat.not_lt.mpr h.limits
    · obtain ⟨⟨ll, el, bu, qu, pi, ip, st, fl, lo, nm, nr, tp, al, ta, g1, g2, fi, pa⟩, cl⟩ := k
      obtain ⟨-, -, -, -, -, -, -, -, -, -, -, -, rfl, rfl, rfl, rfl, rfl, rfl, -, rfl⟩ := h
      rfl

/-- The records that are accepted (R125, with R126 for the clamped limits), by the values of their bytes. -/
def RecordAccepted (r : List Byte) : Prop :=
  (byteAt r 0).toNat ≤ 1 ∧ (byteAt r 1).toNat ≤ 1 ∧ (byteAt r 2).toNat ≤ 32 ∧ 2 ≤ (byteAt r 3).toNat ∧
    (byteAt r 3).toNat ≤ 8 ∧ (byteAt r 4).toNat ≤ 4 ∧ (byteAt r 4).toNat ≤ (byteAt r 3).toNat - 1 ∧
    (∀ p ∈ (r.drop 5).take (byteAt r 4).toNat, p.toNat ≤ 31) ∧ ((r.drop 5).take (byteAt r 4).toNat).Nodup ∧
    (byteAt r 9).toNat ≤ 31 ∧ (byteAt r 11).toNat ≤ 2 ∧ (byteAt r 12).toNat ∈ [0, 6, 12] ∧ (byteAt r 13).toNat ≤ 3 ∧
    (byteAt r 14).toNat ∈ [6, 12, 18] ∧ (byteAt r 15).toNat ≤ 2 ∧ (byteAt r 16).toNat ≤ 1 ∧
    max 0 (min 48 (byteAt r 19).toInt) ≤ max 0 (min 48 (byteAt r 20).toInt)

/-- The pins that the bytes of an accepted record name. -/
theorem exists_pins {r : List Byte} (h : ∀ p ∈ (r.drop 5).take (byteAt r 4).toNat, p.toNat ≤ 31) :
    ∃ ps : List Pos, (r.drop 5).take (byteAt r 4).toNat = ps.map fun p => byteOf p.val := by
  revert h
  induction (r.drop 5).take (byteAt r 4).toNat with
  | nil => exact fun _ => ⟨[], rfl⟩
  | cons b bs ih =>
    intro h
    obtain ⟨ps, rfl⟩ := ih fun p hp => h p (List.mem_cons_of_mem b hp)
    obtain ⟨p, hp⟩ := posOf_isSome_iff.mpr (h b List.mem_cons_self)
    exact ⟨p :: ps, by rw [posOf_eq_some_iff.mp hp]; rfl⟩

theorem take_pins {r : List Byte} (h : (byteAt r 4).toNat ≤ 4) :
    ((r.drop 5).take 4).take (byteAt r 4).toNat = (r.drop 5).take (byteAt r 4).toNat := by
  rw [List.take_take, Nat.min_eq_left h]

/-- A record is accepted exactly where its check answers. -/
theorem recordAccepted_iff {r : List Byte} : RecordAccepted r ↔ ∃ k, CheckedAs r k := by
  constructor
  · rintro ⟨h0, h1, h2, h3, h3', h4, h4', hpins, hnodup, h9, h11, h12, h13, h14, h15, h16, hlimits⟩
    obtain ⟨ps, hps⟩ := exists_pins hpins
    obtain ⟨p, hp⟩ := posOf_isSome_iff.mpr h9
    have hfirst : checkProfile r ≠ none := by
      have hcount := pinsOf_eq_some_iff.mpr ⟨h4, h4', ps, (take_pins h4).trans hps, (hps ▸ hnodup).of_map _, rfl⟩
      have hlow : (clampField 0 48 (byteAt r 19).toInt).stored ≤ (clampField 0 48 (byteAt r 20).toInt).stored := by
        have hgmin := clampField_index (byteAt r 19).toInt
        have hgmax := clampField_index (byteAt r 20).toInt
        omega
      simp [checkProfile, tableOf_eq, activityFloorOf_eq, echoLossOf_eq, nlpModeOf_eq, nlpMarginOf_eq, tonePolicyOf_eq,
        flagOf_eq, numberIn, h0, h1, h2, h3, h3', h11, h12, h13, h14, h15, h16, hcount, hp, hlow]
    obtain ⟨k, hk⟩ := Option.ne_none_iff_exists'.mp hfirst
    exact ⟨k, checkProfile_eq_some_iff.mp hk⟩
  · rintro ⟨k, h⟩
    obtain ⟨-, h2, -⟩ := numberIn_eq_some_iff.mp h.bulk
    obtain ⟨h3, h3', hq⟩ := numberIn_eq_some_iff.mp h.quota
    obtain ⟨h4, h4', ps, hps, hnodup, -⟩ := pinsOf_eq_some_iff.mp h.pins
    rw [take_pins h4] at hps
    have hgmin := clampField_index (byteAt r 19).toInt
    have hgmax := clampField_index (byteAt r 20).toInt
    have hlimits := h.limits
    rw [h.gmin, h.gmax] at hlimits
    have hcode : ∀ {α : Type} {c : Prop} [Decidable c] {a b : α}, (if c then some a else none) = some b → c := by
      intro α c _ a b h'
      by_contra hc
      simp [hc] at h'
    refine ⟨hcode ((tableOf_eq _).symm.trans h.lineLaw), hcode ((tableOf_eq _).symm.trans h.exchangeLaw), h2, h3, h3', h4,
      hq ▸ h4', ?_, ?_, posOf_isSome_iff.mp ⟨_, h.initialPos⟩, hcode ((activityFloorOf_eq _).symm.trans h.floor),
      hcode ((echoLossOf_eq _).symm.trans h.echoLoss), hcode ((nlpModeOf_eq _).symm.trans h.nlpMode),
      hcode ((nlpMarginOf_eq _).symm.trans h.nlpMargin), hcode ((tonePolicyOf_eq _).symm.trans h.tonePolicy),
      hcode ((flagOf_eq _).symm.trans h.alcOn), by omega⟩
    · rw [hps]
      intro b hb
      obtain ⟨p, -, rfl⟩ := List.mem_map.mp hb
      exact posOf_isSome_iff.mp ⟨p, posOf_byteOf p⟩
    · rw [hps]
      exact hnodup.map byteOf_pos_injective

/-- The pins stored are the positions the bytes of the record name. -/
theorem CheckedAs.mem_pins {r : List Byte} {k : CheckedProfile} (h : CheckedAs r k) (q : Pos) :
    q ∈ k.profile.pins ↔ byteOf q.val ∈ (r.drop 5).take (byteAt r 4).toNat := by
  obtain ⟨h4, -, ps, hps, -, hpins⟩ := pinsOf_eq_some_iff.mp h.pins
  rw [take_pins h4] at hps
  rw [hpins, mem_foldr_insertPos, hps]
  exact (List.mem_map_of_injective byteOf_pos_injective).symm

theorem CheckedAs.fieldsSound {r : List Byte} {k : CheckedProfile} (h : CheckedAs r k) : k.profile.FieldsSound := by
  obtain ⟨-, h2, hb⟩ := numberIn_eq_some_iff.mp h.bulk
  obtain ⟨h3, h3', hq⟩ := numberIn_eq_some_iff.mp h.quota
  obtain ⟨h4, h4', ps, hps, -, hpins⟩ := pinsOf_eq_some_iff.mp h.pins
  have hlen : k.profile.pins.length ≤ (byteAt r 4).toNat := by
    rw [hpins]
    refine (length_foldr_insertPos_le ps).trans ?_
    have := congrArg List.length hps
    simp only [List.length_map, List.length_take] at this
    omega
  have hstep := clampField_stored (v := (byteAt r 10).toInt) (show ((1 : Nat) : Int) = 1 from rfl) (show ((64 : Nat) : Int) = 64 from rfl)
  have hs := h.step
  exact ⟨by omega, by omega, hpins ▸ foldr_insertPos_ascending ps, by omega, by omega, by omega, by omega, by omega⟩

theorem CheckedAs.levelsSound {r : List Byte} {k : CheckedProfile} (h : CheckedAs r k) : k.profile.LevelsSound := by
  have hle : ∀ v : Int, (clampField 0 48 v).stored ≤ 48 := fun v => by
    have := clampField_index v
    omega
  exact ⟨h.limits, h.gmax ▸ hle _, h.fixedIndex ▸ hle _, h.padIndex ▸ hle _⟩

/-- The clamped set holds one mark for each clamped field (section 10.10.2). -/
theorem CheckedAs.clamped_getLsbD {r : List Byte} {k : CheckedProfile} (h : CheckedAs r k) (i : Nat) :
    k.clamped.getLsbD i =
      [decide ((k.profile.step : Int) ≠ (byteAt r 10).toInt), decide (k.profile.target ≠ (halfAt r 17).toNat),
        decide ((k.profile.gmin : Int) ≠ (byteAt r 19).toInt), decide ((k.profile.gmax : Int) ≠ (byteAt r 20).toInt),
        decide ((k.profile.fixedIndex : Int) ≠ (byteAt r 21).toInt),
        decide ((k.profile.padIndex : Int) ≠ (byteAt r 22).toInt)].getD i false := by
  have htarget : decide (k.profile.target ≠ (halfAt r 17).toNat)
      = decide ((k.profile.target : Int) ≠ ((halfAt r 17).toNat : Int)) := by
    simp only [ne_eq, Nat.cast_inj]
  rw [htarget, h.step, h.target, h.gmin, h.gmax, h.fixedIndex, h.padIndex, h.clamped]
  simp only [← clampField_changed]
  exact (((((HoldsMarks.singleton _).append _).append _).append _).append _).append _ |>.getLsbD (by simp) i

/-! ## PROFILE -/

theorem exec_profile (tag channel : Byte) (record : List Byte) (s : State) :
    exec (.profile tag channel record) s = .next (serve tag 0x18#8 (profileRequest channel record) s) := by
  rfl

theorem profileRequest_channel {channel : Byte} {r : List Byte} (s : State) (hlen : r.length = 23) (h : 31 < channel.toNat) :
    profileRequest channel r s = (s, .refused .range) := by
  simp [profileRequest, hlen, chanOf_eq_none h]

theorem profileRequest_range {c : Chan} {r : List Byte} (s : State) (hlen : r.length = 23) (h : checkProfile r = none) :
    profileRequest (byteOf c.val) r s = (s, .refused .range) := by
  simp [profileRequest, hlen, chanOf_byteOf, h]

theorem profileRequest_busy {c : Chan} {r : List Byte} {k : CheckedProfile} {s : State} (hlen : r.length = 23)
    (hk : checkProfile r = some k) (h : (s.chan c).staged.pendingRecord ≠ none) :
    profileRequest (byteOf c.val) r s = (s, .refused .busy) := by
  cases hstaged : (s.chan c).staged <;> simp_all [profileRequest, chanOf_byteOf, Staged.pendingRecord]

theorem profileRequest_staged {c : Chan} {r : List Byte} {k : CheckedProfile} {s : State} (hlen : r.length = 23)
    (hk : checkProfile r = some k) (h : (s.chan c).staged.pendingRecord = none) :
    profileRequest (byteOf c.val) r s =
      (s.setChan c { s.chan c with staged := .staged k.profile }, .done [byteOf c.val, k.clamped]) := by
  cases hstaged : (s.chan c).staged <;> simp_all [profileRequest, chanOf_byteOf, Staged.pendingRecord, State.onChan]

end Sys2Proof.Machine

namespace Sys2Proof

open Sys2Proof.Machine

/-! ## The statement -/

/-- Settles O28: the check answers exactly for the accepted records, with the fields that `CheckedAs` tells. -/
theorem profileChecksClampsAndStages : Obligations.ProfileChecksClampsAndStages := by
  refine fun tag c r s hroom hlen => ⟨fun haccepted hslot => ?_, fun haccepted hslot => ?_, fun hbad => ?_,
    fun channel hchannel => ?_⟩
  · obtain ⟨k, h⟩ := recordAccepted_iff.mp haccepted
    refine ⟨k.profile, k.clamped, ?_, ?_⟩
    · rw [exec_profile, serve_of_done tag _ hroom (profileRequest_staged hlen (checkProfile_eq_some_iff.mpr h) hslot)]
    obtain ⟨h0, h1, -, -, -, -, -, -, -, -, h11, h12, h13, h14, h15, h16, -⟩ := haccepted
    obtain ⟨-, -, hbulk⟩ := numberIn_eq_some_iff.mp h.bulk
    obtain ⟨-, -, hquota⟩ := numberIn_eq_some_iff.mp h.quota
    have hcode : ∀ {α : Type} {p : Prop} [Decidable p] {f : Option α} {a b : α}, f = some b →
        f = (if p then some a else none) → p → b = a := by
      intro α p _ f a b hb ha hp
      rw [hb, if_pos hp] at ha
      exact Option.some.inj ha
    refine ⟨hcode h.lineLaw (tableOf_eq _) h0, hcode h.exchangeLaw (tableOf_eq _) h1, hbulk.symm, hquota.symm,
      h.fieldsSound.2.2.1, h.mem_pins, ?_, ?_, hcode h.floor (activityFloorOf_eq _) h11,
      hcode h.echoLoss (echoLossOf_eq _) h12, hcode h.nlpMode (nlpModeOf_eq _) h13,
      hcode h.nlpMargin (nlpMarginOf_eq _) h14, hcode h.tonePolicy (tonePolicyOf_eq _) h15,
      hcode h.alcOn (flagOf_eq _) h16, ?_, ?_, ?_, ?_, ?_, fun i => ?_⟩
    · have := k.profile.initialPos.isLt
      show k.profile.initialPos.val = (byteAt r 9).toNat
      rw [posOf_eq_some_iff.mp h.initialPos]
      simp [byteOf]
      omega
    · rw [h.step]; exact clampField_stored rfl rfl
    · have htarget := clampField_stored (v := ((halfAt r 17).toNat : Int)) (show ((64 : Nat) : Int) = 64 from rfl)
        (show ((8192 : Nat) : Int) = 8192 from rfl)
      rw [h.target]
      omega
    · rw [h.gmin]; exact clampField_index _
    · rw [h.gmax]; exact clampField_index _
    · rw [h.fixedIndex]; exact clampField_index _
    · rw [h.padIndex]; exact clampField_index _
    · rw [h.clamped_getLsbD]
      rcases i with _ | _ | _ | _ | _ | _ | i <;> simp
  · obtain ⟨k, h⟩ := recordAccepted_iff.mp haccepted
    rw [exec_profile, serve_of_refused tag _ hroom (profileRequest_busy hlen (checkProfile_eq_some_iff.mpr h) hslot)]
    rfl
  · have hnone : checkProfile r = none := by
      rw [Option.eq_none_iff_forall_ne_some]
      exact fun k hk => hbad (recordAccepted_iff.mpr ⟨k, checkProfile_eq_some_iff.mp hk⟩)
    rw [exec_profile, serve_of_refused tag _ hroom (profileRequest_range s hlen hnone)]
    rfl
  · rw [exec_profile, serve_of_refused tag _ hroom (profileRequest_channel s hlen hchannel)]
    rfl

end Sys2Proof
end

section
/-!
PROOFS. The returned block (R57, R68), OPEN with its refusals (R45, R116, R129, R130), and APPLY where no window has to leave
(R121, R133, R135).
-/

namespace Sys2Proof.Machine

/-! ## Positions left over -/

/-- A list of fewer than 32 positions leaves one unoccupied. -/
theorem exists_unoccupied {occupied : List Pos} (h : occupied.length < 32) : ∃ q : Pos, q ∉ occupied := by
  by_contra hall
  push Not at hall
  have hle := ((List.nodup_finRange 32).subperm (l₂ := occupied) fun q _ => hall q).length_le
  rw [List.length_finRange] at hle
  omega

/-! ## A returned block -/

/-- The vacant pin at a position, filled (R58, R68). -/
theorem Channel.fillPin_eq (ch : Channel) (p : Pos) (b : BlockNo) :
    ch.fillPin p b =
      { ch with
        windows := ch.windows.map fun w =>
          if w.pos = p ∧ w.kind = .pinned ∧ w.block = none then { w with block := some b } else w } := by
  simp only [Channel.fillPin, Bool.and_eq_true, beq_iff_eq, Option.isNone_iff_eq_none, and_assoc]

/-- The role in which a block handed over to a wait entry stands (R57, R68). -/
def WaitEntry.place (e : WaitEntry) (b : BlockNo) (ch : Channel) : Channel :=
  match e.claim with
  | .pin p => ch.fillPin p b
  | .scout => ch.placeScout b

theorem State.serveWaiter_eq (s : State) (e : WaitEntry) (b : BlockNo) :
    s.serveWaiter e b = (s.handover b e.chan).onChan e.chan (e.place b) := by
  rfl

theorem WaitEntry.place_pin {e : WaitEntry} {p : Pos} (h : e.claim = .pin p) (b : BlockNo) (ch : Channel) :
    e.place b ch = ch.fillPin p b := by
  simp only [WaitEntry.place, h]

theorem WaitEntry.place_scout {e : WaitEntry} (h : e.claim = .scout) (b : BlockNo) (ch : Channel) :
    e.place b ch = ch.placeScout b := by
  simp only [WaitEntry.place, h]

theorem Channel.nextFree_windowPositions {ch : Channel} (p : Pos) (h : ch.windows.length < 32) :
    NextFree (ch.windows.map Window.pos) p (nextUnoccupied ch.windowPositions p) :=
  nextUnoccupied_spec p (exists_unoccupied (by simpa using h))

/-- What the return of a block to a wait entry leaves, part by part (R68). -/
theorem State.returnBlock_served {s : State} {e : WaitEntry} {rest : List WaitEntry} (b : BlockNo)
    (h : s.wait = e :: rest) :
    s.returnBlock b = ((s.withWait rest).handover b e.chan).onChan e.chan (e.place b) := by
  rw [s.returnBlock_waiter b h, State.serveWaiter_eq]

/-! ## OPEN -/

theorem exec_openChannel (tag channel : Byte) (s : State) :
    exec (.openChannel tag channel) s = .next (serve tag 0x19#8 (openRequest channel) s) := by
  rfl

theorem slotOf_ne_none_iff {m : SlotMap} {c : Chan} : slotOf m c ≠ none ↔ ∃ n : Slot, m[n.val] = some c := by
  rw [ne_eq, slotOf_eq_none]
  push Not
  rfl

theorem openRequest_range {channel : Byte} (s : State) (h : 31 < channel.toNat) :
    openRequest channel s = (s, .refused .range) := by
  simp only [openRequest, chanOf_eq_none h]

theorem openRequest_open {c : Chan} {s : State} (h : (s.chan c).life ≠ .closed) :
    openRequest (byteOf c.val) s = (s, .refused .state) := by
  simp only [openRequest, chanOf_byteOf, ne_eq, h, not_false_eq_true, if_true]

theorem openRequest_empty {c : Chan} {s : State} (hlife : (s.chan c).life = .closed) (h : (s.chan c).staged = .empty) :
    openRequest (byteOf c.val) s = (s, .refused .state) := by
  simp only [openRequest, chanOf_byteOf, hlife, h, ne_eq, not_true_eq_false, if_false]

/-- Both maps of the port hold a channel (R154). -/
abbrev State.Mapped (s : State) (c : Chan) : Prop :=
  (∃ n : Slot, s.port.lineMap[n.val] = some c) ∧ ∃ n : Slot, s.port.exchangeMap[n.val] = some c

/-- Both tables that a profile names are valid. -/
abbrev State.LawsValid (s : State) (p : Profile) : Prop :=
  (s.law.table p.lineLaw).valid = true ∧ (s.law.table p.exchangeLaw).valid = true

/-- OPEN of a CLOSED channel with a staged record, its checks in order (R129). -/
theorem openRequest_staged {c : Chan} {p : Profile} {s : State} (hlife : (s.chan c).life = .closed)
    (hstaged : (s.chan c).staged = .staged p) :
    (¬s.Mapped c → openRequest (byteOf c.val) s = (s, .refused .map)) ∧
    (s.Mapped c → ¬s.LawsValid p → openRequest (byteOf c.val) s = (s, .refused .law)) ∧
    (s.Mapped c → s.LawsValid p → s.freeBlocks.length < firstBlocks p →
      openRequest (byteOf c.val) s = (s, .refused .pool)) ∧
    (s.Mapped c → s.LawsValid p → firstBlocks p ≤ s.freeBlocks.length →
      openRequest (byteOf c.val) s = (s.openWith c p, .done [byteOf c.val])) := by
  have hmapped : s.Mapped c ↔ ¬(slotOf s.port.lineMap c = none ∨ slotOf s.port.exchangeMap c = none) := by
    rw [not_or, ← ne_eq, ← ne_eq, slotOf_ne_none_iff, slotOf_ne_none_iff]
  have heq : openRequest (byteOf c.val) s =
      if slotOf s.port.lineMap c = none ∨ slotOf s.port.exchangeMap c = none then (s, .refused .map)
      else if ¬s.LawsValid p then (s, .refused .law)
      else if s.freeBlocks.length < firstBlocks p then (s, .refused .pool)
      else (s.openWith c p, .done [byteOf c.val]) := by
    simp only [openRequest, chanOf_byteOf, hlife, hstaged, ne_eq, not_true_eq_false, if_false]
  refine ⟨fun h => ?_, fun h h' => ?_, fun h h' h'' => ?_, fun h h' h'' => ?_⟩
  · rw [heq, if_pos (by rwa [hmapped, not_not] at h)]
  · rw [heq, if_neg (hmapped.mp h), if_pos h']
  · rw [heq, if_neg (hmapped.mp h), if_neg (not_not.mpr h'), if_pos h'']
  · rw [heq, if_neg (hmapped.mp h), if_neg (not_not.mpr h'), if_neg (Nat.not_lt.mpr h'')]

/-! ## What an accepted OPEN builds -/

/-- Several blocks handed over: each is the channel's, zeroed, and no other changes (R65). -/
theorem State.handoverAll_block (s : State) (c : Chan) (bs : List BlockNo) (j : BlockNo) :
    (s.handoverAll c bs).block j =
      if j ∈ bs then { taps := List.replicate 32 0, condition := .held c, altered := false } else s.block j := by
  unfold State.handoverAll
  induction bs generalizing s with
  | nil => rfl
  | cons b bs ih =>
    rw [List.foldl_cons, ih, s.handover_block]
    by_cases hj : j = b
    · subst hj; simp
    · simp [hj]

/-- Handovers change nothing but the blocks. -/
theorem State.handoverAll_eq (s : State) (c : Chan) (bs : List BlockNo) :
    s.handoverAll c bs = { s with blocks := (s.handoverAll c bs).blocks } := by
  unfold State.handoverAll
  induction bs generalizing s with
  | nil => rfl
  | cons b bs ih => rw [List.foldl_cons, ih]; rfl

@[simp] theorem State.handoverAll_chan (s : State) (c d : Chan) (bs : List BlockNo) :
    (s.handoverAll c bs).chan d = s.chan d := by
  rw [State.handoverAll_eq]; rfl

theorem firstBlocks_pos (p : Profile) : 0 < firstBlocks p := by
  unfold firstBlocks
  split <;> omega

/-- The windows that the blocks taken give, as the claim spells them (R45). -/
theorem firstWindows_eq {p : Profile} {bs : List BlockNo} (h : 0 < bs.length) :
    firstWindows p bs =
      if p.pins = [] then [{ pos := p.initialPos, kind := .found, block := bs.head? }]
      else List.zipWith (fun q b => { pos := q, kind := .pinned, block := some b }) p.pins bs := by
  unfold firstWindows
  split
  · obtain ⟨b, bs', rfl⟩ := List.exists_cons_of_length_pos h
    rfl
  · rfl

theorem length_firstWindows_le (p : Profile) (bs : List BlockNo) : (firstWindows p bs).length ≤ p.pins.length + 1 := by
  unfold firstWindows
  split
  · cases bs.head? <;> simp
  · simp only [List.length_zipWith]
    omega

/-- An accepted OPEN before its notice (R130): the context of the channel opened. -/
def State.opened (s : State) (c : Chan) (p : Profile) : State :=
  (s.handoverAll c (s.freeBlocks.take (firstBlocks p))).onChan c fun ch =>
    { (({ ch with profile := some p, staged := .empty }).placeFirst p (s.freeBlocks.take (firstBlocks p))).openValues c p
        (s.law.table p.lineLaw).idleCode (s.law.table p.exchangeLaw).idleCode with
      life := .opening, openingCount := 0 }

theorem State.openWith_eq (s : State) (c : Chan) (p : Profile) :
    s.openWith c p = (s.opened c p).raiseNotice (.channel c) .mode := by
  rfl

theorem State.opened_chan_self (s : State) (c : Chan) (p : Profile) :
    (s.opened c p).chan c =
      { ((({ s.chan c with profile := some p, staged := .empty } : Channel)).placeFirst p
          (s.freeBlocks.take (firstBlocks p))).openValues c p
          (s.law.table p.lineLaw).idleCode (s.law.table p.exchangeLaw).idleCode with
        life := .opening, openingCount := 0 } := by
  rw [State.opened, State.onChan_chan_self, State.handoverAll_chan]

theorem State.opened_chan_of_ne (s : State) {c d : Chan} (p : Profile) (h : d ≠ c) : (s.opened c p).chan d = s.chan d := by
  rw [State.opened, State.onChan_chan_of_ne _ _ h, State.handoverAll_chan]

/-! ## APPLY -/

theorem exec_applyProfile (tag channel force : Byte) (s : State) :
    exec (.applyProfile tag channel force) s = .next (serve tag 0x1A#8 (applyRequest channel force) s) := by
  rfl

theorem applyRequest_range {channel force : Byte} (s : State) (h : 31 < channel.toNat ∨ 1 < force.toNat) :
    applyRequest channel force s = (s, .refused .range) := by
  unfold applyRequest
  split
  · next hc hf =>
    obtain h | h := h
    · simp [chanOf_eq_none h] at hc
    · simp [flagOf_eq_none h] at hf
  · rfl

theorem exists_flagOf {force : Byte} (h : force.toNat ≤ 1) : ∃ forced, flagOf force = some forced :=
  ⟨_, (flagOf_eq force).trans (if_pos h)⟩

theorem applyRequest_state {c : Chan} {force : Byte} {s : State} (hforce : force.toNat ≤ 1)
    (h : (s.chan c).life ≠ .active ∨ (s.chan c).staged = .empty ∨ (s.chan c).staged.pendingRecord ≠ none) :
    applyRequest (byteOf c.val) force s = (s, .refused .state) := by
  obtain ⟨forced, hforced⟩ := exists_flagOf hforce
  simp only [applyRequest, chanOf_byteOf, hforced]
  split
  · rfl
  · next hlife =>
    have hstaged := h.resolve_left hlife
    cases hs : (s.chan c).staged <;> simp_all [Staged.pendingRecord]

/-- APPLY of an ACTIVE channel with a staged record, its checks in order (R133). -/
theorem applyRequest_staged {c : Chan} {force : Byte} {forced : Bool} {p active : Profile} {s : State}
    (hforced : flagOf force = some forced) (hlife : (s.chan c).life = .active) (hprofile : (s.chan c).profile = some active)
    (hstaged : (s.chan c).staged = .staged p) :
    applyRequest (byteOf c.val) force s =
      if p.bulk ≠ active.bulk ∨ p.pins ≠ active.pins then (s, .refused .state)
      else if ¬s.LawsValid p then (s, .refused .law)
      else if forced then (s.applyTakesEffect c p, .done [byteOf c.val, 0x01#8])
      else (s.onChan c fun ch => { ch with staged := .pending p }, .done [byteOf c.val, 0x00#8]) := by
  simp only [applyRequest, chanOf_byteOf, hforced, hprofile, hstaged, if_neg (not_not.mpr hlife)]

/-- The profile that an apply takes and the level controller's part of it (R121, R135). -/
def Channel.takeProfile (ch : Channel) (old new : Profile) : Channel := ({ ch with profile := some new }).applyLevels old new

theorem Channel.takeProfile_eq (ch : Channel) (old new : Profile) :
    ch.takeProfile old new =
      { ch with
        profile := some new, padIndex := new.padIndex
        gain := if new.alcOn then max new.gmin (min new.gmax ch.gain) else new.fixedIndex
        periodCount := if old.alcOn = new.alcOn then ch.periodCount else 0
        releaseCount := if old.alcOn = new.alcOn then ch.releaseCount else 0 } := by
  rfl

/-- An apply before its notice (R135): the profile taken, the quota reduced, the slot emptied. -/
def State.applied (s : State) (c : Chan) (old new : Profile) : State :=
  ((s.onChan c fun ch => ch.takeProfile old new).reduceQuota c new.quota (s.chan c).windows.length).onChan c
    fun ch => { ch with staged := .empty }

theorem State.applyTakesEffect_eq {s : State} {c : Chan} {active : Profile} (p : Profile)
    (h : (s.chan c).profile = some active) :
    s.applyTakesEffect c p = (s.applied c active p).raiseNotice (.channel c) .applied := by
  simp only [State.applyTakesEffect, h, Option.getD_some, State.onChan_chan_self]
  rfl

/-- Within the quota no window leaves (R61). -/
theorem State.reduceQuota_of_le {s : State} {c : Chan} {quota : Nat} (fuel : Nat) (h : (s.chan c).quotaCount ≤ quota) :
    s.reduceQuota c quota fuel = s := by
  cases fuel with
  | zero => rfl
  | succ fuel => exact if_neg (Nat.not_lt.mpr h)

/-- An apply within the quota writes the channel's context alone. -/
theorem State.applied_of_le {s : State} {c : Chan} (old : Profile) {new : Profile}
    (h : (s.chan c).windows.length + 1 ≤ new.quota) :
    s.applied c old new = s.setChan c { (s.chan c).takeProfile old new with staged := .empty } := by
  rw [State.applied, State.reduceQuota_of_le _ (by rw [State.onChan_chan_self]; exact h), State.onChan_onChan]
  rfl

end Sys2Proof.Machine

namespace Sys2Proof

open Sys2Proof.Machine

/-! ## The statements -/

/-- Settles O34: by whether anybody waits, and by the claim of the head entry. -/
theorem returnedBlockServesTheHead : Obligations.ReturnedBlockServesTheHead := by
  refine fun s b => ⟨s.returnBlock_free b, fun e rest h => ?_⟩
  rw [State.returnBlock_served b h]
  refine ⟨rfl, ⟨rfl, rfl, rfl, rfl, rfl, fun d hd => ?_⟩, ?_, fun k hk => ?_, fun p hp => ?_, fun hscout hlen => ?_⟩
  · rw [State.onChan_chan_of_ne _ _ hd]; rfl
  · rw [State.onChan_block, State.handover_block, if_pos rfl]
  · rw [State.onChan_block, State.handover_block, if_neg hk]; rfl
  · rw [State.onChan_chan_self, WaitEntry.place_pin hp, Channel.fillPin_eq]; rfl
  · rw [State.onChan_chan_self, WaitEntry.place_scout hscout]
    exact ⟨_, Channel.nextFree_windowPositions _ (by omega), rfl⟩

/-- Settles O30: each check of the table, in order. -/
theorem openRefusals : Obligations.OpenRefusals := by
  refine fun tag s hroom => ⟨fun channel h => ?_, fun c => ⟨fun hlife => ?_, fun hlife hempty => ?_,
    fun p hlife hstaged => ⟨fun hmap => ?_, fun hmap hvalid => ?_, fun hmap hvalid hfew => ?_⟩⟩⟩
  · rw [exec_openChannel, serve_of_refused tag _ hroom (openRequest_range s h)]; rfl
  · rw [exec_openChannel, serve_of_refused tag _ hroom (openRequest_open hlife)]; rfl
  · rw [exec_openChannel, serve_of_refused tag _ hroom (openRequest_empty hlife hempty)]; rfl
  all_goals obtain ⟨hnomap, hnolaw, hnopool, -⟩ := openRequest_staged hlife hstaged
  · rw [exec_openChannel, serve_of_refused tag _ hroom (hnomap hmap)]; rfl
  · rw [exec_openChannel, serve_of_refused tag _ hroom (hnolaw hmap hvalid)]; rfl
  · rw [exec_openChannel, serve_of_refused tag _ hroom (hnopool hmap hvalid hfew)]; rfl

/-- Settles O29: the state before the notice is `State.opened`, read part by part. -/
theorem openBuildsTheChannel : Obligations.OpenBuildsTheChannel := by
  intro tag c p s hroom hlife hstaged hfields hline hexchange lineIdle exchangeIdle hlineValid hlineIdle hexValid hexIdle
    count taken hcount
  obtain ⟨-, -, -, haccept⟩ := openRequest_staged hlife hstaged
  obtain ⟨-, -, -, hpins, -⟩ := hfields
  have htakenLength : 0 < taken.length := by
    rw [List.length_take, Nat.min_eq_left hcount]
    exact firstBlocks_pos p
  obtain ⟨scoutBlock, hlast⟩ : ∃ b, taken.getLast? = some b :=
    ⟨_, List.getLast?_eq_some_getLast (List.ne_nil_of_length_pos htakenLength)⟩
  refine ⟨s.opened c p, lowestUnoccupied ((firstWindows p taken).map Window.pos), scoutBlock, firstWindows p taken, ?_,
    ⟨?_, ?_, ?_, ?_, ?_, fun d hd => s.opened_chan_of_ne p hd⟩, ?_, firstWindows_eq htakenLength, hlast, ?_, fun b => ?_, ?_⟩
  · rw [exec_openChannel, serve_of_done tag _ hroom (haccept ⟨hline, hexchange⟩ ⟨hlineValid, hexValid⟩ hcount),
      State.openWith_eq]
  · rw [State.opened, State.handoverAll_eq]; rfl
  · rw [State.opened, State.handoverAll_eq]; rfl
  · rw [State.opened, State.handoverAll_eq]; rfl
  · rw [State.opened, State.handoverAll_eq]; rfl
  · rw [State.opened, State.handoverAll_eq]; rfl
  · rw [State.opened, State.handoverAll_eq]; rfl
  · refine lowestUnoccupied_spec (exists_unoccupied ?_)
    have := length_firstWindows_le p taken
    rw [List.length_map]
    omega
  · rw [State.opened, State.onChan_block, State.handoverAll_block]; rfl
  · rw [State.opened_chan_self]
    simp only [Channel.placeFirst, Channel.openValues, LawTable.idleCode, hlineIdle, hexIdle, Option.getD_some]
    rw [show s.freeBlocks.take (firstBlocks p) = taken from rfl, hlast]
    rfl

/-- Settles O31: the checks of APPLY in order, and an apply within the quota. -/
theorem applyMarksOrTakesEffect : Obligations.ApplyMarksOrTakesEffect := by
  refine fun tag s hroom => ⟨fun c p active hlife hprofile hstaged => ⟨fun hsame hvalid => ⟨?_, fun hquota => ?_⟩,
    fun force hforce => ⟨fun hsame => ?_, fun hsame hvalid => ?_⟩⟩, fun channel force h => ?_, fun c force hforce h => ?_⟩
  · have happly := applyRequest_staged (force := 0x00#8) rfl hlife hprofile hstaged
    rw [if_neg (by simp [hsame.1, hsame.2]), if_neg (not_not.mpr hvalid)] at happly
    exact (exec_applyProfile ..).trans (congrArg _ (serve_of_done tag _ hroom happly))
  · have happly := applyRequest_staged (force := 0x01#8) rfl hlife hprofile hstaged
    rw [if_neg (by simp [hsame.1, hsame.2]), if_neg (not_not.mpr hvalid), State.applyTakesEffect_eq p hprofile,
      State.applied_of_le active hquota] at happly
    exact (exec_applyProfile ..).trans (congrArg _ (serve_of_done tag _ hroom happly))
  · obtain ⟨forced, hforced⟩ := exists_flagOf hforce
    have happly := applyRequest_staged hforced hlife hprofile hstaged
    rw [if_pos (not_and_or.mp hsame)] at happly
    rw [exec_applyProfile, serve_of_refused tag _ hroom happly]; rfl
  · obtain ⟨forced, hforced⟩ := exists_flagOf hforce
    have happly := applyRequest_staged hforced hlife hprofile hstaged
    rw [if_neg (by simp [hsame.1, hsame.2]), if_pos hvalid] at happly
    rw [exec_applyProfile, serve_of_refused tag _ hroom happly]; rfl
  · rw [exec_applyProfile, serve_of_refused tag _ hroom (applyRequest_range s h)]; rfl
  · rw [exec_applyProfile, serve_of_refused tag _ hroom (applyRequest_state hforce h)]; rfl

end Sys2Proof
end

section
/-!
PROOFS. The events of an open channel taken as commands of their own (log 2): the service mode (R88 to R92), the tone monitor
(R106, R107, R110) and the level controller (R118, R119); and the arrival of a CLOSED channel (R132, R152).
-/

namespace Sys2Proof.Machine

/-! ## A notice in flight within an event -/

/-- The notice on the line, if there is one, carries its source's snapshot as the state stands. -/
def State.Settled (s : State) : Prop := ∀ (n : Notice) (r : Record), s.link.tx = .notice n r → r = s.noticeRecord n

/-- An idle transmitter sends no notice. -/
theorem State.settled_of_idle {s : State} (h : s.link.tx = .idle) : s.Settled := by
  intro n r hn
  rw [h] at hn
  cases hn

theorem State.arbitrate_settled {s : State} (h : s.Settled) : s.arbitrate.Settled := by
  unfold State.arbitrate
  split
  · split
    · intro n r hn; cases hn
    · split
      · intro n r hn; cases hn; rfl
      · exact h
  · exact h

/-- A notice taken at once carries the snapshot of the moment (R171). -/
theorem State.raiseNotice_settled {s : State} (u : Source) (k : NoticeKind) (h : s.Settled) :
    (s.raiseNotice u k).Settled := by
  unfold State.raiseNotice
  split
  · exact State.arbitrate_settled h
  · exact h

/-- Settling changes nothing where the snapshot is the present one already. -/
theorem State.settleNotice_of_settled {s t : State} (h : s.link.tx = .idle → t.Settled) : s.settleNotice t = t := by
  unfold State.settleNotice
  split
  · next n r hs ht =>
    rw [← h hs n r ht, ← ht]
    rfl
  · rfl

@[simp] theorem State.settleNotice_self (s : State) : s.settleNotice s = s :=
  State.settleNotice_of_settled State.settled_of_idle

/-! ## An event of an open channel -/

theorem channelEvent_of_open {c : Chan} {s : State} {p : Profile} (act : Profile → State → State)
    (hlife : (s.chan c).life ≠ .closed) (hp : (s.chan c).profile = some p) :
    channelEvent c act s = .next (s.settleNotice (act p s)) := by
  simp only [channelEvent, if_neg hlife, hp]

/-- An event that writes the channel's context and raises nothing. -/
theorem settleNotice_setChan (s : State) (c : Chan) (ch : Channel) :
    s.settleNotice (s.setChan c ch) = s.setChan c ch :=
  State.settleNotice_of_settled fun h => State.settled_of_idle h

/-- An event that leaves the link to one notice. -/
theorem settleNotice_raised {s t : State} (u : Source) (k : NoticeKind) (h : t.link = s.link) :
    s.settleNotice (t.raiseNotice u k) = t.raiseNotice u k :=
  State.settleNotice_of_settled fun hidle => State.raiseNotice_settled u k (State.settled_of_idle (h ▸ hidle))

/-- An event that leaves the link to two notices. -/
theorem settleNotice_raised_twice {s t : State} (u v : Source) (k j : NoticeKind) (h : t.link = s.link) :
    s.settleNotice ((t.raiseNotice u k).raiseNotice v j) = (t.raiseNotice u k).raiseNotice v j :=
  State.settleNotice_of_settled fun hidle =>
    State.raiseNotice_settled v j (State.raiseNotice_settled u k (State.settled_of_idle (h ▸ hidle)))

theorem life_ne_closed_of_active {ch : Channel} (h : ch.life = .active) : ch.life ≠ .closed := by
  rw [h]; exact Life.noConfusion

/-! ## The service mode -/

theorem Channel.diverging_iff (ch : Channel) : ch.diverging = true ↔ 1024 ≤ ch.divRun := by
  simp [Channel.diverging]

theorem Channel.converged_iff (ch : Channel) : ch.converged = true ↔ ch.service = .acquire ∧ 2048 ≤ ch.convRun := by
  simp [Channel.converged]

theorem Channel.pathMoved_iff (ch : Channel) : ch.pathMoved = true ↔ ch.service = .track ∧ 512 ≤ ch.changeRun := by
  simp [Channel.pathMoved]

/-- Blocks zeroed one after another: each has zero taps and a fitting check code, and no other changes (R32). -/
theorem foldl_zeroBlock_block (bs : List BlockNo) (s : State) (j : BlockNo) :
    (bs.foldl State.zeroBlock s).block j =
      if j ∈ bs then { s.block j with taps := List.replicate 32 0, altered := false } else s.block j := by
  induction bs generalizing s with
  | nil => rfl
  | cons b bs ih =>
    rw [List.foldl_cons, ih, State.zeroBlock, State.writeTaps_block]
    by_cases hj : j = b
    · subst hj; simp [zeroTaps]
    · simp [hj]

theorem foldl_zeroBlock_eq (bs : List BlockNo) (s : State) :
    bs.foldl State.zeroBlock s = { s with blocks := (bs.foldl State.zeroBlock s).blocks } := by
  induction bs generalizing s with
  | nil => rfl
  | cons b bs ih => rw [List.foldl_cons, ih]; rfl

/-- Every held tap of a channel set to 0 (R32, R60). -/
theorem State.zeroHeldTaps_block (s : State) (c : Chan) (j : BlockNo) :
    (s.zeroHeldTaps c).block j =
      if j ∈ (s.chan c).covered.map Prod.snd then { s.block j with taps := List.replicate 32 0, altered := false }
      else s.block j :=
  foldl_zeroBlock_block _ s j

theorem State.zeroHeldTaps_eq (s : State) (c : Chan) :
    s.zeroHeldTaps c = { s with blocks := (s.zeroHeldTaps c).blocks } :=
  foldl_zeroBlock_eq _ s

@[simp] theorem State.zeroHeldTaps_chan (s : State) (c d : Chan) : (s.zeroHeldTaps c).chan d = s.chan d := by
  rw [State.zeroHeldTaps_eq]; rfl

@[simp] theorem State.zeroHeldTaps_link (s : State) (c : Chan) : (s.zeroHeldTaps c).link = s.link := by
  rw [State.zeroHeldTaps_eq]

@[simp] theorem State.zeroHeldTaps_wait (s : State) (c : Chan) : (s.zeroHeldTaps c).wait = s.wait := by
  rw [State.zeroHeldTaps_eq]

/-- What a divergence makes of the channel's context (R60, R90). -/
def Channel.diverged (ch : Channel) : Channel :=
  { ch.restartDwell with service := .acquire, convRun := 0, changeRun := 0, divRun := 0 }.latchDiverged.countDivergence

/-- A divergence before its notices (R60, R90). -/
def State.divergedState (s : State) (c : Chan) : State := (s.zeroHeldTaps c).onChan c Channel.diverged

theorem State.diverge_eq (s : State) (c : Chan) :
    s.diverge c =
      if (s.chan c).service = .track then
        ((s.divergedState c).raiseNotice (.channel c) .diverged).raiseNotice (.channel c) .mode
      else (s.divergedState c).raiseNotice (.channel c) .diverged := by
  rfl

theorem State.divergedState_chan_self (s : State) (c : Chan) :
    (s.divergedState c).chan c = (s.chan c).diverged := by
  rw [State.divergedState, State.onChan_chan_self, State.zeroHeldTaps_chan]

theorem State.divergedState_chan_of_ne (s : State) {c d : Chan} (h : d ≠ c) : (s.divergedState c).chan d = s.chan d := by
  rw [State.divergedState, State.onChan_chan_of_ne _ _ h, State.zeroHeldTaps_chan]

theorem State.divergedState_link (s : State) (c : Chan) : (s.divergedState c).link = s.link := by
  rw [State.divergedState, State.onChan_link, State.zeroHeldTaps_link]

theorem Channel.diverged_eq (ch : Channel) :
    ch.diverged =
      { ch with
        service := .acquire, convRun := 0, changeRun := 0, divRun := 0
        scout := ch.scout.map fun k => { pos := k.pos, block := k.block, dwell := 0 }
        conditions := { ch.conditions with diverged := true }
        counters := { ch.counters with divergences := min 255 (ch.counters.divergences + 1) } } := by
  rfl

/-! ## The tone monitor -/

theorem ToneRun.complete_iff (t : ToneRun) : t.complete = true ↔ 3200 ≤ t.count := by
  simp [ToneRun.complete]

theorem ToneRun.restart_eq (t : ToneRun) :
    t.restart = if 3200 ≤ t.count then { count := 0, reversal := false } else t := by
  simp only [ToneRun.restart, ToneRun.complete_iff]
  rfl

/-- The table of R107, told by the policy and the mode. -/
theorem toneModeAfter_eq (policy : TonePolicy) (mode : ToneMode) (reversal : Bool) :
    toneModeAfter policy mode reversal =
      match policy, mode with
      | .ignore, m => m
      | .nlpOnly, .normal => .nlpOff
      | .nlpOnly, m => m
      | .full, .normal => if reversal then .bypass else .nlpOff
      | .full, .nlpOff => if reversal then .bypass else .nlpOff
      | .full, .bypass => .bypass := by
  cases policy <;> cases mode <;> cases reversal <;> rfl

/-- Both streams that have reported start afresh (R106). -/
def Channel.reported (ch : Channel) : Channel := { ch with toneS := ch.toneS.restart, toneX := ch.toneX.restart }

/-- A change of tone mode, latched and counted (R107). -/
def Channel.toneChanged (ch : Channel) (mode : ToneMode) : Channel :=
  { ch with
    toneMode := mode
    conditions := { ch.conditions with tone := true }
    counters := { ch.counters with toneBypasses := min 255 (ch.counters.toneBypasses + 1) } }

/-- A detection event (R106, R107). -/
theorem State.detectTone_eq (s : State) (c : Chan) (p : Profile) :
    s.detectTone c p =
      if 3200 ≤ (s.chan c).toneS.count ∨ 3200 ≤ (s.chan c).toneX.count then
        if toneModeAfter p.tonePolicy (s.chan c).toneMode (s.chan c).toneReversal = (s.chan c).toneMode then
          s.onChan c Channel.reported
        else
          ((s.onChan c fun ch =>
            ch.reported.toneChanged (toneModeAfter p.tonePolicy (s.chan c).toneMode (s.chan c).toneReversal)).raiseNotice
            (.channel c) .tone).raiseNotice (.channel c) .mode
      else s := by
  simp only [State.detectTone, Bool.or_eq_true, ToneRun.complete_iff, State.onChan_onChan]
  rfl

/-- The exit to NORMAL within a sample (R110). -/
theorem State.returnToNormal_eq (s : State) (c : Chan) :
    s.returnToNormal c =
      if (s.chan c).inSample = true ∧ (s.chan c).quietRun = 2000 ∧ (s.chan c).toneMode ≠ .normal then
        (s.onChan c fun ch => { ch with toneMode := .normal }).raiseNotice (.channel c) .mode
      else s := by
  rfl

/-! ## The level controller -/

/-- A step of g that is due and held (R119). -/
def Channel.clip (ch : Channel) : Channel :=
  { ch with
    conditions := { ch.conditions with clipped := true }
    counters := { ch.counters with clipEvents := min 255 (ch.counters.clipEvents + 1) } }

theorem Channel.stepDown_moved {ch : Channel} {p : Profile} (hlo : p.gmin < ch.gain) (hhi : ch.gain ≤ p.gmax) :
    ch.stepDown p = { ch with gain := ch.gain - 1 } :=
  if_pos ⟨hlo, hhi.trans (Nat.le_succ _)⟩

theorem Channel.stepDown_held {ch : Channel} {p : Profile} (h : ch.gain = p.gmin) : ch.stepDown p = ch.clip :=
  if_neg fun h' => absurd h'.1 (by omega)

theorem Channel.stepUp_moved {ch : Channel} {p : Profile} (hlo : p.gmin ≤ ch.gain) (hhi : ch.gain < p.gmax) :
    ch.stepUp p = { ch with gain := ch.gain + 1 } :=
  if_pos ⟨hhi, hlo.trans (Nat.le_succ _)⟩

theorem Channel.stepUp_held {ch : Channel} {p : Profile} (h : ch.gain = p.gmax) : ch.stepUp p = ch.clip :=
  if_neg fun h' => absurd h'.1 (by omega)

/-- The end of a period, by where the predicted level lies (R118). -/
theorem Channel.endPeriod_eq {ch : Channel} (p : Profile) (h : 128 ≤ ch.periodCount) :
    ch.endPeriod p =
      if p.target * 19 < ch.predicted * 16 then { ch with periodCount := 0, releaseCount := 0 }.stepDown p
      else if ch.predicted * 32 < p.target * 27 then
        if ch.releaseCount < 3 then { ch with periodCount := 0, releaseCount := ch.releaseCount + 1 }
        else { ch with periodCount := 0, releaseCount := 0 }.stepUp p
      else { ch with periodCount := 0, releaseCount := 0 } := by
  rw [Channel.endPeriod, if_pos h]
  simp only [Channel.alcAction, Nat.lt_iff_add_one_le, Nat.reduceLeDiff]
  rfl

/-! ## An arrival -/

theorem exec_sampleArrival (c : Chan) (rin sin : Byte) (upset : List Disturbance) (s : State) :
    exec (.sampleArrival c rin sin upset) s = execSampleArrival c rin sin upset s := by
  rfl

/-- Where a frame owes the channel an arrival, it is delivered and taken (R152). -/
theorem execSampleArrival_delivered {s : State} {c : Chan} {f : Frame} {n m : Slot} (rin sin : Byte)
    (upset : List Disturbance) (h : s.AwaitsArrival c f n m) :
    execSampleArrival c rin sin upset s =
      ((s.disturb upset).onPort fun p => p.noteArrival f c (n, m)).takeArrival c rin sin := by
  obtain ⟨hrun, hclock, hawait, hframe, harrived, hline, hexchange⟩ := h
  have hframing : s.port.framing = true := (Port.framing_iff _).mpr ⟨hrun, hclock, hawait⟩
  have hslots : f.slotsOf c = some (n, m) := by
    simp only [Frame.slotsOf, slotOf_unique hline, slotOf_unique hexchange]
  simp only [execSampleArrival, State.disturb_port, hframing, hframe, hslots, if_neg harrived]

/-- A frame that has no slot for a channel on one of the highways. -/
theorem Frame.slotsOf_eq_none {f : Frame} {c : Chan}
    (h : (∀ k : Slot, f.lineMap[k.val] ≠ some c) ∨ ∀ k : Slot, f.exchangeMap[k.val] ≠ some c) : f.slotsOf c = none := by
  unfold Frame.slotsOf
  split
  · next n m hn hm =>
    obtain h | h := h
    · exact absurd (slotOf_eq_some hn) (h n)
    · exact absurd (slotOf_eq_some hm) (h m)
  · rfl

/-- Where no frame owes the channel an arrival, the codes are discarded (R152). -/
theorem execSampleArrival_discarded {s : State} {c : Chan} (rin sin : Byte) (upset : List Disturbance)
    (h : s.port.frame = none ∨ ∃ f : Frame, s.port.frame = some f ∧
      (c ∈ f.arrived ∨ (∀ k : Slot, f.lineMap[k.val] ≠ some c) ∨ ∀ k : Slot, f.exchangeMap[k.val] ≠ some c)) :
    execSampleArrival c rin sin upset s = .next (s.disturb upset) := by
  simp only [execSampleArrival, State.disturb_port]
  split
  · next f hframing hframe =>
    obtain hnone | ⟨g, hg, harrived | hmap⟩ := h
    · rw [hnone] at hframe; cases hframe
    · obtain rfl : f = g := Option.some.inj (hframe.symm.trans hg)
      simp only [if_pos harrived]
      split <;> rfl
    · obtain rfl : f = g := Option.some.inj (hframe.symm.trans hg)
      simp [Frame.slotsOf_eq_none hmap]
  · rfl

/-- Eight bits of a slot, the most significant first, make the code (R143). -/
theorem slotCode_getLsbD (b : Byte) : slotCode (Vector.ofFn fun i : Fin 8 => b.getLsbD (7 - i.val)) = b := by
  have hb := b.isLt
  have hvalue : (Vector.ofFn fun i : Fin 8 => b.getLsbD (7 - i.val)).toList.foldl (fun n b => 2 * n + b.toNat) 0
      = b.toNat := by
    rw [Vector.toList_ofFn]
    simp [List.ofFn_succ, BitVec.getLsbD, testBit_toNat, -Nat.testBit_zero]
    omega
  rw [slotCode, hvalue, byteOf, BitVec.ofNat_toNat, BitVec.setWidth_eq]

end Sys2Proof.Machine

namespace Sys2Proof

open Sys2Proof.Machine

/-! ## The statements -/

/-- Settles O45: the arrival is taken transparently, or discarded. -/
theorem closedChannelPassesCodes : Obligations.ClosedChannelPassesCodes := by
  refine fun c rin sin upset s => ⟨fun f n m hawaits hclosed => ?_, fun hnone => ?_, ?_⟩
  · refine ⟨((s.disturb upset).onPort fun p => p.noteArrival f c (n, m)).onChan c fun ch => ch.emit rin sin, ?_, ?_⟩
    · rw [exec_sampleArrival, execSampleArrival_delivered rin sin upset hawaits, State.takeArrival, if_pos]
      rw [State.onPort_chan, State.disturb_chan]
      exact hclosed
    · refine ⟨?_, ?_, fun d hd => ?_, fun b => ?_, ?_, ?_, ?_, ?_, ?_⟩
      · simp [Channel.emit]
      · rw [State.onChan_port, State.onPort_port, State.disturb_port]
        rfl
      · rw [State.onChan_chan_of_ne _ _ hd, State.onPort_chan, State.disturb_chan]
      · rw [State.onChan_block, State.onPort_block, State.disturb_block]
      all_goals simp
  · rw [exec_sampleArrival, execSampleArrival_discarded rin sin upset hnone]
    exact ⟨_, rfl, State.disturb_block s upset, by simp⟩
  · rw [arrivalOnPins, slotCode_getLsbD, slotCode_getLsbD]

/-- Settles O51: each event where its run has reached its limit, with its notices. -/
theorem serviceModeEvents : Obligations.ServiceModeEvents := by
  intro c s hlife hprofile
  obtain ⟨p, hp⟩ := Option.ne_none_iff_exists'.mp hprofile
  have hopen := life_ne_closed_of_active hlife
  refine ⟨fun hservice hrun hdiv => ?_, fun hservice hrun hdiv => ?_, fun hdiv => ⟨s.divergedState c, ?_, ?_, ?_, fun b => ?_, ?_⟩⟩
  · refine (channelEvent_of_open _ hopen hp).trans (congrArg _ ?_)
    rw [if_pos ⟨hlife, (Channel.converged_iff _).mpr ⟨hservice, hrun⟩, by rw [Channel.diverging_iff]; omega⟩]
    exact settleNotice_raised _ _ rfl
  · refine (channelEvent_of_open _ hopen hp).trans (congrArg _ ?_)
    rw [if_pos ⟨hlife, (Channel.pathMoved_iff _).mpr ⟨hservice, hrun⟩, by rw [Channel.diverging_iff]; omega⟩]
    exact settleNotice_raised _ _ rfl
  · refine (channelEvent_of_open _ hopen hp).trans (congrArg _ ?_)
    rw [if_pos ⟨hlife, (Channel.diverging_iff _).mpr hdiv⟩, State.diverge_eq]
    split
    · exact settleNotice_raised_twice _ _ _ _ (s.divergedState_link c)
    · exact settleNotice_raised _ _ (s.divergedState_link c)
  · refine ⟨?_, ?_, ?_, ?_, ?_, fun d hd => s.divergedState_chan_of_ne hd⟩
    all_goals rw [State.divergedState, State.zeroHeldTaps_eq]; rfl
  · rw [State.divergedState, State.onChan_wait, State.zeroHeldTaps_wait]
  · rw [State.divergedState, State.onChan_block, State.zeroHeldTaps_block]
  · rw [State.divergedState_chan_self, Channel.diverged_eq]

/-- Settles O52: a detection by whether the policy's table moves the mode, and the exit to NORMAL by the mark of a sample. -/
theorem toneEvents : Obligations.ToneEvents := by
  refine fun c s p hlife hp => ⟨fun hdetected => ?_, fun hin hquiet hmode => ?_, fun hin => ?_⟩
  · have hevent : exec (.toneDetection c) s = .next (s.settleNotice (s.detectTone c p)) :=
      channelEvent_of_open _ hlife hp
    have hmode := toneModeAfter_eq p.tonePolicy (s.chan c).toneMode (s.chan c).toneReversal
    rw [State.detectTone_eq, if_pos hdetected] at hevent
    refine ⟨fun hsame => ?_, fun hdiffers => ?_⟩
    · rw [if_pos (hmode.trans hsame), State.onChan_eq_setChan, settleNotice_setChan, Channel.reported, ToneRun.restart_eq,
        ToneRun.restart_eq] at hevent
      exact hevent
    · rw [if_neg fun h => hdiffers (hmode.symm.trans h), hmode, settleNotice_raised_twice (s := s) (t := s.onChan c _) _ _ _ _ rfl,
        State.onChan_eq_setChan, Channel.reported,
        ToneRun.restart_eq, ToneRun.restart_eq] at hevent
      exact hevent
  · have hevent : exec (.returnToNormal c) s = .next (s.settleNotice (s.returnToNormal c)) :=
      channelEvent_of_open _ hlife hp
    rw [State.returnToNormal_eq, if_pos ⟨hin, hquiet, hmode⟩, settleNotice_raised (s := s) (t := s.onChan c _) _ _ rfl] at hevent
    exact hevent
  · have hevent : exec (.returnToNormal c) s = .next (s.settleNotice (s.returnToNormal c)) :=
      channelEvent_of_open _ hlife hp
    rwa [State.returnToNormal_between s c hin, State.settleNotice_self] at hevent

/-- Settles O53: by where the predicted level lies, and by whether g is at the limit it moves toward. -/
theorem alcPeriodEndMovesTheGain : Obligations.AlcPeriodEndMovesTheGain := by
  intro c s p hlife hp halc hperiod hlo hhi
  have hevent : exec (.alcPeriodEnd c) s = .next (s.setChan c ((s.chan c).endPeriod p)) := by
    refine (channelEvent_of_open _ (life_ne_closed_of_active hlife) hp).trans (congrArg _ ?_)
    rw [if_pos ⟨hlife, halc⟩]
    exact settleNotice_setChan s c _
  rw [Channel.endPeriod_eq p hperiod, Channel.predicted, level] at hevent
  refine ⟨fun habove hgain => ?_, fun habove hgain => ?_, fun habove hbelow hrelease => ?_,
    fun habove hbelow hrelease hgain => ?_, fun habove hbelow hrelease hgain => ?_, fun habove hbelow => ?_⟩
  · rw [if_pos habove, Channel.stepDown_moved (by exact hgain) (by exact hhi)] at hevent
    exact hevent
  · rw [if_pos habove, Channel.stepDown_held (by exact hgain)] at hevent
    exact hevent
  · rw [if_neg habove, if_pos hbelow, if_pos hrelease] at hevent
    exact hevent
  · rw [if_neg habove, if_pos hbelow, if_neg (Nat.not_lt.mpr hrelease), Channel.stepUp_moved (by exact hlo) (by exact hgain)] at hevent
    exact hevent
  · rw [if_neg habove, if_pos hbelow, if_neg (Nat.not_lt.mpr hrelease), Channel.stepUp_held (by exact hgain)] at hevent
    exact hevent
  · rw [if_neg habove, if_neg hbelow] at hevent
    exact hevent

end Sys2Proof
end

section
/-!
PROOFS. The machine right after reset has every law of its states; and RESTART, exactly (R139, R168).
-/

namespace Sys2Proof.Machine

/-! ## After reset -/

theorem State.reset_chan (c : Chan) : State.reset.chan c = Channel.reset c := State.powerOn_chan _ c

theorem State.reset_block (b : BlockNo) : State.reset.block b = Block.reset := State.powerOn_block _ b

theorem Channel.reset_countsSound (c : Chan) : (Channel.reset c).CountsSound := by
  have := c.isLt
  refine ⟨Nat.zero_le _, ⟨nofun, nofun⟩, Nat.zero_le _, Nat.zero_lt_succ _, Nat.zero_lt_succ _, Nat.zero_lt_succ _,
    Nat.zero_le _, ⟨?_, ?_⟩, Nat.zero_lt_succ _, Nat.zero_lt_succ _, Nat.zero_le _, Nat.zero_le _, nofun, nofun, rfl⟩
  · show 1 ≤ c.val + 1; omega
  · show c.val + 1 ≤ 32767; omega

theorem Channel.reset_signalSound (c : Chan) : (Channel.reset c).SignalSound := by
  have := c.isLt
  refine ⟨by rw [Channel.reset_ring, List.length_replicate], fun v hv => ?_, Nat.zero_le _, Nat.zero_le _, Nat.zero_le _,
    Nat.zero_le _, Nat.zero_le _, ?_, ?_⟩
  · rw [Channel.reset_ring] at hv
    rw [List.eq_of_mem_replicate hv]
    decide
  · show 1 ≤ c.val + 1; omega
  · show c.val + 1 ≤ 32767; omega

theorem LawTable.reset_linear : ∀ v ∈ LawTable.reset.entries, Linear v := by
  intro v hv
  rw [List.eq_of_mem_replicate hv]
  decide

theorem LoadBuffer.empty_linear : ∀ q ∈ LoadBuffer.empty.quarters.toList, ∀ vs ∈ q, ∀ v ∈ vs, Linear v := by
  intro q hq
  have : q = none := by
    rw [show LoadBuffer.empty.quarters.toList = List.replicate 4 none from rfl] at hq
    exact List.eq_of_mem_replicate hq
  subst this
  nofun

theorem SlotMap.namesOnce_of_empty : SlotMap.NamesOnce (Vector.replicate 32 none) := by
  intro n k c hn
  rw [Vector.getElem_replicate] at hn
  cases hn

theorem Channel.reset_placementSound (c : Chan) : (Channel.reset c).PlacementSound := by
  refine ⟨?_, ?_, ?_, ?_, fun _ => ⟨rfl, rfl⟩⟩
  · rw [Channel.reset_windows]; exact .nil
  · rw [Channel.reset_scout]; nofun
  · rw [Channel.reset_windows]; nofun
  · rw [Channel.reset_profile]; nofun

theorem State.reset_wait : State.reset.wait = [] := rfl

theorem State.reset_poolSound : State.reset.PoolSound where
  profilesHeld c := by rw [State.reset_chan]; exact ⟨fun _ => rfl, fun _ => rfl⟩
  profilesSound c := by
    simp [State.reset_chan, Channel.PendingSound, Staged.records, Staged.pendingRecord]
  holders c := by
    rw [State.reset_chan]
    refine ⟨List.nodup_nil, fun b => ?_⟩
    rw [State.reset_block]
    exact ⟨nofun, nofun⟩
  waitMeansEmpty h := absurd State.reset_wait h
  pinsFirst := by
    unfold State.PinsFirst
    rw [State.reset_wait]
    rfl
  placement c := by
    rw [State.reset_chan]
    exact Channel.reset_placementSound c
  waits := by
    unfold State.WaitSound
    rw [State.reset_wait]
    refine ⟨List.nodup_nil, fun c => ⟨fun _ _ he => absurd he List.not_mem_nil, fun h => absurd ?_ h⟩⟩
    rw [State.reset_chan, Channel.reset_life]

/-! ## RESTART -/

/-- A channel as the steps of R136 leave it. -/
def Channel.shut (ch : Channel) : Channel :=
  { ch with life := .closed, profile := none, staged := .empty, frozen := false, windows := [], scout := none }

/-- A channel closed with nobody waiting and the master enable off: its blocks go to the free set (R69, R139). -/
theorem State.closeSteps_quiet (s : State) (c : Chan) (hwait : s.wait = []) (hoff : s.link.enable = false) :
    (s.closeSteps c).law = s.law ∧ (s.closeSteps c).wait = [] ∧ (s.closeSteps c).port = s.port ∧
    (s.closeSteps c).link = s.link ∧ (s.closeSteps c).pending = s.pending ∧
    (∀ d : Chan, (s.closeSteps c).chan d = if d = c then (s.chan c).shut else s.chan d) ∧
    ∀ b : BlockNo, (s.closeSteps c).block b =
      if (s.block b).condition = .held c then { s.block b with condition := .free } else s.block b := by
  unfold State.closeSteps
  extract_lets s1 s2 s3
  have hs2wait : s2.wait = [] := by simp [s2, s1, hwait]
  have h3 : s3 = { s2.onChan c fun ch => { ch with windows := [], scout := none } with blocks := s3.blocks } :=
    State.returnBlocks_eq _ _ hs2wait
  have h3block : ∀ b, s3.block b =
      if (s.block b).condition = .held c then { s.block b with condition := .free } else s.block b := fun b => by
    refine (State.returnBlocks_block (s2.onChan c fun ch => { ch with windows := [], scout := none }) (s2.heldBlocks c)
      hs2wait b).trans ?_
    simp only [State.mem_heldBlocks]
    rfl
  have h4 : s3.abortSignature c = { s3 with sig := (s3.abortSignature c).sig } := by
    unfold State.abortSignature
    split
    · rw [State.portNotice_eq_raiseNotice, State.raiseNotice_stopped]
      · rfl
      · rw [h3]; simp [s2, s1, hoff]
    · rfl
  rw [h4]
  refine ⟨?_, ?_, ?_, ?_, ?_, fun d => ?_, h3block⟩
  · rw [h3]; rfl
  · rw [h3]; exact hs2wait
  · rw [h3]; rfl
  · rw [h3]; rfl
  · rw [h3]; rfl
  · rw [State.onChan_chan, h3]
    split
    · next hd =>
      show { ((s2.onChan c fun ch => { ch with windows := [], scout := none }).chan c) with
        frozen := false, profile := none, life := .closed } = _
      rw [State.onChan_chan_self, State.withWait_chan, State.onChan_chan_self]
      rfl
    · next hd =>
      show (s2.onChan c fun ch => { ch with windows := [], scout := none }).chan d = _
      rw [State.onChan_chan_of_ne _ _ hd, State.withWait_chan, State.onChan_chan_of_ne _ _ hd]

/-- What the closing of some channels within RESTART leaves of the state but for the signature record. -/
structure State.Shut (s t : State) (cs : List Chan) : Prop where
  law : t.law = s.law
  wait : t.wait = []
  port : t.port = s.port
  link : t.link = s.link
  pending : t.pending = s.pending
  chan : ∀ c : Chan, t.chan c = if c ∈ cs ∧ (s.chan c).life ≠ .closed then (s.chan c).shut else s.chan c
  block : ∀ b : BlockNo, t.block b =
    match (s.block b).condition with
    | .held c => if c ∈ cs ∧ (s.chan c).life ≠ .closed then { s.block b with condition := .free } else s.block b
    | _ => s.block b

theorem State.Shut.nil {s : State} (hwait : s.wait = []) : s.Shut s [] :=
  ⟨rfl, hwait, rfl, rfl, rfl, fun _ => by simp, fun _ => by split <;> simp⟩

theorem State.Shut.restartClose {s : State} (c : Chan) (hwait : s.wait = []) (hoff : s.link.enable = false) :
    s.Shut (s.restartClose c) [c] := by
  unfold State.restartClose
  by_cases hlife : (s.chan c).life = .closed
  · rw [if_pos hlife]
    refine ⟨rfl, hwait, rfl, rfl, rfl, fun d => ?_, fun b => ?_⟩
    · rw [if_neg fun h => h.2 (by rw [List.mem_singleton.mp h.1]; exact hlife)]
    · split
      · rw [if_neg fun h => h.2 (by rw [List.mem_singleton.mp h.1]; exact hlife)]
      · rfl
  · rw [if_neg hlife]
    obtain ⟨hlaw, hw, hport, hlink, hpending, hchan, hblock⟩ := s.closeSteps_quiet c hwait hoff
    refine ⟨hlaw, hw, hport, hlink, hpending, fun d => ?_, fun b => ?_⟩
    · rw [hchan]
      by_cases hd : d = c
      · subst hd; simp [hlife]
      · simp [hd]
    · rw [hblock]
      cases hk : (s.block b).condition with
      | free => simp
      | retired => simp
      | held d =>
        by_cases hd : d = c
        · subst hd; simp [hlife]
        · simp [hd]

theorem Channel.shut_life (ch : Channel) : ch.shut.life = .closed := rfl

theorem State.Shut.trans {s t u : State} {cs ds : List Chan} (h : s.Shut t cs) (k : t.Shut u ds) : s.Shut u (cs ++ ds) := by
  refine ⟨k.law.trans h.law, k.wait, k.port.trans h.port, k.link.trans h.link, k.pending.trans h.pending, fun c => ?_,
    fun b => ?_⟩
  · rw [k.chan, h.chan]
    by_cases hl : (s.chan c).life = .closed
    · simp [hl]
    · by_cases hc : c ∈ cs <;> simp [hl, hc, Channel.shut_life]
  · rw [k.block, h.block]
    cases hk : (s.block b).condition with
    | free => simp [hk]
    | retired => simp [hk]
    | held c =>
      by_cases hl : (s.chan c).life = .closed
      · simp [hl, hk, h.chan]
      · by_cases hc : c ∈ cs
        · simp [hl, hc]
        · simp [hl, hc, hk, h.chan]

theorem State.Shut.foldl_restartClose (cs : List Chan) {s : State} (hwait : s.wait = []) (hoff : s.link.enable = false) :
    s.Shut (cs.foldl State.restartClose s) cs := by
  induction cs generalizing s with
  | nil => exact .nil hwait
  | cons c cs ih =>
    have hc := State.Shut.restartClose c hwait hoff
    exact hc.trans (ih hc.wait (by rw [hc.link, hoff]))

/-- The state that the channels' part of RESTART leaves, with every channel among those closed. -/
theorem State.restartBlocks_shut (s : State) (hoff : s.link.enable = false) :
    ∃ t : State, (s.withWait []).Shut t allChans ∧
      s.restartBlocks =
        { t with
          channels := t.channels.map fun ch => { ch with staged := .empty, conditions := .clear, counters := .zero }
          law := { t.law with buffer := .empty }
          sig := .reset
          port := t.port.conditionsRead.countersRead } :=
  ⟨_, State.Shut.foldl_restartClose allChans rfl hoff, rfl⟩

end Sys2Proof.Machine

namespace Sys2Proof

open Sys2Proof.Machine

/-! ## The statements -/

/-- Settles O55: each law, by the values a channel, a block and the port have after reset. -/
theorem resetSatisfiesTheLaws : Obligations.ResetSatisfiesTheLaws := by
  refine ⟨⟨fun c => ?_, by decide⟩, ⟨by decide, List.nodup_nil, nofun, fun _ => ⟨rfl, rfl⟩⟩, fun c => ?_, fun c => ?_,
    ⟨⟨LawTable.reset_linear, LawTable.reset_linear, LoadBuffer.empty_linear⟩, fun c => ?_⟩, fun b => ?_,
    ⟨SlotMap.namesOnce_of_empty, SlotMap.namesOnce_of_empty, fun c h => ?_⟩, by decide, ⟨by decide, by decide, nofun⟩,
    State.reset_poolSound⟩
  · rw [State.reset_chan]; exact (by decide : ChanCounters.zero.bounded)
  · rw [State.reset_chan]; exact ⟨(by decide : 24 ≤ 48), (by decide : 24 ≤ 48), nofun, nofun⟩
  · rw [State.reset_chan]; exact Channel.reset_countsSound c
  · rw [State.reset_chan]; exact Channel.reset_signalSound c
  · rw [State.reset_block]
    refine ⟨List.length_replicate, fun t ht => ?_⟩
    rw [List.eq_of_mem_replicate ht]
    decide
  · rw [State.reset_chan] at h
    exact absurd rfl h

/-- Settles O11: the link restarts and its reply is queued; then every open channel is shut, and the rest is written. -/
theorem restartValues : Obligations.RestartValues := by
  intro tag s hroom
  obtain ⟨t, hshut, ht⟩ := (s.restartLink.answered (doneRecord tag 0x02#8 [])).restartBlocks_shut (State.answered_enable _ _)
  have hstart : ∀ c, s.restartLink.chan c = { s.chan c with mask := allChannelKinds } := fun c =>
    State.chan_map { s with link := s.restartLink.link, port := s.restartLink.port } _ c
  have hchan : ∀ c, t.chan c =
      if (s.chan c).life = .closed then { s.chan c with mask := allChannelKinds }
      else { s.chan c with mask := allChannelKinds }.shut := fun c => by
    rw [hshut.chan, State.withWait_chan, State.answered_chan, hstart]
    by_cases hl : (s.chan c).life = .closed <;> simp [hl, allChans]
  refine ⟨_, (exec_restart tag s).trans (congrArg _ ((restartRequest_of_room tag s hroom).trans ht)), ?_, fun c => ?_,
    fun b => ?_, hshut.wait, ?_, hshut.link, rfl, hshut.pending⟩
  · show { t.law with buffer := LoadBuffer.empty } = _
    rw [hshut.law]
    rfl
  · refine (State.chan_map { t with law := _, sig := _, port := _ } _ c).trans ?_
    show ({ t.chan c with staged := .empty, conditions := .clear, counters := .zero } : Channel) = _
    rw [hchan]
    by_cases hl : (s.chan c).life = .closed
    · rw [if_pos hl, if_pos hl]; rfl
    · rw [if_neg hl, if_neg hl]; rfl
  · refine (hshut.block b).trans ?_
    show (match (s.block b).condition with
      | .held c =>
        if c ∈ allChans ∧ (s.restartLink.chan c).life ≠ Life.closed then { s.block b with condition := .free }
        else s.block b
      | _ => s.block b) = _
    cases hk : (s.block b).condition with
    | free => rfl
    | retired => rfl
    | held c =>
      simp only [hstart, allChans, List.mem_finRange, true_and]
      by_cases hl : (s.chan c).life = .closed
      · rw [if_neg (not_not.mpr hl), if_pos hl]
      · rw [if_pos hl, if_neg hl]
  · show t.port.conditionsRead.countersRead = _
    rw [hshut.port]
    rfl

end Sys2Proof
end

section
/-!
PROOFS. Blocks returned one after another to those who wait (R57, R68, R69), and CLOSE (R136).
-/

namespace Sys2Proof.Machine

/-! ## Pins filled -/

/-- A PIN entry of a channel and the block handed over for it. -/
abbrev pinEntry (d : Chan) (p : Pos) : WaitEntry := { chan := d, claim := .pin p }

/-- A SCOUT entry of a channel. -/
abbrev scoutEntry (d : Chan) : WaitEntry := { chan := d, claim := .scout }

theorem fillPins_map_pos (d : Chan) (handed : List (WaitEntry × BlockNo)) (ws : List Window) :
    (fillPins d handed ws).map Window.pos = ws.map Window.pos := by
  simp only [fillPins, List.map_map]
  refine List.map_congr_left fun w _ => ?_
  simp only [Function.comp_apply]
  split <;> rfl

theorem length_fillPins (d : Chan) (handed : List (WaitEntry × BlockNo)) (ws : List Window) :
    (fillPins d handed ws).length = ws.length := by
  rw [fillPins, List.length_map]

/-- Pins are filled for one hand-over after another. -/
theorem fillPins_cons (d : Chan) (k : WaitEntry × BlockNo) (ks : List (WaitEntry × BlockNo)) (ws : List Window) :
    fillPins d (k :: ks) ws = fillPins d ks (fillPins d [k] ws) := by
  simp only [fillPins, List.map_map]
  refine List.map_congr_left fun w _ => ?_
  simp only [Function.comp_apply, List.find?_cons, List.find?_nil]
  by_cases hw : w.kind = .pinned ∧ w.block = none
  · by_cases hk : k.1 = { chan := d, claim := .pin w.pos }
    · simp [hw, hk]
    · simp [hw, hk]
  · simp [hw]

/-- A hand-over that names no pin of the channel fills none. -/
theorem fillPins_singleton_of_ne {d : Chan} {k : WaitEntry × BlockNo} (h : ∀ p : Pos, k.1 ≠ pinEntry d p) (ws : List Window) :
    fillPins d [k] ws = ws := by
  unfold fillPins
  conv => rhs; rw [← List.map_id ws]
  refine List.map_congr_left fun w _ => ?_
  split
  · next hw => obtain ⟨p, kind, b⟩ := w; simp_all
  · rfl

/-- A hand-over that names a pin fills it (R68). -/
theorem Channel.fillPin_windows (ch : Channel) (d : Chan) (p : Pos) (b : BlockNo) :
    (ch.fillPin p b).windows = fillPins d [(pinEntry d p, b)] ch.windows := by
  simp only [Channel.fillPin, fillPins]
  refine List.map_congr_left fun w _ => ?_
  by_cases hp : w.pos = p
  · by_cases hw : w.kind = .pinned ∧ w.block = none
    · simp [hp, hw]
    · simp only [hp, hw, if_false]
      rw [if_neg]
      simpa [not_and] using hw
  · simp only [beq_iff_eq, hp, false_and, Bool.and_eq_true, if_false, List.find?_cons, List.find?_nil]
    split
    · next hw => obtain ⟨q, kind, k⟩ := w; simp_all [eq_comm]
    · rfl

/-! ## One block after another -/

/-- A returned block changes no channel but that of the head entry, the blocks and the wait list. -/
theorem State.returnBlock_eq (s : State) (b : BlockNo) :
    s.returnBlock b =
      { s with
        channels := (s.returnBlock b).channels, blocks := (s.returnBlock b).blocks, wait := (s.returnBlock b).wait } := by
  cases h : s.wait with
  | nil => rw [s.returnBlock_free b h]; rfl
  | cons e rest => rw [State.returnBlock_served b h]; rfl

theorem State.returnBlock_wait (s : State) (b : BlockNo) : (s.returnBlock b).wait = s.wait.tail := by
  cases h : s.wait with
  | nil => rw [s.returnBlock_free b h, State.setBlock_wait, h]; rfl
  | cons e rest => rw [State.returnBlock_served b h]; rfl

theorem State.returnBlock_block (s : State) (b j : BlockNo) :
    (s.returnBlock b).block j =
      if j = b then
        match s.wait.head? with
        | some e => { taps := List.replicate 32 0, condition := .held e.chan, altered := false }
        | none => { s.block b with condition := .free }
      else s.block j := by
  cases h : s.wait with
  | nil => rw [s.returnBlock_free b h, State.setBlock_block]; rfl
  | cons e rest => rw [State.returnBlock_served b h, State.onChan_block, State.handover_block]; rfl

theorem State.returnBlock_chan (s : State) (b : BlockNo) (d : Chan) :
    (s.returnBlock b).chan d =
      match s.wait.head? with
      | some e => if d = e.chan then e.place b (s.chan d) else s.chan d
      | none => s.chan d := by
  cases h : s.wait with
  | nil => rw [s.returnBlock_free b h, State.setBlock_chan]; rfl
  | cons e rest =>
    rw [State.returnBlock_served b h, State.onChan_chan]
    simp only [State.handover_chan, State.withWait_chan, List.head?_cons]
    split
    · next hd => rw [hd]
    · rfl

theorem State.returnBlocks_cons (s : State) (b : BlockNo) (bs : List BlockNo) :
    s.returnBlocks (b :: bs) = (s.returnBlock b).returnBlocks bs := rfl

/-- Returned blocks change no more than the channels, the blocks and the wait list. -/
theorem State.returnBlocks_frame (s : State) (bs : List BlockNo) :
    s.returnBlocks bs =
      { s with
        channels := (s.returnBlocks bs).channels, blocks := (s.returnBlocks bs).blocks
        wait := (s.returnBlocks bs).wait } := by
  induction bs generalizing s with
  | nil => rfl
  | cons b bs ih => rw [State.returnBlocks_cons, ih, s.returnBlock_eq b]

theorem State.returnBlocks_wait (s : State) (bs : List BlockNo) : (s.returnBlocks bs).wait = s.wait.drop bs.length := by
  induction bs generalizing s with
  | nil => rfl
  | cons b bs ih => rw [State.returnBlocks_cons, ih, State.returnBlock_wait, List.length_cons, List.drop_tail]

theorem State.returnBlocks_block_of_not_mem (s : State) {bs : List BlockNo} {j : BlockNo} (h : j ∉ bs) :
    (s.returnBlocks bs).block j = s.block j := by
  induction bs generalizing s with
  | nil => rfl
  | cons b bs ih =>
    rw [List.mem_cons, not_or] at h
    rw [State.returnBlocks_cons, ih _ h.2, State.returnBlock_block, if_neg h.1]

/-- Where the blocks go and what is left of the wait list (R68, R69). -/
theorem State.returnBlocks_returns (s : State) {bs : List BlockNo} (h : bs.Nodup) : s.Returns (s.returnBlocks bs) bs := by
  refine ⟨s.returnBlocks_wait bs, ?_, ?_⟩
  · induction bs generalizing s with
    | nil => simp
    | cons b bs ih =>
      obtain ⟨hb, hbs⟩ := List.nodup_cons.mp h
      cases hw : s.wait with
      | nil => simp
      | cons e rest =>
        intro k hk
        rw [State.returnBlocks_cons]
        rcases List.mem_cons.mp hk with rfl | hk
        · rw [State.returnBlocks_block_of_not_mem _ hb, State.returnBlock_block, if_pos rfl, hw]
          rfl
        · exact ih (s.returnBlock b) hbs k (by rw [State.returnBlock_wait, hw]; exact hk)
  · induction bs generalizing s with
    | nil => simp
    | cons b bs ih =>
      obtain ⟨hb, hbs⟩ := List.nodup_cons.mp h
      intro j hj
      rw [State.returnBlocks_cons]
      have hwait : (s.returnBlock b).wait.length = s.wait.length - 1 := by rw [State.returnBlock_wait, List.length_tail]
      cases hw : s.wait with
      | nil =>
        have hfree := s.returnBlock_free b hw
        rcases List.mem_cons.mp (by simpa [hw] using hj) with rfl | hj
        · rw [State.returnBlocks_block_of_not_mem _ hb, State.returnBlock_block, if_pos rfl, hw]
          rfl
        · rw [ih (s.returnBlock b) hbs j (by simpa [hwait, hw] using hj), State.returnBlock_block,
            if_neg fun h : j = b => hb (h ▸ hj)]
      | cons e rest =>
        have hj' : j ∈ bs.drop rest.length := by simpa [hw] using hj
        rw [ih (s.returnBlock b) hbs j (by simpa [hwait, hw] using hj'), State.returnBlock_block,
          if_neg fun h : j = b => hb (h ▸ List.mem_of_mem_drop hj')]

/-- A channel that none of the entries served names is left alone. -/
theorem State.returnBlocks_chan_of_unserved (s : State) {bs : List BlockNo} {d : Chan}
    (h : ∀ e ∈ s.wait.take bs.length, e.chan ≠ d) : (s.returnBlocks bs).chan d = s.chan d := by
  induction bs generalizing s with
  | nil => rfl
  | cons b bs ih =>
    rw [State.returnBlocks_cons]
    cases hw : s.wait with
    | nil => rw [ih _ (by rw [State.returnBlock_wait, hw]; simp), State.returnBlock_chan, hw]; rfl
    | cons e rest =>
      rw [hw, List.length_cons, List.take_succ_cons] at h
      rw [ih _ (by rw [State.returnBlock_wait, hw]; exact fun e' he' => h e' (List.mem_cons_of_mem _ he')),
        State.returnBlock_chan, hw]
      exact if_neg fun hd => h e List.mem_cons_self hd.symm

/-! ## A channel served -/

/-- One entry served, as the claims spell it. -/
theorem WaitEntry.place_servedBy (e : WaitEntry) (b : BlockNo) {ch : Channel} (hlen : ch.windows.length < 32) :
    ch.ServedBy (e.place b ch) e.chan [(e, b)] := by
  obtain ⟨d, claim⟩ := e
  cases claim with
  | pin p =>
    rw [WaitEntry.place_pin rfl]
    refine ⟨?_, fun _ => ⟨rfl, rfl⟩, fun b' hb' => ?_⟩
    · rw [← Channel.fillPin_windows]; rfl
    · simp at hb'
  | scout =>
    rw [WaitEntry.place_scout rfl]
    refine ⟨?_, fun h => absurd rfl (h _ List.mem_cons_self), fun b' hb' => ?_⟩
    · rw [fillPins_singleton_of_ne (by simp)]; rfl
    · simp only [List.mem_singleton, Prod.mk.injEq, true_and] at hb'
      subst hb'
      exact ⟨_, Channel.nextFree_windowPositions _ hlen, rfl, rfl⟩

theorem Channel.ServedBy.refl (ch : Channel) (d : Chan) : ch.ServedBy ch d [] :=
  ⟨by rw [fillPins_nil], fun _ => ⟨rfl, rfl⟩, nofun⟩

/-- An entry of another channel serves nothing here. -/
theorem Channel.ServedBy.skip {before after : Channel} {d : Chan} {k : WaitEntry × BlockNo} {ks : List (WaitEntry × BlockNo)}
    (hk : k.1.chan ≠ d) (h : before.ServedBy after d ks) : before.ServedBy after d (k :: ks) := by
  obtain ⟨hall, hkeep, hscout⟩ := h
  have hne : ∀ claim, k.1 ≠ { chan := d, claim := claim } := fun claim h => hk (congrArg WaitEntry.chan h)
  refine ⟨?_, fun h => hkeep fun k' hk' => h k' (List.mem_cons_of_mem _ hk'), fun b hb => hscout b ?_⟩
  · rwa [fillPins_cons, fillPins_singleton_of_ne fun p => hne _]
  · exact (List.mem_cons.mp hb).resolve_left fun h => hne .scout (congrArg Prod.fst h).symm

/-- Entries served one after another, the SCOUT entry among them at most once. -/
theorem Channel.ServedBy.cons {before mid after : Channel} {d : Chan} {k : WaitEntry × BlockNo}
    {ks : List (WaitEntry × BlockNo)} (hfirst : before.ServedBy mid d [k]) (hrest : mid.ServedBy after d ks)
    (honce : k.1 = scoutEntry d → ∀ k' ∈ ks, k'.1 ≠ scoutEntry d) : before.ServedBy after d (k :: ks) := by
  obtain ⟨hall, hkeep, hscout⟩ := hfirst
  obtain ⟨hall', hkeep', hscout'⟩ := hrest
  have hwindows : mid.windows = fillPins d [k] before.windows := by rw [hall]
  have hpos : mid.windows.map Window.pos = before.windows.map Window.pos := by rw [hwindows, fillPins_map_pos]
  refine ⟨?_, fun h => ?_, fun b hb => ?_⟩
  · rw [hall', fillPins_cons, ← hwindows]
    rw [hall]
  · have hfirst := hkeep fun k' hk' => by rw [List.mem_singleton.mp hk']; exact h k List.mem_cons_self
    have hrest := hkeep' fun k' hk' => h k' (List.mem_cons_of_mem _ hk')
    exact ⟨hrest.1.trans hfirst.1, hrest.2.trans hfirst.2⟩
  · rcases List.mem_cons.mp hb with hb | hb
    · subst hb
      have hrest := hkeep' (honce rfl)
      obtain ⟨q, hq, hs, hl⟩ := hscout b List.mem_cons_self
      exact ⟨q, hq, hrest.1.trans hs, hrest.2.trans hl⟩
    · have hfirst := hkeep fun k' hk' h => honce (by rwa [List.mem_singleton.mp hk'] at h) _ hb rfl
      obtain ⟨q, hq, hs, hl⟩ := hscout' b hb
      exact ⟨q, by rwa [hpos, hfirst.2] at hq, hs, hl⟩

theorem Channel.ServedBy.length_windows {before after : Channel} {d : Chan} {handed : List (WaitEntry × BlockNo)}
    (h : before.ServedBy after d handed) : after.windows.length = before.windows.length := by
  obtain ⟨hall, -⟩ := h
  rw [hall, length_fillPins]

/-- Every channel once blocks have been returned: its entries among those served are served in order (R68, R69). -/
theorem State.returnBlocks_servedBy (s : State) (bs : List BlockNo) {d : Chan} (hnodup : s.wait.Nodup)
    (hlen : (s.chan d).windows.length < 32) : (s.chan d).ServedBy ((s.returnBlocks bs).chan d) d (s.wait.zip bs) := by
  induction bs generalizing s with
  | nil => rw [List.zip_nil_right]; exact .refl _ d
  | cons b bs ih =>
    rw [State.returnBlocks_cons]
    have hchan := s.returnBlock_chan b d
    have hwait := s.returnBlock_wait b
    cases hw : s.wait with
    | nil =>
      rw [hw] at hchan hwait
      have := ih (s.returnBlock b) (by rw [hwait]; exact List.nodup_nil) (by rw [hchan]; exact hlen)
      rw [hwait, hchan] at this
      simpa using this
    | cons e rest =>
      rw [hw] at hchan hwait hnodup
      obtain ⟨he, hrest⟩ := List.nodup_cons.mp hnodup
      rw [List.zip_cons_cons]
      by_cases hd : e.chan = d
      · subst hd
        have hserved := e.place_servedBy b hlen
        rw [← (hchan.trans (if_pos rfl))] at hserved
        refine hserved.cons ?_ fun h k' hk' h' => he ?_
        · have := ih (s.returnBlock b) (by rw [hwait]; exact hrest) (by rwa [hserved.length_windows])
          rwa [hwait] at this
        · rw [show e = k'.1 from h.trans h'.symm]
          exact (List.of_mem_zip hk').1
      · have hsame := hchan.trans (if_neg fun h => hd h.symm)
        have := ih (s.returnBlock b) (by rw [hwait]; exact hrest) (by rwa [hsame])
        rw [hwait, hsame] at this
        exact this.skip hd

/-! ## A notice event, told by the link -/

/-- The arbiter's part of a link, where `fill` fills a notice's record (R169). -/
def Link.arbitrated (l : Link) (fill : Notice → Record) : Link :=
  match l.tx with
  | .idle =>
    match l.replies with
    | r :: rs => { l with replies := rs, tx := .reply r }
    | [] =>
      match l.notices with
      | n :: ns => { l with notices := ns, tx := .notice n (fill n) }
      | [] => l
  | _ => l

/-- A link after a notice event that its source's mask passes or not (R170). -/
def Link.raised (l : Link) (passes : Bool) (u : Source) (k : NoticeKind) (fill : Notice → Record) : Link :=
  if l.enable && passes then ({ l with notices := queueNotice u k l.notices } : Link).arbitrated fill else l

theorem State.arbitrate_link (s : State) : s.arbitrate.link = s.link.arbitrated s.noticeRecord := by
  obtain ⟨law, chs, bl, w, port, ⟨fr, rep, no, tx, en, rate⟩, sig, pend⟩ := s
  cases tx <;> cases rep <;> cases no <;> rfl

theorem State.raiseNotice_link (s : State) (u : Source) (k : NoticeKind) :
    (s.raiseNotice u k).link = s.link.raised ((s.maskOf u).getLsbD (maskBit k)) u k s.noticeRecord := by
  unfold State.raiseNotice Link.raised
  split
  · exact State.arbitrate_link _
  · rfl

/-- On sound queues the notice that an idle transmitter takes is the one raised. -/
theorem Link.raised_congr {l : Link} (hsound : l.QueuesSound) (passes : Bool) {u : Source} {k : NoticeKind}
    {fill fill' : Notice → Record} (h : fill { source := u, kind := k, count := 1 } = fill' { source := u, kind := k, count := 1 }) :
    l.raised passes u k fill = l.raised passes u k fill' := by
  obtain ⟨-, -, -, hidle⟩ := hsound
  obtain ⟨fr, rep, no, tx, en, rate⟩ := l
  cases tx with
  | idle =>
    obtain ⟨hr, hn⟩ := hidle rfl
    obtain rfl : rep = [] := hr
    obtain rfl : no = [] := hn
    simp [Link.raised, Link.arbitrated, queueNotice, h]
  | reply r => rfl
  | notice n r => rfl

/-! ## CLOSE -/

theorem exec_closeChannel (tag channel : Byte) (s : State) :
    exec (.closeChannel tag channel) s = .next (serve tag 0x1B#8 (closeRequest channel) s) := by
  rfl

theorem closeRequest_range {channel : Byte} (s : State) (h : 31 < channel.toNat) :
    closeRequest channel s = (s, .refused .range) := by
  simp only [closeRequest, chanOf_eq_none h]

theorem closeRequest_closed {c : Chan} {s : State} (h : (s.chan c).life = .closed) :
    closeRequest (byteOf c.val) s = (s, .refused .state) := by
  simp only [closeRequest, chanOf_byteOf, h, if_true]

theorem closeRequest_open {c : Chan} {s : State} (h : (s.chan c).life ≠ .closed) :
    closeRequest (byteOf c.val) s = ((s.closeSteps c).raiseNotice (.channel c) .mode, .done [byteOf c.val]) := by
  simp only [closeRequest, chanOf_byteOf, if_neg h]
  rfl

/-- The channel that closes has left the wait list and its places; its blocks are still to be returned (R136). -/
def State.cleared (s : State) (c : Chan) : State :=
  (s.onChan c fun ch => { ch with staged := .empty, windows := [], scout := none }).withWait
    (s.wait.filter fun e => e.chan ≠ c)

theorem State.closeSteps_eq (s : State) (c : Chan) :
    s.closeSteps c =
      (((s.cleared c).returnBlocks (s.heldBlocks c)).abortSignature c).onChan c
        fun ch => { ch with frozen := false, profile := none, life := .closed } := by
  have hcleared : ((s.onChan c fun ch => { ch with staged := .empty }).withWait
      (s.wait.filter fun e => e.chan != c)).onChan c (fun ch => { ch with windows := [], scout := none }) = s.cleared c := by
    have hfilter : (s.wait.filter fun e => e.chan != c) = s.wait.filter fun e => decide (e.chan ≠ c) :=
      List.filter_congr fun e _ => by simp [bne, beq_eq_decide]
    rw [hfilter]
    show ((s.onChan c fun ch => { ch with staged := .empty }).onChan c
      fun ch => { ch with windows := [], scout := none }).withWait _ = _
    rw [State.onChan_onChan]
    rfl
  rw [← hcleared]
  rfl

/-- The signature unit's part of a CLOSE (R181). -/
theorem State.abortSignature_eq (s : State) (c : Chan) :
    s.abortSignature c =
      { s with link := (s.abortSignature c).link, sig := (s.abortSignature c).sig } := by
  unfold State.abortSignature
  split
  · rw [State.portNotice_eq_raiseNotice, State.raiseNotice_eq]; rfl
  · rfl

@[simp] theorem State.abortSignature_chan (s : State) (c d : Chan) : (s.abortSignature c).chan d = s.chan d := by
  rw [State.abortSignature_eq]; rfl

@[simp] theorem State.abortSignature_block (s : State) (c : Chan) (b : BlockNo) :
    (s.abortSignature c).block b = s.block b := by
  rw [State.abortSignature_eq]; rfl

@[simp] theorem State.abortSignature_wait (s : State) (c : Chan) : (s.abortSignature c).wait = s.wait := by
  rw [State.abortSignature_eq]

theorem State.abortSignature_watched {s : State} {c : Chan} (h : s.sig.state = .running ∧ s.sig.channel = c) :
    s.abortSignature c = (s.onSig fun g => { g with state := .aborted }).raiseNotice .port .signature := by
  rw [State.abortSignature, if_pos h]; rfl

theorem State.abortSignature_unwatched {s : State} {c : Chan} (h : ¬(s.sig.state = .running ∧ s.sig.channel = c)) :
    s.abortSignature c = s := by
  rw [State.abortSignature, if_neg h]

@[simp] theorem State.cleared_wait (s : State) (c : Chan) : (s.cleared c).wait = s.wait.filter fun e => e.chan ≠ c := rfl

theorem State.cleared_chan_self (s : State) (c : Chan) :
    (s.cleared c).chan c = { s.chan c with staged := .empty, windows := [], scout := none } := by
  rw [State.cleared, State.withWait_chan, State.onChan_chan_self]

theorem State.cleared_chan_of_ne (s : State) {c d : Chan} (h : d ≠ c) : (s.cleared c).chan d = s.chan d := by
  rw [State.cleared, State.withWait_chan, State.onChan_chan_of_ne _ _ h]

@[simp] theorem State.cleared_block (s : State) (c : Chan) (b : BlockNo) : (s.cleared c).block b = s.block b := rfl

theorem State.heldBlocks_nodup (s : State) (c : Chan) : (s.heldBlocks c).Nodup :=
  (List.nodup_finRange 192).filter _

/-- The state of a CLOSE once the blocks are back. -/
def State.vacated (s : State) (c : Chan) : State := (s.cleared c).returnBlocks (s.heldBlocks c)

theorem State.vacated_frame (s : State) (c : Chan) :
    s.vacated c =
      { s with channels := (s.vacated c).channels, blocks := (s.vacated c).blocks, wait := (s.vacated c).wait } := by
  rw [State.vacated, State.returnBlocks_frame]; rfl

theorem State.vacated_chan_self (s : State) (c : Chan) :
    (s.vacated c).chan c = { s.chan c with staged := .empty, windows := [], scout := none } := by
  rw [State.vacated, State.returnBlocks_chan_of_unserved, State.cleared_chan_self]
  intro e he
  have := List.mem_of_mem_take he
  simpa using (List.mem_filter.mp this).2

end Sys2Proof.Machine

namespace Sys2Proof

open Sys2Proof.Machine

/-! ## The statements -/

/-- Settles O33: the state before the notice is `State.closeSteps`, read part by part. -/
theorem closeReturnsEveryBlock : Obligations.CloseReturnsEveryBlock := by
  refine fun tag s hroom hqueues => ⟨fun c hlife => ?_, fun c hclosed => ?_, fun channel h => ?_⟩
  · intro held waiters watched
    have hframe := s.vacated_frame c
    have hreturns : (s.cleared c).Returns (s.vacated c) held := State.returnBlocks_returns _ (s.heldBlocks_nodup c)
    obtain ⟨hwait, hgiven, hfree⟩ := hreturns
    have hclose : s.closeSteps c = ((s.vacated c).abortSignature c).onChan c
        fun ch => { ch with frozen := false, profile := none, life := .closed } := s.closeSteps_eq c
    refine ⟨s.closeSteps c, ?_, ?_, ?_, ?_, ?_, fun d hd hun => ?_, ?_, fun b hb => ?_, fun i b hi => ⟨fun e he => ?_, fun hnone => ?_⟩,
      fun hnodup hlen d hd => ?_, fun hun => ?_, fun hwatched => ?_⟩
    · rw [exec_closeChannel, serve_of_done tag _ hroom (closeRequest_open hlife)]
    · rw [hclose, State.abortSignature_eq, hframe]; rfl
    · rw [hclose, State.abortSignature_eq, hframe]; rfl
    · rw [hclose, State.abortSignature_eq, hframe]; rfl
    · rw [hclose, State.onChan_chan_self, State.abortSignature_chan, State.vacated_chan_self]
    · rw [hclose, State.onChan_chan_of_ne _ _ hd, State.abortSignature_chan, State.vacated,
        State.returnBlocks_chan_of_unserved _ hun, State.cleared_chan_of_ne _ hd]
    · rw [hclose, State.onChan_wait, State.abortSignature_wait, hwait]; rfl
    · rw [hclose, State.onChan_block, State.abortSignature_block, State.vacated, State.returnBlocks_block_of_not_mem _ hb,
        State.cleared_block]
    · rw [hclose, State.onChan_block, State.abortSignature_block]
      exact hgiven (e, b) (List.mem_iff_getElem?.mpr ⟨i, List.getElem?_zip_eq_some.mpr ⟨he, hi⟩⟩)
    · rw [hclose, State.onChan_block, State.abortSignature_block]
      refine hfree b ?_
      have hle := List.getElem?_eq_none_iff.mp hnone
      refine List.mem_iff_getElem?.mpr ⟨i - waiters.length, ?_⟩
      rw [List.getElem?_drop, ← hi]
      congr 1
      show waiters.length + (i - waiters.length) = i
      omega
    · rw [hclose, State.onChan_chan_of_ne _ _ hd, State.abortSignature_chan, ← State.cleared_chan_of_ne s hd]
      refine State.returnBlocks_servedBy _ _ ?_ ?_
      · exact hnodup.filter _
      · rw [State.cleared_chan_of_ne s hd]
        have := hlen d
        omega
    · have hsig : ¬((s.vacated c).sig.state = .running ∧ (s.vacated c).sig.channel = c) := by rwa [hframe]
      rw [hclose, State.abortSignature_unwatched hsig, hframe]
      exact ⟨rfl, rfl⟩
    · have hsig : (s.vacated c).sig.state = .running ∧ (s.vacated c).sig.channel = c := by rwa [hframe]
      rw [hclose, State.abortSignature_watched hsig, State.onChan_sig, State.onChan_link, State.raiseNotice_sig,
        State.raiseNotice_link, State.raiseNotice_link, hframe]
      exact ⟨rfl, Link.raised_congr hqueues _ rfl⟩
  · rw [exec_closeChannel, serve_of_refused tag _ hroom (closeRequest_closed hclosed)]; rfl
  · rw [exec_closeChannel, serve_of_refused tag _ hroom (closeRequest_range s h)]; rfl

end Sys2Proof
end

section
/-!
PROOFS. Block faults (R58, R71), and the two requests that handle one before they answer: READ-TAPS (R36 to R38) and
READ-STATUS (R62, R167).
-/

namespace Sys2Proof.Machine

/-! ## The role of a block -/

/-- The blocks a channel reads are those of its windows, and its scout's (R25). -/
theorem Channel.mem_covered_blocks {ch : Channel} {b : BlockNo} :
    b ∈ ch.covered.map Prod.snd ↔ (∃ w ∈ ch.windows, w.block = some b) ∨ ∃ k ∈ ch.scout, k.block = b := by
  simp only [Channel.covered, List.map_append, List.mem_append, List.mem_map, List.mem_filterMap, Option.map_eq_some_iff,
    Option.mem_toList, Option.mem_def]
  constructor
  · rintro (⟨_, ⟨w, hw, x, hx, rfl⟩, rfl⟩ | ⟨_, ⟨k, hk, rfl⟩, rfl⟩)
    · exact .inl ⟨w, hw, hx⟩
    · exact .inr ⟨k, hk, rfl⟩
  · rintro (⟨w, hw, hx⟩ | ⟨k, hk, rfl⟩)
    · exact .inl ⟨_, ⟨w, hw, b, hx, rfl⟩, rfl⟩
    · exact .inr ⟨_, ⟨k, hk, rfl⟩, rfl⟩

/-- In a sound pool a channel holds the blocks of its windows and its scout. -/
theorem State.PoolSound.held_iff {s : State} (h : s.PoolSound) {c : Chan} {b : BlockNo} :
    (s.block b).condition = .held c ↔
      (∃ w ∈ (s.chan c).windows, w.block = some b) ∨ ∃ k ∈ (s.chan c).scout, k.block = b :=
  ((h.holders c).2 b).trans Channel.mem_covered_blocks

/-- The blocks of the windows, in their order. -/
def Channel.windowBlocks (ch : Channel) : List BlockNo := ch.windows.filterMap Window.block

theorem Channel.covered_blocks (ch : Channel) :
    ch.covered.map Prod.snd = ch.windowBlocks ++ (ch.scout.map Scout.block).toList := by
  rw [Channel.covered, List.map_append, List.map_filterMap, Channel.windowBlocks]
  congr 1
  · exact List.filterMap_congr fun w _ => by cases w.block <;> rfl
  · cases ch.scout <;> rfl

/-- In a list whose blocks are distinct two windows with one block are the same window. -/
theorem window_eq_of_block {ws : List Window} (h : (ws.filterMap Window.block).Nodup) {b : BlockNo} {v w : Window}
    (hv : v ∈ ws) (hw : w ∈ ws) (hvb : v.block = some b) (hwb : w.block = some b) : v = w := by
  induction ws with
  | nil => exact absurd hv List.not_mem_nil
  | cons u us ih =>
    have hfirst : ∀ {y : Window}, y ∈ us → u.block = some b → y.block = some b → False := by
      intro y hy hub hyb
      rw [List.filterMap_cons_some hub, List.nodup_cons] at h
      exact h.1 (List.mem_filterMap.mpr ⟨y, hy, hyb⟩)
    rcases List.mem_cons.mp hv with hvu | hvu <;> rcases List.mem_cons.mp hw with hwu | hwu
    · exact hvu.trans hwu.symm
    · exact (hfirst hwu (hvu ▸ hvb) hwb).elim
    · exact (hfirst hvu (hwu ▸ hwb) hvb).elim
    · exact ih (h.sublist ((List.sublist_cons_self u us).filterMap _)) hvu hwu

theorem State.PoolSound.windowBlocks_nodup {s : State} (h : s.PoolSound) (c : Chan) : (s.chan c).windowBlocks.Nodup := by
  have hnodup := (h.holders c).1
  rw [Channel.covered_blocks, List.nodup_append] at hnodup
  exact hnodup.1

/-- Two windows with one block are the same window. -/
theorem State.PoolSound.window_unique {s : State} (h : s.PoolSound) {c : Chan} {b : BlockNo} {v w : Window}
    (hv : v ∈ (s.chan c).windows) (hw : w ∈ (s.chan c).windows) (hvb : v.block = some b) (hwb : w.block = some b) :
    v = w :=
  window_eq_of_block (h.windowBlocks_nodup c) hv hw hvb hwb

/-- A block of a window is not the scout's. -/
theorem State.PoolSound.window_ne_scout {s : State} (h : s.PoolSound) {c : Chan} {b : BlockNo} {w : Window} {k : Scout}
    (hw : w ∈ (s.chan c).windows) (hwb : w.block = some b) (hk : k ∈ (s.chan c).scout) : k.block ≠ b := by
  have hnodup := (h.holders c).1
  rw [Channel.covered_blocks, List.nodup_append] at hnodup
  obtain ⟨-, -, hdisjoint⟩ := hnodup
  refine fun hkb => hdisjoint b (List.mem_filterMap.mpr ⟨w, hw, hwb⟩) k.block ?_ hkb.symm
  rw [Option.mem_def.mp hk]
  exact List.mem_singleton_self _

/-- Two windows at one position are the same window (R41). -/
theorem Channel.PlacementSound.window_at {ch : Channel} (h : ch.PlacementSound) {v w : Window} (hv : v ∈ ch.windows)
    (hw : w ∈ ch.windows) (hpos : v.pos = w.pos) : v = w := by
  obtain ⟨hascending, -⟩ := h
  exact List.inj_on_of_nodup_map (List.pairwise_map.mpr (hascending.imp ne_of_lt)) hv hw hpos

/-- The quota bounds the windows of every channel (R43). -/
theorem State.PoolSound.length_windows {s : State} (h : s.PoolSound) (c : Chan) : (s.chan c).windows.length ≤ 7 := by
  obtain ⟨-, -, -, hquota, hclosed⟩ := h.placement c
  cases hp : (s.chan c).profile with
  | none =>
    rw [(hclosed ((h.profilesHeld c).mpr hp)).1]
    exact Nat.zero_le 7
  | some p =>
    obtain ⟨-, hle, -⟩ := (h.profilesSound c).1 p hp
    have := (hquota p hp).2
    rw [Channel.quotaCount] at this
    omega

/-! ## Steps 1 and 2 of a block fault -/

/-- The channel once a block of it is retired: FAULT is latched (R71). -/
def Channel.faulted (ch : Channel) : Channel := { ch with conditions := { ch.conditions with fault := true } }

theorem State.retireBlock_eq (s : State) (c : Chan) (b : BlockNo) :
    s.retireBlock c b =
      ((s.setBlock b { s.block b with condition := .retired }).setChan c (s.chan c).faulted).raiseNotice
        (.channel c) .fault := by
  rfl

@[simp] theorem State.retireBlock_law (s : State) (c : Chan) (b : BlockNo) : (s.retireBlock c b).law = s.law := by
  rw [State.retireBlock_eq, State.raiseNotice_law, State.setChan_law, State.setBlock_law]

@[simp] theorem State.retireBlock_wait (s : State) (c : Chan) (b : BlockNo) : (s.retireBlock c b).wait = s.wait := by
  rw [State.retireBlock_eq, State.raiseNotice_wait, State.setChan_wait, State.setBlock_wait]

@[simp] theorem State.retireBlock_port (s : State) (c : Chan) (b : BlockNo) : (s.retireBlock c b).port = s.port := by
  rw [State.retireBlock_eq, State.raiseNotice_port, State.setChan_port, State.setBlock_port]

@[simp] theorem State.retireBlock_sig (s : State) (c : Chan) (b : BlockNo) : (s.retireBlock c b).sig = s.sig := by
  rw [State.retireBlock_eq, State.raiseNotice_sig, State.setChan_sig, State.setBlock_sig]

@[simp] theorem State.retireBlock_pending (s : State) (c : Chan) (b : BlockNo) :
    (s.retireBlock c b).pending = s.pending := by
  rw [State.retireBlock_eq, State.raiseNotice_pending, State.setChan_pending, State.setBlock_pending]

@[simp] theorem State.retireBlock_chan_self (s : State) (c : Chan) (b : BlockNo) :
    (s.retireBlock c b).chan c = (s.chan c).faulted := by
  rw [State.retireBlock_eq, State.raiseNotice_chan, State.setChan_chan_self]

theorem State.retireBlock_chan_of_ne (s : State) {c d : Chan} (b : BlockNo) (h : d ≠ c) :
    (s.retireBlock c b).chan d = s.chan d := by
  rw [State.retireBlock_eq, State.raiseNotice_chan, State.setChan_chan_of_ne _ _ h, State.setBlock_chan]

theorem State.retireBlock_block (s : State) (c : Chan) (b j : BlockNo) :
    (s.retireBlock c b).block j = if j = b then { s.block b with condition := .retired } else s.block j := by
  rw [State.retireBlock_eq, State.raiseNotice_block, State.setChan_block, State.setBlock_block]

/-- Equal conditions give equal free sets. -/
theorem State.freeBlocks_congr {s t : State}
    (h : ∀ b : BlockNo, (t.block b).condition = .free ↔ (s.block b).condition = .free) : t.freeBlocks = s.freeBlocks :=
  List.filter_congr fun b _ => by rw [Bool.eq_iff_iff]; simpa using h b

/-- A held block that is retired leaves the free set alone. -/
theorem State.retireBlock_freeBlocks {s : State} {c : Chan} {b : BlockNo} (h : (s.block b).condition = .held c) :
    (s.retireBlock c b).freeBlocks = s.freeBlocks := by
  refine State.freeBlocks_congr fun j => ?_
  rw [State.retireBlock_block]
  split
  · next hj => rw [hj, h]; simp
  · exact Iff.rfl

/-! ## Step 3: the role -/

/-- Every block fault retires the block and then loses its role; only that step differs. -/
theorem State.blockFault_of_pin {s : State} {c : Chan} {b : BlockNo} {w : Window}
    (h : (s.chan c).windows.find? (fun w => w.block == some b) = some w) (hkind : w.kind = .pinned) :
    s.blockFault c b = (s.retireBlock c b).losePin c w.pos := by
  simp only [State.blockFault, h, hkind]

theorem State.blockFault_of_found {s : State} {c : Chan} {b : BlockNo} {w : Window}
    (h : (s.chan c).windows.find? (fun w => w.block == some b) = some w) (hkind : w.kind = .found) :
    s.blockFault c b = (s.retireBlock c b).loseFound c w.pos := by
  simp only [State.blockFault, h, hkind]

theorem State.blockFault_of_scout {s : State} {c : Chan} {b : BlockNo} {k : Scout}
    (h : (s.chan c).windows.find? (fun w => w.block == some b) = none) (hk : (s.chan c).scout = some k) (hkb : k.block = b) :
    s.blockFault c b = (s.retireBlock c b).loseScout c := by
  simp [State.blockFault, h, hk, hkb]

theorem State.blockFault_of_none {s : State} {c : Chan} {b : BlockNo}
    (h : (s.chan c).windows.find? (fun w => w.block == some b) = none) (hk : ∀ k ∈ (s.chan c).scout, k.block ≠ b) :
    s.blockFault c b = s.retireBlock c b := by
  simp only [State.blockFault, h]
  refine if_neg ?_
  rw [Option.any_eq_true]
  rintro ⟨k, hk', hkb⟩
  exact hk k hk' (by simpa using hkb)

theorem State.loseScout_free {s : State} (c : Chan) {f : BlockNo} {fs : List BlockNo} (h : s.freeBlocks = f :: fs) :
    s.loseScout c = (s.handover f c).onChan c fun ch => { ch with scout := none }.placeScout f := by
  simp only [State.loseScout, h]

theorem State.loseScout_wait {s : State} (c : Chan) (h : s.freeBlocks = []) :
    s.loseScout c =
      (s.onChan c fun ch => { ch with scout := none }).withWait (s.wait ++ [{ chan := c, claim := .scout }]) := by
  simp only [State.loseScout, h, State.joinScout, State.onChan_wait]

/-- A pin without its block (R58). -/
def Channel.vacate (ch : Channel) (p : Pos) : Channel :=
  { ch with windows := ch.windows.map fun w => if w.pos == p then { w with block := none } else w }

theorem State.losePin_free {s : State} (c : Chan) (p : Pos) {f : BlockNo} {fs : List BlockNo} (h : s.freeBlocks = f :: fs) :
    s.losePin c p = (s.handover f c).onChan c fun ch => (ch.vacate p).fillPin p f := by
  simp only [State.losePin, h]
  rfl

theorem State.losePin_wait {s : State} (c : Chan) (p : Pos) (h : s.freeBlocks = []) :
    s.losePin c p =
      (s.onChan c fun ch => ch.vacate p).withWait
        (s.wait.takeWhile WaitEntry.isPin ++ { chan := c, claim := .pin p } :: s.wait.dropWhile WaitEntry.isPin) := by
  simp only [State.losePin, h, State.joinPin, State.onChan_wait]
  rfl

theorem State.loseFound_eq (s : State) (c : Chan) (p : Pos) :
    s.loseFound c p = s.onChan c fun ch => { ch with windows := ch.windows.filter fun w => w.pos != p } := by
  rfl

/-- Where the window at a position is a pin, it is rebuilt there with the fresh block. -/
theorem Channel.vacate_fillPin {ch : Channel} {p : Pos} (f : BlockNo) (h : ∀ w ∈ ch.windows, w.pos = p → w.kind = .pinned) :
    (ch.vacate p).fillPin p f =
      { ch with windows := ch.windows.map fun w => if w.pos = p then { w with block := some f } else w } := by
  rw [Channel.fillPin_eq]
  simp only [Channel.vacate, List.map_map]
  congr 1
  refine List.map_congr_left fun w hw => ?_
  simp only [Function.comp_apply, beq_iff_eq]
  by_cases hp : w.pos = p
  · simp [hp, h w hw hp]
  · simp [hp]

theorem Channel.vacate_eq (ch : Channel) (p : Pos) :
    ch.vacate p = { ch with windows := ch.windows.map fun w => if w.pos = p then { w with block := none } else w } := by
  simp only [Channel.vacate, beq_iff_eq]

/-- PIN entries stand first: the leading ones are all of them (R66). -/
theorem State.wait_split (s : State) :
    s.wait = s.wait.takeWhile WaitEntry.isPin ++ s.wait.dropWhile WaitEntry.isPin :=
  List.takeWhile_append_dropWhile.symm

theorem WaitEntry.isPin_iff (e : WaitEntry) : e.isPin = true ↔ e.claim ≠ .scout := by
  obtain ⟨c, claim⟩ := e
  cases claim <;> simp [WaitEntry.isPin]

theorem dropWhile_append_of_split {α : Type} {f : α → Bool} {as bs : List α} (ha : ∀ a ∈ as, f a = true)
    (hb : ∀ b ∈ bs, f b = false) : (as ++ bs).takeWhile f = as ∧ (as ++ bs).dropWhile f = bs := by
  have hbs : bs.takeWhile f = [] ∧ bs.dropWhile f = bs := by
    cases bs with
    | nil => exact ⟨rfl, rfl⟩
    | cons b bs => simp [hb b List.mem_cons_self]
  rw [List.takeWhile_append_of_pos ha, List.dropWhile_append_of_pos ha, hbs.1, hbs.2, List.append_nil]
  exact ⟨rfl, rfl⟩

theorem State.PinsFirst.dropWhile_scout {s : State} (h : s.PinsFirst) :
    ∀ e ∈ s.wait.dropWhile WaitEntry.isPin, e.isPin = false := by
  have hsplit := (dropWhile_append_of_split (f := WaitEntry.isPin) (as := s.wait.filter WaitEntry.isPin)
    (bs := s.wait.filter fun e => !e.isPin) (fun a ha => (List.mem_filter.mp ha).2)
    fun b hb => by simpa using (List.mem_filter.mp hb).2).2
  rw [← (show s.wait = _ from h)] at hsplit
  rw [hsplit]
  exact fun b hb => by simpa using (List.mem_filter.mp hb).2

theorem Channel.find_block {ws : List Window} {b : BlockNo} {w : Window} (hw : w ∈ ws) (hwb : w.block = some b)
    (hunique : ∀ v ∈ ws, v.block = some b → v = w) : ws.find? (fun v => v.block == some b) = some w := by
  cases hf : ws.find? (fun v => v.block == some b) with
  | none =>
    have := List.find?_eq_none.mp hf w hw
    simp [hwb] at this
  | some v => rw [hunique v (List.mem_of_find?_eq_some hf) (by simpa using List.find?_some hf)]

/-- What the loss of a role leaves alone: everything but the channel, the block it takes and the wait list. -/
structure State.RoleLost (s t : State) (c : Chan) : Prop where
  law : t.law = s.law
  port : t.port = s.port
  link : t.link = s.link
  sig : t.sig = s.sig
  pending : t.pending = s.pending
  chan : ∀ d : Chan, d ≠ c → t.chan d = s.chan d
  block : ∀ k : BlockNo, s.freeBlocks.head? ≠ some k → t.block k = s.block k

theorem State.RoleLost.refl (s : State) (c : Chan) : s.RoleLost s c :=
  ⟨rfl, rfl, rfl, rfl, rfl, fun _ _ => rfl, fun _ _ => rfl⟩

theorem State.RoleLost.onChan (s : State) (c : Chan) (f : Channel → Channel) : s.RoleLost (s.onChan c f) c :=
  ⟨rfl, rfl, rfl, rfl, rfl, fun _ hd => s.onChan_chan_of_ne f hd, fun _ _ => rfl⟩

theorem State.RoleLost.withWait {s t : State} {c : Chan} (h : s.RoleLost t c) (w : List WaitEntry) :
    s.RoleLost (t.withWait w) c :=
  ⟨h.law, h.port, h.link, h.sig, h.pending, h.chan, h.block⟩

theorem State.RoleLost.handover {s : State} (c : Chan) {f : BlockNo} {fs : List BlockNo} (h : s.freeBlocks = f :: fs)
    (g : Channel → Channel) : s.RoleLost ((s.handover f c).onChan c g) c := by
  refine ⟨rfl, rfl, rfl, rfl, rfl, fun d hd => ?_, fun k hk => ?_⟩
  · rw [State.onChan_chan_of_ne _ _ hd, State.handover_chan]
  · rw [State.onChan_block, State.handover_block, if_neg]
    rintro rfl
    exact hk (by rw [h]; rfl)

theorem State.RoleLost.loseScout (s : State) (c : Chan) : s.RoleLost (s.loseScout c) c := by
  cases h : s.freeBlocks with
  | nil => rw [State.loseScout_wait c h]; exact (RoleLost.onChan s c _).withWait _
  | cons f fs => rw [State.loseScout_free c h]; exact .handover c h _

theorem State.RoleLost.losePin (s : State) (c : Chan) (p : Pos) : s.RoleLost (s.losePin c p) c := by
  cases h : s.freeBlocks with
  | nil => rw [State.losePin_wait c p h]; exact (RoleLost.onChan s c _).withWait _
  | cons f fs => rw [State.losePin_free c p h]; exact .handover c h _

theorem State.RoleLost.blockFault (s : State) (c : Chan) (b : BlockNo) :
    (s.retireBlock c b).RoleLost (s.blockFault c b) c := by
  cases hf : (s.chan c).windows.find? (fun w => w.block == some b) with
  | some w =>
    cases hk : w.kind with
    | pinned => rw [State.blockFault_of_pin hf hk]; exact .losePin _ c _
    | found => rw [State.blockFault_of_found hf hk]; exact .onChan _ c _
  | none =>
    by_cases hk : ∃ k ∈ (s.chan c).scout, k.block = b
    · obtain ⟨k, hk, hkb⟩ := hk
      rw [State.blockFault_of_scout hf hk hkb]
      exact .loseScout _ c
    · rw [State.blockFault_of_none hf fun k hk' hkb => hk ⟨k, hk', hkb⟩]
      exact .refl _ c

/-- A held block is not among the free ones. -/
theorem State.free_ne_held {s : State} {c : Chan} {b f : BlockNo} (hb : (s.block b).condition = .held c)
    (hf : s.freeBlocks.head? = some f) : f ≠ b := by
  rintro rfl
  rw [(s.mem_freeBlocks f).mp (List.mem_of_mem_head? hf)] at hb
  cases hb

theorem head?_eq_some {α : Type} {l : List α} {a : α} (h : l.head? = some a) : ∃ as, l = a :: as := by
  cases l with
  | nil => cases h
  | cons b bs => cases h; exact ⟨bs, rfl⟩

end Sys2Proof.Machine

namespace Sys2Proof

open Sys2Proof.Machine

/-! ## The statements -/

/-- Settles O44: the block is retired, and then the role it had is found and lost. -/
theorem blockFaultRetiresAndRebuilds : Obligations.BlockFaultRetiresAndRebuilds := by
  intro s c b hsound hheld ch base fresh
  have hlost := State.RoleLost.blockFault s c b
  have hfree := State.retireBlock_freeBlocks hheld
  have hbase : (s.retireBlock c b).chan c = base := s.retireBlock_chan_self c b
  have hscoutUnfound : ∀ k ∈ (s.chan c).scout, k.block = b →
      (s.chan c).windows.find? (fun w => w.block == some b) = none := fun k hk hkb => by
    refine List.find?_eq_none.mpr fun w hw hwb => ?_
    exact hsound.window_ne_scout hw (by simpa using hwb) hk hkb
  have hfound : ∀ w ∈ (s.chan c).windows, w.block = some b →
      (s.chan c).windows.find? (fun v => v.block == some b) = some w := fun w hw hwb =>
    Channel.find_block hw hwb fun v hv hvb => hsound.window_unique hv hw hvb hwb
  refine ⟨⟨?_, fun k hkb hk => ?_, fun d hd => ?_, ?_, ?_, ?_, ?_, ?_⟩, fun k hk hkb => ⟨fun f hf => ?_, fun hnone => ?_⟩,
    fun w hw hwb => ⟨fun hkind => ?_, fun hkind => ⟨fun f hf => ?_, fun hnone => ?_⟩⟩⟩
  · rw [hlost.block b (by rw [hfree]; exact fun hf => State.free_ne_held hheld hf rfl), State.retireBlock_block, if_pos rfl]
  · rw [hlost.block k (by rwa [hfree]), State.retireBlock_block, if_neg hkb]
  · rw [hlost.chan d hd, State.retireBlock_chan_of_ne _ _ hd]
  · rw [hlost.law, State.retireBlock_law]
  · rw [hlost.port, State.retireBlock_port]
  · rw [hlost.sig, State.retireBlock_sig]
  · rw [hlost.pending, State.retireBlock_pending]
  · rw [hlost.link, State.retireBlock_eq]; rfl
  · obtain ⟨fs, hfs⟩ := head?_eq_some hf
    rw [← hfree] at hfs
    have heq : s.blockFault c b = _ :=
      (State.blockFault_of_scout (hscoutUnfound k hk hkb) hk hkb).trans (State.loseScout_free c hfs)
    refine ⟨?_, ?_, nextUnoccupied (s.chan c).windowPositions (s.chan c).lastScout, ?_, ?_⟩
    · rw [heq, State.onChan_block, State.handover_block, if_pos rfl]
    · rw [heq]; exact s.retireBlock_wait c b
    · refine Channel.nextFree_windowPositions _ ?_
      have := hsound.length_windows c
      omega
    · show (s.blockFault c b).chan c = _
      rw [heq, State.onChan_chan_self, State.handover_chan, hbase]
      rfl
  · rw [← hfree] at hnone
    have heq : s.blockFault c b = _ :=
      (State.blockFault_of_scout (hscoutUnfound k hk hkb) hk hkb).trans (State.loseScout_wait c hnone)
    refine ⟨?_, ?_⟩
    · show (s.blockFault c b).chan c = _
      rw [heq, State.withWait_chan, State.onChan_chan_self, hbase]
    · rw [heq, State.withWait_wait, State.retireBlock_wait]
  · have heq : s.blockFault c b = _ := State.blockFault_of_found (hfound w hw hwb) hkind
    refine ⟨?_, ?_, fun f hf => ?_⟩
    · show (s.blockFault c b).chan c = _
      rw [heq, State.loseFound_eq, State.onChan_chan_self, hbase]
      simp only [bne, decide_not, ne_eq, beq_eq_decide]
      rfl
    · rw [heq, State.loseFound_eq, State.onChan_wait, State.retireBlock_wait]
    · rw [heq, State.loseFound_eq, State.onChan_block, State.retireBlock_block, if_neg hf]
  · obtain ⟨fs, hfs⟩ := head?_eq_some hf
    rw [← hfree] at hfs
    have heq : s.blockFault c b = _ := (State.blockFault_of_pin (hfound w hw hwb) hkind).trans (State.losePin_free c _ hfs)
    refine ⟨?_, ?_, ?_⟩
    · rw [heq, State.onChan_block, State.handover_block, if_pos rfl]
    · rw [heq]; exact s.retireBlock_wait c b
    · show (s.blockFault c b).chan c = _
      rw [heq, State.onChan_chan_self, State.handover_chan, hbase, Channel.vacate_fillPin]
      intro v hv hpos
      rw [(hsound.placement c).window_at hv hw hpos, hkind]
  · rw [← hfree] at hnone
    have heq : s.blockFault c b = _ := (State.blockFault_of_pin (hfound w hw hwb) hkind).trans (State.losePin_wait c _ hnone)
    refine ⟨?_, s.wait.takeWhile WaitEntry.isPin, s.wait.dropWhile WaitEntry.isPin, s.wait_split, fun e he => ?_,
      fun e he => ?_, ?_⟩
    · show (s.blockFault c b).chan c = _
      rw [heq, State.withWait_chan, State.onChan_chan_self, hbase, Channel.vacate_eq]
    · exact (WaitEntry.isPin_iff e).mp (List.mem_takeWhile_imp he)
    · by_contra hclaim
      have := hsound.pinsFirst.dropWhile_scout e he
      rw [(WaitEntry.isPin_iff e).mpr hclaim] at this
      cases this
    · rw [heq, State.withWait_wait, State.retireBlock_wait]

end Sys2Proof
end

section
/-!
PROOFS. The two requests that may handle a block fault before they answer: READ-TAPS (R36 to R38) and READ-STATUS (R62, R167).
-/

namespace Sys2Proof.Machine

/-! ## READ-TAPS -/

theorem exec_readTaps (tag channel selector : Byte) (s : State) :
    exec (.readTaps tag channel selector) s = .next (serve tag 0x23#8 (readTapsRequest channel selector) s) := by
  rfl

theorem selectorOf_scout : selectorOf 0x80#8 = some .scout := rfl

theorem selectorOf_byteOf (p : Pos) : selectorOf (byteOf p.val) = some (.position p) := by
  have := p.isLt
  have h : byteOf p.val ≠ 0x80#8 := by
    intro e
    have := congrArg BitVec.toNat e
    simp [byteOf] at this
    omega
  simp [selectorOf, h, posOf_byteOf]

theorem selectorOf_eq_none {b : Byte} (h : 31 < b.toNat) (hscout : b ≠ 0x80#8) : selectorOf b = none := by
  simp [selectorOf, hscout, posOf_eq_none h]

theorem exists_selectorOf {b : Byte} (h : b.toNat ≤ 31 ∨ b = 0x80#8) : ∃ t, selectorOf b = some t := by
  obtain h | rfl := h
  · obtain ⟨p, hp⟩ := posOf_isSome_iff.mpr h
    obtain rfl := posOf_eq_some_iff.mp hp
    exact ⟨_, selectorOf_byteOf p⟩
  · exact ⟨_, selectorOf_scout⟩

/-- The place at a position is the window that stands there (R36). -/
theorem Channel.tapPlace_window {ch : Channel} {w : Window} (h : ch.windows.find? (fun v => v.pos == w.pos) = some w) :
    ch.tapPlace (.position w.pos) = w.block.map fun b => { role := kindCode w.kind, pos := w.pos, block := b } := by
  simp only [Channel.tapPlace, h]

theorem Channel.tapPlace_no_window {ch : Channel} {p : Pos} (h : ∀ w ∈ ch.windows, w.pos ≠ p) :
    ch.tapPlace (.position p) = ch.scoutPlace.filter fun k => k.pos == p := by
  have : ch.windows.find? (fun w => w.pos == p) = none := List.find?_eq_none.mpr fun w hw => by simpa using h w hw
  simp only [Channel.tapPlace, this]

theorem Channel.scoutPlace_of_some {ch : Channel} {k : Scout} (h : ch.scout = some k) :
    ch.scoutPlace = some { role := 0x02#8, pos := k.pos, block := k.block } := by
  simp only [Channel.scoutPlace, h, Option.map_some]

theorem Channel.scoutPlace_of_none {ch : Channel} (h : ch.scout = none) : ch.scoutPlace = none := by
  simp only [Channel.scoutPlace, h, Option.map_none]

/-- READ-TAPS of an open channel by the place its selector finds: nothing there, a block that passes its test, and one
that fails (R36, R38). -/
theorem readTapsRequest_place {c : Chan} {selector : Byte} {t : TapSelector} {s : State}
    (hlife : (s.chan c).life ≠ .closed) (ht : selectorOf selector = some t) :
    readTapsRequest (byteOf c.val) selector s =
      match (s.chan c).tapPlace t with
      | none => (s, .refused .state)
      | some k =>
        if (s.block k.block).altered = true then
          (s.blockFault c k.block, (s.blockFault c k.block).tapAnswer (byteOf c.val) selector c t)
        else (s, s.tapAnswer (byteOf c.val) selector c t) := by
  simp only [readTapsRequest, chanOf_byteOf, ht, if_neg hlife]
  cases (s.chan c).tapPlace t with
  | none => rfl
  | some k =>
    simp only [State.testBlocks]
    split <;> rfl

theorem State.tapAnswer_done {s : State} {channel selector : Byte} {c : Chan} {t : TapSelector} {k : TapPlace}
    (h : (s.chan c).tapPlace t = some k) :
    s.tapAnswer channel selector c t = .done (s.tapFields channel selector k) := by
  simp only [State.tapAnswer, h]

theorem State.tapAnswer_refused {s : State} {channel selector : Byte} {c : Chan} {t : TapSelector}
    (h : (s.chan c).tapPlace t = none) : s.tapAnswer channel selector c t = .refused .state := by
  simp only [State.tapAnswer, h]

section Served

variable {tag selector : Byte} {c : Chan} {t : TapSelector} {s : State}

/-- Nothing with a block stands at the place named. -/
theorem exec_readTaps_nowhere (hroom : s.HasRoom) (hlife : (s.chan c).life ≠ .closed) (ht : selectorOf selector = some t)
    (hplace : (s.chan c).tapPlace t = none) :
    exec (.readTaps tag (byteOf c.val) selector) s = .next (s.answered (refusedRecord tag 0x23#8 0x04#8)) := by
  have h := readTapsRequest_place hlife ht
  rw [hplace] at h
  rw [exec_readTaps, serve_of_refused tag _ hroom h]
  rfl

/-- The block at the place named passes its test. -/
theorem exec_readTaps_passing (hroom : s.HasRoom) (hlife : (s.chan c).life ≠ .closed) (ht : selectorOf selector = some t)
    {k : TapPlace} (hplace : (s.chan c).tapPlace t = some k) (hpass : (s.block k.block).altered = false) :
    exec (.readTaps tag (byteOf c.val) selector) s =
      .next (s.answered (doneRecord tag 0x23#8 (s.tapFields (byteOf c.val) selector k))) := by
  have h := readTapsRequest_place hlife ht
  simp only [hplace, hpass, Bool.false_eq_true, if_false, State.tapAnswer_done hplace] at h
  rw [exec_readTaps, serve_of_done tag _ hroom h]

/-- The block at the place named fails its test, and something stands there again afterwards. -/
theorem exec_readTaps_rebuilt (hroom : s.HasRoom) (hlife : (s.chan c).life ≠ .closed) (ht : selectorOf selector = some t)
    {k k' : TapPlace} (hplace : (s.chan c).tapPlace t = some k) (hfail : (s.block k.block).altered = true)
    (hafter : ((s.blockFault c k.block).chan c).tapPlace t = some k') :
    exec (.readTaps tag (byteOf c.val) selector) s =
      .next ((s.blockFault c k.block).answered
        (doneRecord tag 0x23#8 ((s.blockFault c k.block).tapFields (byteOf c.val) selector k'))) := by
  have h := readTapsRequest_place hlife ht
  simp only [hplace, hfail, if_true, State.tapAnswer_done hafter] at h
  rw [exec_readTaps, serve_of_done tag _ hroom h]

/-- The block at the place named fails its test, and nothing with a block stands there afterwards. -/
theorem exec_readTaps_lost (hroom : s.HasRoom) (hlife : (s.chan c).life ≠ .closed) (ht : selectorOf selector = some t)
    {k : TapPlace} (hplace : (s.chan c).tapPlace t = some k) (hfail : (s.block k.block).altered = true)
    (hafter : ((s.blockFault c k.block).chan c).tapPlace t = none) :
    exec (.readTaps tag (byteOf c.val) selector) s =
      .next ((s.blockFault c k.block).answered (refusedRecord tag 0x23#8 0x04#8)) := by
  have h := readTapsRequest_place hlife ht
  simp only [hplace, hfail, if_true, State.tapAnswer_refused hafter] at h
  rw [exec_readTaps, serve_of_room s tag _ _ hroom, h, replyRecord_refused]
  rfl

end Served

theorem Channel.find_pos {ws before after : List Window} {w : Window} (h : ws = before ++ w :: after)
    (hbefore : ∀ v ∈ before, v.pos ≠ w.pos) : ws.find? (fun v => v.pos == w.pos) = some w := by
  rw [h, List.find?_append, List.find?_eq_none.mpr fun v hv => by simpa using hbefore v hv]
  simp

/-- In an ascending list the window at a position is found there. -/
theorem Channel.PlacementSound.find_pos {ch : Channel} (h : ch.PlacementSound) {w : Window} (hw : w ∈ ch.windows) :
    ch.windows.find? (fun v => v.pos == w.pos) = some w := by
  cases hf : ch.windows.find? (fun v => v.pos == w.pos) with
  | none =>
    have := List.find?_eq_none.mp hf w hw
    simp at this
  | some v => rw [h.window_at (List.mem_of_find?_eq_some hf) hw (by simpa using List.find?_some hf)]

/-- The place of a window once its block is another, or none. -/
theorem Channel.tapPlace_of_mapped {ch ch' : Channel} {w : Window} {x : Option BlockNo}
    (hws : ch'.windows = ch.windows.map fun v => if v.pos = w.pos then { v with block := x } else v)
    (hf : ch.windows.find? (fun v => v.pos == w.pos) = some w) :
    ch'.tapPlace (.position w.pos) = x.map fun b => { role := kindCode w.kind, pos := w.pos, block := b } := by
  refine Channel.tapPlace_window (w := { w with block := x }) ?_
  rw [hws, List.find?_map]
  have hsame : ((fun v : Window => v.pos == w.pos) ∘ fun v => if v.pos = w.pos then { v with block := x } else v) =
      fun v => v.pos == w.pos := by
    funext v
    simp only [Function.comp_apply]
    split <;> rfl
  rw [show ({ w with block := x } : Window).pos = w.pos from rfl, hsame, hf]
  simp

theorem Channel.tapPlace_scout {ch : Channel} {k : Scout} (hk : ch.scout = some k) (hno : ∀ w ∈ ch.windows, w.pos ≠ k.pos) :
    ch.tapPlace (.position k.pos) = some { role := 0x02#8, pos := k.pos, block := k.block } := by
  rw [Channel.tapPlace_no_window hno, Channel.scoutPlace_of_some hk]
  simp

theorem Channel.tapPlace_gone {ch : Channel} {p : Pos} (hno : ∀ w ∈ ch.windows, w.pos ≠ p)
    (hscout : ∀ k ∈ ch.scout, k.pos ≠ p) : ch.tapPlace (.position p) = none := by
  rw [Channel.tapPlace_no_window hno]
  cases hk : ch.scout with
  | none => rw [Channel.scoutPlace_of_none hk]; rfl
  | some k =>
    rw [Channel.scoutPlace_of_some hk, Option.filter_some]
    exact if_neg fun h => hscout k hk (by simpa using h)

/-- The scout stands at no window's position (R44). -/
theorem State.PoolSound.scout_apart {s : State} (h : s.PoolSound) {c : Chan} {k : Scout} (hk : (s.chan c).scout = some k) :
    ∀ w ∈ (s.chan c).windows, w.pos ≠ k.pos := by
  obtain ⟨-, hapart, -⟩ := h.placement c
  exact fun w hw hpos => hapart k hk (List.mem_map.mpr ⟨w, hw, hpos⟩)

/-- The fault of a scout's block leaves the windows alone (O44). -/
theorem State.PoolSound.blockFault_scout_windows {s : State} (h : s.PoolSound) {c : Chan} {k : Scout}
    (hk : (s.chan c).scout = some k) : ((s.blockFault c k.block).chan c).windows = (s.chan c).windows := by
  obtain ⟨-, hscout, -⟩ := blockFaultRetiresAndRebuilds s c k.block h (h.held_iff.mpr (.inr ⟨k, hk, rfl⟩))
  obtain ⟨hfree, hnone⟩ := hscout k hk rfl
  cases hb : s.freeBlocks with
  | nil => rw [(hnone hb).1]
  | cons f fs =>
    obtain ⟨-, -, q, -, hch⟩ := hfree f (by rw [hb]; rfl)
    rw [hch]

end Sys2Proof.Machine

namespace Sys2Proof

open Sys2Proof.Machine

/-! ## The statements -/

/-- Settles O40: each selector by the place it finds, and a failing block by what its fault leaves there (O44). -/
theorem readTapsAnswersThePlace : Obligations.ReadTapsAnswersThePlace := by
  refine fun tag s hroom => ⟨fun c selector hlife => ?_, fun c selector hclosed hsel => ?_, fun channel selector h => ?_⟩
  · intro answer
    refine ⟨fun w before after b hsel hws hbefore hwb hpass => ?_, fun k hk hsel hpass => ?_, fun p hsel hvacant hscout => ?_,
      fun hsel hnone => ?_, fun k hk hsel hfail => ⟨fun k2 hk2 => ?_, fun hnone => ?_⟩,
      fun hsound => ⟨fun w hw b hsel hwb hfail => ⟨fun hkind => ⟨fun f hf => ?_, fun hempty => ?_⟩, fun hkind => ?_⟩,
        fun k hk hsel hfail => ⟨fun k2 hk2 hpos => ?_, fun hgone => ?_⟩⟩⟩
    · subst hsel
      have hplace := Channel.tapPlace_window (Channel.find_pos hws hbefore)
      rw [hwb, Option.map_some] at hplace
      exact exec_readTaps_passing hroom hlife (selectorOf_byteOf _) hplace hpass
    · obtain rfl | ⟨rfl, hno⟩ := hsel
      · exact exec_readTaps_passing hroom hlife selectorOf_scout (Channel.scoutPlace_of_some hk) hpass
      · exact exec_readTaps_passing hroom hlife (selectorOf_byteOf _) (Channel.tapPlace_scout hk hno) hpass
    · subst hsel
      refine exec_readTaps_nowhere hroom hlife (selectorOf_byteOf _) ?_
      cases hf : (s.chan c).windows.find? (fun w => w.pos == p) with
      | some w =>
        obtain rfl : w.pos = p := by simpa using List.find?_some hf
        rw [Channel.tapPlace_window hf, hvacant w (List.mem_of_find?_eq_some hf) rfl, Option.map_none]
      | none =>
        have hno : ∀ w ∈ (s.chan c).windows, w.pos ≠ p := fun w hw => by simpa using List.find?_eq_none.mp hf w hw
        refine Channel.tapPlace_gone hno fun k hk hpos => ?_
        obtain ⟨w, hw, hwp⟩ := hscout k hk hpos
        exact hno w hw hwp
    · subst hsel
      exact exec_readTaps_nowhere hroom hlife selectorOf_scout (Channel.scoutPlace_of_none hnone)
    · subst hsel
      exact exec_readTaps_rebuilt hroom hlife selectorOf_scout (Channel.scoutPlace_of_some hk) hfail
        (Channel.scoutPlace_of_some hk2)
    · subst hsel
      exact exec_readTaps_lost hroom hlife selectorOf_scout (Channel.scoutPlace_of_some hk) hfail
        (Channel.scoutPlace_of_none hnone)
    · subst hsel
      obtain ⟨-, -, hwindow⟩ := blockFaultRetiresAndRebuilds s c b hsound (hsound.held_iff.mpr (.inl ⟨w, hw, hwb⟩))
      obtain ⟨hfree, -⟩ := (hwindow w hw hwb).2 hkind
      obtain ⟨-, -, hafter⟩ := hfree f hf
      have hplace := Channel.tapPlace_window ((hsound.placement c).find_pos hw)
      rw [hwb, Option.map_some] at hplace
      have hrebuilt : ((s.blockFault c b).chan c).tapPlace (.position w.pos) = some ⟨0x00#8, w.pos, f⟩ := by
        refine (Channel.tapPlace_of_mapped (x := some f) (by rw [hafter]) ((hsound.placement c).find_pos hw)).trans ?_
        rw [hkind]
        rfl
      exact exec_readTaps_rebuilt hroom hlife (selectorOf_byteOf _) hplace hfail hrebuilt
    · subst hsel
      obtain ⟨-, -, hwindow⟩ := blockFaultRetiresAndRebuilds s c b hsound (hsound.held_iff.mpr (.inl ⟨w, hw, hwb⟩))
      obtain ⟨-, hwait⟩ := (hwindow w hw hwb).2 hkind
      obtain ⟨hafter, -⟩ := hwait hempty
      have hplace := Channel.tapPlace_window ((hsound.placement c).find_pos hw)
      rw [hwb, Option.map_some] at hplace
      exact exec_readTaps_lost hroom hlife (selectorOf_byteOf _) hplace hfail
        (Channel.tapPlace_of_mapped (x := none) (by rw [hafter]) ((hsound.placement c).find_pos hw))
    · subst hsel
      obtain ⟨-, -, hwindow⟩ := blockFaultRetiresAndRebuilds s c b hsound (hsound.held_iff.mpr (.inl ⟨w, hw, hwb⟩))
      obtain ⟨hafter, -, -⟩ := (hwindow w hw hwb).1 hkind
      have hplace := Channel.tapPlace_window ((hsound.placement c).find_pos hw)
      rw [hwb, Option.map_some] at hplace
      refine exec_readTaps_lost hroom hlife (selectorOf_byteOf _) hplace hfail ?_
      rw [hafter]
      refine Channel.tapPlace_gone (fun v hv => by simpa using (List.mem_filter.mp hv).2) fun k hk => ?_
      exact (hsound.scout_apart hk w hw).symm
    · subst hsel
      have hapart := hsound.scout_apart hk
      have hafter : ((s.blockFault c k.block).chan c).tapPlace (.position k.pos) = some ⟨0x02#8, k2.pos, k2.block⟩ := by
        rw [← hpos]
        refine Channel.tapPlace_scout hk2 ?_
        rw [hsound.blockFault_scout_windows hk, hpos]
        exact hapart
      exact exec_readTaps_rebuilt hroom hlife (selectorOf_byteOf _) (Channel.tapPlace_scout hk hapart) hfail hafter
    · subst hsel
      have hapart := hsound.scout_apart hk
      refine exec_readTaps_lost hroom hlife (selectorOf_byteOf _) (Channel.tapPlace_scout hk hapart) hfail
        (Channel.tapPlace_gone ?_ hgone)
      rw [hsound.blockFault_scout_windows hk]
      exact hapart
  · obtain ⟨t, ht⟩ := exists_selectorOf hsel
    have h : readTapsRequest (byteOf c.val) selector s = (s, .refused .state) := by
      simp only [readTapsRequest, chanOf_byteOf, ht, hclosed, if_true]
    rw [exec_readTaps, serve_of_refused tag _ hroom h]
    rfl
  · have hrange : readTapsRequest channel selector s = (s, .refused .range) := by
      obtain h | ⟨h, hne⟩ := h
      · simp only [readTapsRequest, chanOf_eq_none h]
      · unfold readTapsRequest
        split
        · next hsel => rw [selectorOf_eq_none h hne] at hsel; cases hsel
        · rfl
    rw [exec_readTaps, serve_of_refused tag _ hroom hrange]
    rfl

end Sys2Proof
end

section
/-!
PROOFS. READ-STATUS (R62, R167): the tests, and the 59 bytes of the status record (section 10.10.4).
-/

namespace Sys2Proof.Machine

/-! ## A fault gives a channel no window -/

theorem Channel.fillPin_length (ch : Channel) (p : Pos) (b : BlockNo) : (ch.fillPin p b).windows.length = ch.windows.length := by
  rw [Channel.fillPin_eq, List.length_map]

theorem Channel.vacate_length (ch : Channel) (p : Pos) : (ch.vacate p).windows.length = ch.windows.length := by
  rw [Channel.vacate_eq, List.length_map]

theorem State.losePin_length (s : State) (c : Chan) (p : Pos) :
    ((s.losePin c p).chan c).windows.length = (s.chan c).windows.length := by
  cases h : s.freeBlocks with
  | nil => rw [State.losePin_wait c p h, State.withWait_chan, State.onChan_chan_self, Channel.vacate_length]
  | cons f fs =>
    rw [State.losePin_free c p h, State.onChan_chan_self, State.handover_chan, Channel.fillPin_length, Channel.vacate_length]

theorem State.loseScout_windows (s : State) (c : Chan) : ((s.loseScout c).chan c).windows = (s.chan c).windows := by
  cases h : s.freeBlocks with
  | nil => rw [State.loseScout_wait c h, State.withWait_chan, State.onChan_chan_self]
  | cons f fs => rw [State.loseScout_free c h, State.onChan_chan_self]; rfl

theorem State.blockFault_length_windows (s : State) (c : Chan) (b : BlockNo) :
    ((s.blockFault c b).chan c).windows.length ≤ (s.chan c).windows.length := by
  have hretired : ((s.retireBlock c b).chan c).windows = (s.chan c).windows := by rw [State.retireBlock_chan_self]; rfl
  cases hf : (s.chan c).windows.find? (fun w => w.block == some b) with
  | some w =>
    cases hk : w.kind with
    | pinned => rw [State.blockFault_of_pin hf hk, State.losePin_length, hretired]
    | found =>
      rw [State.blockFault_of_found hf hk, State.loseFound_eq, State.onChan_chan_self, ← hretired]
      exact List.length_filter_le _ _
  | none =>
    by_cases hk : ∃ k ∈ (s.chan c).scout, k.block = b
    · obtain ⟨k, hk, hkb⟩ := hk
      rw [State.blockFault_of_scout hf hk hkb, State.loseScout_windows, hretired]
    · rw [State.blockFault_of_none hf fun k hk' hkb => hk ⟨k, hk', hkb⟩, hretired]

theorem State.testBlocks_length_windows (s : State) (c : Chan) (ks : List (Pos × BlockNo)) :
    ((s.testBlocks c ks).chan c).windows.length ≤ (s.chan c).windows.length := by
  induction ks generalizing s with
  | nil => exact le_refl _
  | cons k ks ih =>
    obtain ⟨p, b⟩ := k
    simp only [State.testBlocks]
    split
    · exact (ih _).trans (s.blockFault_length_windows c b)
    · exact ih s

/-! ## The status record -/

theorem exec_readStatus (tag channel : Byte) (s : State) :
    exec (.readStatus tag channel) s = .next (serve tag 0x20#8 (readStatusRequest channel) s) := by
  rfl

theorem readStatusRequest_range {channel : Byte} (s : State) (h : 31 < channel.toNat) :
    readStatusRequest channel s = (s, .refused .range) := by
  simp only [readStatusRequest, chanOf_eq_none h]

theorem readStatusRequest_report (c : Chan) (s : State) :
    readStatusRequest (byteOf c.val) s = (s.tested c, .done ((s.tested c).statusRecord c)) := by
  simp only [readStatusRequest, chanOf_byteOf, State.tested_eq_testBlocks]

/-- The five bytes of one window entry. -/
theorem State.windowEntry_eq (s : State) (w : Window) :
    s.windowEntry w =
      match w.block with
      | some b =>
        [byteOf w.pos.val, kindCode w.kind, byteOf b.val] ++ be16 (min 65535 (sumSquares (s.block b).taps / 4294967296))
      | none => [byteOf w.pos.val, kindCode w.kind, 0xFF#8, 0x00#8, 0x00#8] := by
  obtain ⟨p, kind, b⟩ := w
  cases b with
  | some b => rfl
  | none => simp [State.windowEntry, blockCode, be16, byteOf]

theorem State.length_windowEntry (s : State) (w : Window) : (s.windowEntry w).length = 5 := by
  obtain ⟨p, kind, b⟩ := w
  cases b <;> rfl

/-- The entries of a list of windows, five bytes each, one after another. -/
theorem State.windowEntries_drop (s : State) (ws : List Window) {i : Nat} {w : Window} (h : ws[i]? = some w) (rest : List Byte) :
    ((ws.flatMap s.windowEntry ++ rest).drop (5 * i)).take 5 = s.windowEntry w := by
  induction ws generalizing i with
  | nil => simp at h
  | cons v vs ih =>
    have hlen := s.length_windowEntry v
    cases i with
    | zero =>
      obtain rfl : v = w := by simpa using h
      rw [Nat.mul_zero, List.drop_zero, List.flatMap_cons, List.append_assoc, List.take_left' hlen]
    | succ i =>
      rw [List.flatMap_cons, List.append_assoc, show 5 * (i + 1) = (s.windowEntry v).length + 5 * i by rw [hlen]; omega,
        List.drop_append]
      simp only [List.drop_eq_nil_of_le (Nat.le_add_right _ _), List.nil_append, Nat.add_sub_cancel_left]
      exact ih (by simpa using h)

theorem State.length_flatMap_windowEntry (s : State) (ws : List Window) : (ws.flatMap s.windowEntry).length = 5 * ws.length := by
  induction ws with
  | nil => rfl
  | cons v vs ih => rw [List.flatMap_cons, List.length_append, ih, s.length_windowEntry, List.length_cons]; omega

theorem State.length_windowEntries (s : State) (ws : List Window) : (s.windowEntries ws).length = 35 := by
  rw [State.windowEntries, List.length_take, List.length_append, List.length_replicate]
  omega

/-- Within the seven entries, the bytes of one. -/
theorem State.windowEntries_entry (s : State) {ws : List Window} {i : Nat} (hi : i < 7) :
    ((s.windowEntries ws).drop (5 * i)).take 5 =
      ((ws.flatMap s.windowEntry ++ List.replicate 35 0x00#8).drop (5 * i)).take 5 := by
  rw [State.windowEntries, List.drop_take, List.take_take, Nat.min_eq_left (by omega)]

theorem State.windowEntries_blank (s : State) {ws : List Window} {i : Nat} (h : ws.length ≤ i) (hi : i < 7) :
    ((s.windowEntries ws).drop (5 * i)).take 5 = List.replicate 5 0x00#8 := by
  have hlen := s.length_flatMap_windowEntry ws
  rw [s.windowEntries_entry hi, List.drop_append, List.drop_eq_nil_of_le (by omega), List.nil_append, List.drop_replicate,
    List.take_replicate]
  congr 1
  omega

/-- The status record ahead of its window entries. -/
def State.statusHead (s : State) (c : Chan) : List Byte :=
  [byteOf c.val, lifeCode (s.chan c).life, serviceCode (s.chan c).service, toneModeCode (s.chan c).toneMode,
    yesNo (s.chan c).frozen, talkCode (s.chan c).talk, stagedCode (s.chan c).staged, yesNo (s.waiting c)]
  ++ be16 (level (s.chan c).sumX) ++ be16 (level (s.chan c).sumS) ++ be16 (level (s.chan c).sumE)
  ++ be16 (level (s.chan c).sumV)
  ++ [byteOf (s.chan c).noiseFloor, byteOf (s.chan c).gain, byteOf (s.chan c).padIndex, byteOf (s.chan c).windows.length]

/-- The scout's four bytes of the status record. -/
def Channel.statusTail (ch : Channel) : List Byte :=
  match ch.scout with
  | some k => [0x01#8, byteOf k.pos.val] ++ be16 k.dwell
  | none => [0x00#8, 0x00#8, 0x00#8, 0x00#8]

theorem State.statusRecord_eq (s : State) (c : Chan) :
    s.statusRecord c = s.statusHead c ++ (s.windowEntries (s.chan c).windows ++ (s.chan c).statusTail) := by
  rw [← List.append_assoc]
  rfl

theorem State.length_statusHead (s : State) (c : Chan) : (s.statusHead c).length = 20 := rfl

theorem Channel.length_statusTail (ch : Channel) : ch.statusTail.length = 4 := by
  unfold Channel.statusTail
  split <;> rfl

theorem State.statusRecord_entry (s : State) (c : Chan) {i : Nat} (hi : i < 7) :
    ((s.statusRecord c).drop (20 + 5 * i)).take 5 = ((s.windowEntries (s.chan c).windows).drop (5 * i)).take 5 := by
  have hlen := s.length_windowEntries (s.chan c).windows
  rw [State.statusRecord_eq, List.drop_append, List.drop_eq_nil_of_le (by rw [State.length_statusHead]; omega),
    List.nil_append, State.length_statusHead, Nat.add_sub_cancel_left, List.drop_append,
    List.take_append_of_le_length (by rw [List.length_drop, hlen]; omega)]

end Sys2Proof.Machine

namespace Sys2Proof

open Sys2Proof.Machine

/-! ## The statements -/

/-- Settles O37: the record is its 20 leading bytes, seven entries of five, and the scout's four. -/
theorem readStatusReportsTheChannel : Obligations.ReadStatusReportsTheChannel := by
  refine fun tag s hroom => ⟨fun c hlen => ?_, fun channel h => ?_⟩
  · intro t
    have hwindows : (t.chan c).windows.length ≤ 7 := by
      refine le_trans ?_ hlen
      show ((s.tested c).chan c).windows.length ≤ _
      rw [State.tested_eq_testBlocks]
      exact s.testBlocks_length_windows c _
    refine ⟨t.statusRecord c, ?_, s.tested_of_sound c, ?_, ?_, fun i w hw => ?_, fun i hi hi7 => ?_, ?_⟩
    · rw [exec_readStatus, serve_of_done tag _ hroom (readStatusRequest_report c s)]
    · rw [State.statusRecord_eq, List.length_append, List.length_append, State.length_statusHead,
        State.length_windowEntries, Channel.length_statusTail]
    · rw [State.statusRecord_eq, List.take_left' (State.length_statusHead t c)]
      unfold State.statusHead yesNo
      simp only [State.waiting_iff]
      rfl
    · have hi : i < 7 := by
        have := (List.getElem?_eq_some_iff.mp hw).1
        omega
      rw [State.statusRecord_entry _ _ hi, State.windowEntries_entry _ hi, State.windowEntries_drop _ _ hw,
        State.windowEntry_eq] <;> rfl
    · rw [State.statusRecord_entry _ _ hi7, State.windowEntries_blank _ hi hi7]
    · have h55 : (t.statusHead c ++ t.windowEntries (t.chan c).windows).length = 55 := by
        rw [List.length_append, State.length_statusHead, State.length_windowEntries]
      rw [State.statusRecord_eq, ← List.append_assoc, List.drop_left' h55]
      rfl
  · rw [exec_readStatus, serve_of_refused tag _ hroom (readStatusRequest_range s h)]
    rfl

end Sys2Proof
end

section
/-!
PROOFS. The evaluation of a scout (R50 to R54): what is decided, and what each decision leaves; DWELL_END (R48).
-/

namespace Sys2Proof.Machine

/-! ## The decision -/

/-- What an evaluation decides (R51): the scout's block joins the windows, takes the place of a weaker one, or is given up. -/
inductive Verdict where
  | add
  | swap (w : Window) (b : BlockNo)
  | discard

/-- The energy the scout's block has to exceed twice over (R51). -/
def State.leastWeighed (s : State) (c : Chan) (tookPart : List BlockNo) : Nat :=
  match weakest s.windowEnergy ((s.chan c).weighedWindows tookPart) with
  | some w => s.windowEnergy w
  | none => 0

/-- The decision of R51 to R54. -/
def State.verdict (s : State) (c : Chan) (quota : Nat) (tookPart : List BlockNo) (k : Scout) : Verdict :=
  if 2 * s.leastWeighed c tookPart < energy (s.block k.block).taps then
    if (s.chan c).quotaCount < quota then .add
    else
      match weakest s.windowEnergy ((s.chan c).weighedWindows tookPart) with
      | some w => if w.kind = .found then (w.block.elim .discard (.swap w)) else .discard
      | none => .discard
  else .discard

/-- The scout's block as a FOUND window where it stands (R52, R53). -/
def Scout.gained (k : Scout) : Window := { pos := k.pos, kind := .found, block := some k.block }

/-- The scout's block joins the windows (R52). -/
def Channel.promote (ch : Channel) (k : Scout) : Channel :=
  { ch with windows := insertWindow k.gained ch.windows, scout := none }

/-- The channel after a swap (R53). -/
def Channel.swapped (ch : Channel) (k : Scout) (w : Window) (b : BlockNo) : Channel :=
  ({ ch with windows := insertWindow k.gained (ch.windows.filter fun v => v.pos != w.pos) }.placeScoutAfter k.pos
    b).countScoutSwap

/-- What a decision leaves, but for the notice of an add without a free block. -/
def State.carryOut (s : State) (c : Chan) (k : Scout) : Verdict → State
  | .add =>
    match s.freeBlocks with
    | f :: _ => (s.handover f c).onChan c fun ch => (ch.promote k).placeScoutAfter k.pos f
    | [] => (s.joinScout c).onChan c fun ch => (ch.promote k).latchStarved
  | .swap w b => (s.zeroBlock b).onChan c fun ch => ch.swapped k w b
  | .discard => (s.zeroBlock k.block).onChan c fun ch => ch.placeScoutAfter k.pos k.block

theorem State.carryOut_add_free {s : State} (c : Chan) (k : Scout) {f : BlockNo} {fs : List BlockNo}
    (h : s.freeBlocks = f :: fs) :
    s.carryOut c k .add = (s.handover f c).onChan c fun ch => (ch.promote k).placeScoutAfter k.pos f := by
  simp only [State.carryOut, h]

theorem State.carryOut_add_wait {s : State} (c : Chan) (k : Scout) (h : s.freeBlocks = []) :
    s.carryOut c k .add = (s.joinScout c).onChan c fun ch => (ch.promote k).latchStarved := by
  simp only [State.carryOut, h]

theorem State.addScout_free {s : State} (c : Chan) (k : Scout) {f : BlockNo} {fs : List BlockNo} (h : s.freeBlocks = f :: fs) :
    s.addScout c k = s.carryOut c k .add := by
  have h' : (s.onChan c fun ch => ch.promote k).freeBlocks = f :: fs := h
  have hadd : s.addScout c k = ((s.onChan c fun ch => ch.promote k).handover f c).onChan c
      fun ch => ch.placeScoutAfter k.pos f := by
    unfold State.addScout
    extract_lets s1
    simp only [show s1.freeBlocks = f :: fs from h']
    rfl
  rw [hadd, State.carryOut_add_free c k h]
  exact State.onChan_onChan (s.handover f c) c (fun ch => ch.promote k) (fun ch => ch.placeScoutAfter k.pos f)

theorem State.addScout_wait {s : State} (c : Chan) (k : Scout) (h : s.freeBlocks = []) :
    s.addScout c k = (s.carryOut c k .add).raiseNotice (.channel c) .starved := by
  have h' : (s.onChan c fun ch => ch.promote k).freeBlocks = [] := h
  have hadd : s.addScout c k = (((s.onChan c fun ch => ch.promote k).joinScout c).onChan c
      Channel.latchStarved).raiseNotice (.channel c) .starved := by
    unfold State.addScout
    extract_lets s1
    simp only [show s1.freeBlocks = [] from h']
    rfl
  rw [hadd, State.carryOut_add_wait c k h]
  exact congrArg (fun t : State => t.raiseNotice (.channel c) .starved) 
    (State.onChan_onChan (s.joinScout c) c (fun ch => ch.promote k) Channel.latchStarved)

/-- The operation each decision asks for. -/
def State.outcome (s : State) (c : Chan) (k : Scout) : Verdict → State
  | .add => s.addScout c k
  | .swap w b => s.swapScout c k w b
  | .discard => s.discardScout c k

/-- An evaluation is the decision, then its operation. -/
theorem State.evaluate_eq_outcome (s : State) (c : Chan) (quota : Nat) (tookPart : List BlockNo) (k : Scout) :
    s.evaluate c quota tookPart k = s.outcome c k (s.verdict c quota tookPart k) := by
  unfold State.evaluate State.verdict State.leastWeighed
  dsimp only
  cases weakest s.windowEnergy ((s.chan c).weighedWindows tookPart) with
  | none => dsimp only; split_ifs <;> rfl
  | some w =>
    obtain ⟨p, kind, b⟩ := w
    cases kind <;> cases b <;> simp only [reduceCtorEq, if_false, if_true] <;> split_ifs <;> rfl

/-- The decision carried out, with STARVED raised where no scout is left (R52). -/
theorem State.outcome_eq (s : State) (c : Chan) (k : Scout) (v : Verdict) :
    s.outcome c k v =
      if ((s.carryOut c k v).chan c).scout = none then (s.carryOut c k v).raiseNotice (.channel c) .starved
      else s.carryOut c k v := by
  cases v with
  | discard =>
    rw [if_neg]
    · rfl
    · rw [State.carryOut, State.onChan_chan_self]; exact Option.some_ne_none _
  | swap w b =>
    rw [if_neg]
    · rfl
    · rw [State.carryOut, State.onChan_chan_self]; exact Option.some_ne_none _
  | add =>
    cases hf : s.freeBlocks with
    | nil =>
      rw [if_pos]
      · exact State.addScout_wait c k hf
      · rw [State.carryOut_add_wait c k hf, State.onChan_chan_self]; rfl
    | cons f fs =>
      rw [if_neg]
      · exact State.addScout_free c k hf
      · rw [State.carryOut_add_free c k hf, State.onChan_chan_self]; exact Option.some_ne_none _

/-! ## The decision, as the claims tell it -/

theorem Channel.weighedWindows_eq (ch : Channel) (tookPart : List BlockNo) : ch.weighedWindows tookPart = ch.weighed tookPart := by
  unfold Channel.weighedWindows Channel.weighed
  by_cases hnone : ∀ w ∈ ch.windows, w.kind ≠ .found
  · have hempty : ch.foundWindows.isEmpty = true := by
      rw [List.isEmpty_iff, Channel.foundWindows, List.filter_eq_nil_iff]
      exact fun w hw => by simpa using hnone w hw
    have hall : (ch.windows.all fun v => v.kind != .found) = true := by simpa using hnone
    rw [if_pos hempty, hall]
    simp only [Bool.or_true, Bool.and_true]
  · push Not at hnone
    obtain ⟨w, hw, hwk⟩ := hnone
    have hsome : ¬ch.foundWindows.isEmpty = true := by
      rw [List.isEmpty_iff, Channel.foundWindows, List.filter_eq_nil_iff]
      exact fun h => h w hw (by simpa using hwk)
    have hall : (ch.windows.all fun v => v.kind != .found) = false := by
      rw [List.all_eq_false]
      exact ⟨w, hw, by simp [hwk]⟩
    rw [if_neg hsome, hall, Channel.foundWindows, List.filter_filter]
    simp only [Bool.or_false]

/-- A scout qualifies where its block's energy exceeds twice the least of those weighed (R51). -/
theorem State.qualifies_iff (s : State) (c : Chan) (tookPart : List BlockNo) (e : Nat) :
    (if (s.chan c).weighed tookPart = [] then 0 < e else ∃ w ∈ (s.chan c).weighed tookPart, 2 * s.windowEnergy w < e) ↔
      2 * s.leastWeighed c tookPart < e := by
  unfold State.leastWeighed
  rw [Channel.weighedWindows_eq]
  cases hweak : weakest s.windowEnergy ((s.chan c).weighed tookPart) with
  | none => simp [weakest_eq_none.mp hweak]
  | some w =>
    obtain ⟨hmem, hleast⟩ := weakest_least hweak
    rw [if_neg (List.ne_nil_of_mem hmem)]
    constructor
    · rintro ⟨v, hv, hlt⟩
      have := hleast v hv
      show 2 * s.windowEnergy w < e
      omega
    · exact fun h => ⟨w, hmem, h⟩

/-- Where the windows weighed hold a FOUND one, all of them are FOUND (R50). -/
theorem Channel.weighed_found {ch : Channel} {tookPart : List BlockNo} {v w : Window} (hv : v ∈ ch.weighed tookPart)
    (hw : w ∈ ch.weighed tookPart) (hvk : v.kind = .found) : w.kind = .found := by
  obtain ⟨hvmem, -⟩ := List.mem_filter.mp hv
  obtain ⟨-, hcond⟩ := List.mem_filter.mp hw
  simp only [Bool.and_eq_true, Bool.or_eq_true, beq_iff_eq, List.all_eq_true, bne_iff_ne] at hcond
  exact hcond.2.resolve_right fun hall => hall v hvmem hvk

theorem Channel.weighed_block {ch : Channel} {tookPart : List BlockNo} {w : Window} (hw : w ∈ ch.weighed tookPart) :
    ∃ b, w.block = some b ∧ b ∈ tookPart := by
  obtain ⟨-, hcond⟩ := List.mem_filter.mp hw
  simp only [Bool.and_eq_true, Option.any_eq_true, List.contains_iff_mem] at hcond
  obtain ⟨⟨b, hb, hmem⟩, -⟩ := hcond
  exact ⟨b, hb, hmem⟩

/-- What the decision is, by the conditions of R51 to R54. -/
theorem State.verdict_cases (s : State) (c : Chan) (quota : Nat) (tookPart : List BlockNo) (k : Scout) :
    (2 * s.leastWeighed c tookPart < energy (s.block k.block).taps → (s.chan c).quotaCount < quota →
      s.verdict c quota tookPart k = .add) ∧
    (2 * s.leastWeighed c tookPart < energy (s.block k.block).taps → ¬(s.chan c).quotaCount < quota →
      (∃ w ∈ (s.chan c).weighed tookPart, w.kind = .found) →
      ∃ w b, weakest s.windowEnergy ((s.chan c).weighed tookPart) = some w ∧ w.kind = .found ∧ w.block = some b ∧
        s.verdict c quota tookPart k = .swap w b) ∧
    (¬2 * s.leastWeighed c tookPart < energy (s.block k.block).taps ∨
      (¬(s.chan c).quotaCount < quota ∧ ¬∃ w ∈ (s.chan c).weighed tookPart, w.kind = .found) →
      s.verdict c quota tookPart k = .discard) := by
  refine ⟨fun henergy hquota => ?_, fun henergy hquota hfound => ?_, fun h => ?_⟩
  · rw [State.verdict, if_pos henergy, if_pos hquota]
  · obtain ⟨v, hv, hvk⟩ := hfound
    cases hweak : weakest s.windowEnergy ((s.chan c).weighed tookPart) with
    | none => rw [weakest_eq_none.mp hweak] at hv; cases hv
    | some w =>
      obtain ⟨hmem, -⟩ := weakest_least hweak
      obtain ⟨b, hb, -⟩ := Channel.weighed_block hmem
      have hk := Channel.weighed_found hv hmem hvk
      refine ⟨w, b, rfl, hk, hb, ?_⟩
      rw [State.verdict, if_pos henergy, if_neg hquota, Channel.weighedWindows_eq]
      simp only [hweak, if_pos hk, hb, Option.elim]
  · unfold State.verdict
    obtain henergy | ⟨hquota, hfound⟩ := h
    · rw [if_neg henergy]
    · by_cases henergy : 2 * s.leastWeighed c tookPart < energy (s.block k.block).taps
      · rw [if_pos henergy, if_neg hquota, Channel.weighedWindows_eq]
        cases hweak : weakest s.windowEnergy ((s.chan c).weighed tookPart) with
        | none => rfl
        | some w => exact if_neg fun hk => hfound ⟨w, (weakest_least hweak).1, hk⟩
      · rw [if_neg henergy]

/-- The windows once one has left its place to the scout's block (R53). -/
theorem mem_swapped_windows {ws : List Window} (hasc : ws.Pairwise fun a b => a.pos < b.pos) {w v : Window} (hw : w ∈ ws)
    (gained : Window) :
    v ∈ insertWindow gained (ws.filter fun u => u.pos != w.pos) ↔ (v ∈ ws ∧ v ≠ w) ∨ v = gained := by
  rw [mem_insertWindow, List.mem_filter, bne_iff_ne, or_comm]
  refine or_congr_left (and_congr_right fun hv => not_congr ⟨fun hpos => ?_, fun h => by rw [h]⟩)
  exact List.inj_on_of_nodup_map (List.pairwise_map.mpr (hasc.imp ne_of_lt)) hv hw hpos

/-- The windows a decision leaves. -/
def Channel.windowsAfter (ch : Channel) (k : Scout) : Verdict → List Window
  | .add => insertWindow k.gained ch.windows
  | .swap w _ => insertWindow k.gained (ch.windows.filter fun v => v.pos != w.pos)
  | .discard => ch.windows

theorem State.carryOut_windows (s : State) (c : Chan) (k : Scout) (v : Verdict) :
    ((s.carryOut c k v).chan c).windows = (s.chan c).windowsAfter k v := by
  cases v with
  | add =>
    cases hf : s.freeBlocks with
    | nil => rw [State.carryOut_add_wait c k hf, State.onChan_chan_self]; rfl
    | cons f fs => rw [State.carryOut_add_free c k hf, State.onChan_chan_self]; rfl
  | swap w b => rw [State.carryOut, State.onChan_chan_self]; rfl
  | discard => rw [State.carryOut, State.onChan_chan_self]; rfl

theorem Channel.windowsAfter_ascending {ch : Channel} {k : Scout} (v : Verdict)
    (hasc : ch.windows.Pairwise fun v w => v.pos < w.pos) (hapart : ∀ w ∈ ch.windows, w.pos ≠ k.pos) :
    (ch.windowsAfter k v).Pairwise fun v w => v.pos < w.pos := by
  cases v with
  | add => exact insertWindow_ascending hasc hapart
  | swap w b => exact insertWindow_ascending (hasc.filter _) fun u hu => hapart u (List.mem_filter.mp hu).1
  | discard => exact hasc

theorem Channel.length_windowsAfter_le (ch : Channel) (k : Scout) (v : Verdict) :
    (ch.windowsAfter k v).length ≤ ch.windows.length + 1 := by
  cases v with
  | add => exact (length_insertWindow).le
  | swap w b =>
    refine (length_insertWindow).le.trans (Nat.succ_le_succ ?_)
    exact List.length_filter_le _ _
  | discard => exact Nat.le_succ _

/-- An evaluation's decision carried out, as the claims tell it (R50 to R54). -/
theorem State.carryOut_gives {s : State} {c : Chan} {k : Scout} (quota : Nat) (tookPart : List BlockNo)
    (hasc : (s.chan c).windows.Pairwise fun v w => v.pos < w.pos) (hapart : ∀ w ∈ (s.chan c).windows, w.pos ≠ k.pos)
    (hlen : (s.chan c).windows.length ≤ 7) :
    s.EvaluationGives (s.carryOut c k (s.verdict c quota tookPart k)) c quota tookPart k := by
  obtain ⟨hadd, hswap, hdiscard⟩ := s.verdict_cases c quota tookPart k
  unfold State.EvaluationGives
  extract_lets before weighed found scoutEnergy qualifies gained zeroed ws placed starved swaps
  have hqualifies : qualifies ↔ 2 * s.leastWeighed c tookPart < energy (s.block k.block).taps :=
    s.qualifies_iff c tookPart scoutEnergy
  have hws : ws = before.windowsAfter k (s.verdict c quota tookPart k) := s.carryOut_windows c k _
  have hnext : ∀ v : Verdict, NextFree ((before.windowsAfter k v).map Window.pos) k.pos
      (nextUnoccupied ((before.windowsAfter k v).map Window.pos) k.pos) := fun v => by
    refine nextUnoccupied_spec k.pos (exists_unoccupied ?_)
    have := before.length_windowsAfter_le k v
    have : before.windows.length ≤ 7 := hlen
    rw [List.length_map]
    omega
  have hfull : before.windows.length + 1 = quota → ¬(s.chan c).quotaCount < quota := fun h hlt => by
    have : (s.chan c).quotaCount = quota := h
    omega
  refine ⟨hws ▸ Channel.windowsAfter_ascending _ hasc hapart, fun hq hlt => ?_, fun hq heq hf => ?_, fun h => ?_⟩
  · have hverdict := hadd (hqualifies.mp hq) hlt
    rw [hverdict] at hws
    refine ⟨fun w => ?_, fun f hf => ⟨⟨nextUnoccupied (ws.map Window.pos) k.pos, ?_, ?_⟩, ?_, fun b => ?_⟩,
      fun hnone => ⟨?_, ?_, fun b => ?_⟩⟩
    · rw [hws]
      exact mem_insertWindow.trans or_comm
    · rw [hws]; exact hnext .add
    · obtain ⟨fs, hfs⟩ := head?_eq_some hf
      simp only [placed, hws, hverdict, State.carryOut_add_free c k hfs, State.onChan_chan_self]
      exact ⟨rfl, rfl, rfl, rfl⟩
    · obtain ⟨fs, hfs⟩ := head?_eq_some hf
      rw [hverdict, State.carryOut_add_free c k hfs]
      rfl
    · obtain ⟨fs, hfs⟩ := head?_eq_some hf
      rw [hverdict, State.carryOut_add_free c k hfs, State.onChan_block, State.handover_block]
    · simp only [placed, hverdict, State.carryOut_add_wait c k hnone, State.onChan_chan_self]
      exact ⟨rfl, rfl, rfl, rfl⟩
    · rw [hverdict, State.carryOut_add_wait c k hnone]
      rfl
    · rw [hverdict, State.carryOut_add_wait c k hnone]
      rfl
  · obtain ⟨w, b, hweak, hwk, hwb, hverdict⟩ := hswap (hqualifies.mp hq) (hfull heq) hf
    rw [hverdict] at hws
    have hweakest : s.IsWeakest weighed w := weakest_spec (hasc.filter _) hweak
    have hw : w ∈ before.windows := (List.mem_filter.mp hweakest.1).1
    refine ⟨w, b, nextUnoccupied (ws.map Window.pos) k.pos, hweakest, hwb, fun v => ?_, ?_, ?_, ?_, fun b' => ?_⟩
    · rw [hws]
      exact mem_swapped_windows hasc hw gained
    · rw [hws]; exact hnext (.swap w b)
    · simp only [placed, hws, hverdict, State.carryOut, State.onChan_chan_self]
      exact ⟨rfl, rfl, rfl, rfl⟩
    · rw [hverdict]
      rfl
    · rw [hverdict, State.carryOut, State.onChan_block, State.zeroBlock, State.writeTaps_block]
      rfl
  · have hverdict := hdiscard (h.imp (fun h => mt hqualifies.mpr h) fun ⟨heq, hf⟩ => ⟨hfull heq, hf⟩)
    rw [hverdict] at hws
    refine ⟨hws, ⟨nextUnoccupied (ws.map Window.pos) k.pos, ?_, ?_⟩, ?_, fun b => ?_⟩
    · rw [hws]; exact hnext .discard
    · simp only [placed, hws, hverdict, State.carryOut, State.onChan_chan_self]
      exact ⟨rfl, rfl, rfl, rfl⟩
    · rw [hverdict]
      rfl
    · rw [hverdict, State.carryOut, State.onChan_block, State.zeroBlock, State.writeTaps_block]
      rfl

/-! ## DWELL_END -/

theorem State.endDwell_of_due {s : State} {c : Chan} {k : Scout} {tookPart : List BlockNo} (quota : Nat)
    (hk : (s.chan c).scout = some k) (hdue : k.due = some tookPart) :
    s.endDwell c quota = s.evaluate c quota tookPart k := by
  simp only [State.endDwell, hk, hdue]

/-- Where no evaluation is due nothing happens (R48, R49). -/
theorem State.endDwell_of_not_due {s : State} {c : Chan} (quota : Nat) (h : ∀ k ∈ (s.chan c).scout, k.due = none) :
    s.endDwell c quota = s := by
  unfold State.endDwell
  split
  · next k hk => rw [h k hk]
  · rfl

/-- The fields of a channel that an evaluation leaves alone. -/
theorem State.carryOut_chan_self (s : State) (c : Chan) (k : Scout) (v : Verdict) :
    (s.carryOut c k v).chan c =
      { s.chan c with
        windows := ((s.carryOut c k v).chan c).windows, scout := ((s.carryOut c k v).chan c).scout
        lastScout := ((s.carryOut c k v).chan c).lastScout
        conditions := { (s.chan c).conditions with starved := ((s.carryOut c k v).chan c).conditions.starved }
        counters := { (s.chan c).counters with scoutSwaps := ((s.carryOut c k v).chan c).counters.scoutSwaps } } := by
  cases v with
  | add =>
    cases hf : s.freeBlocks with
    | nil => rw [State.carryOut_add_wait c k hf, State.onChan_chan_self]; rfl
    | cons f fs => rw [State.carryOut_add_free c k hf, State.onChan_chan_self]; rfl
  | swap w b => rw [State.carryOut, State.onChan_chan_self]; rfl
  | discard => rw [State.carryOut, State.onChan_chan_self]; rfl

/-- An evaluation touches its channel, the blocks and the wait list alone. -/
theorem State.carryOut_agreesBut (s : State) (c : Chan) (k : Scout) (v : Verdict) : s.AgreesBut (s.carryOut c k v) c := by
  cases v with
  | add =>
    cases hf : s.freeBlocks with
    | nil =>
      rw [State.carryOut_add_wait c k hf]
      exact ⟨rfl, rfl, rfl, rfl, rfl, fun d hd => State.onChan_chan_of_ne _ _ hd⟩
    | cons f fs =>
      rw [State.carryOut_add_free c k hf]
      exact ⟨rfl, rfl, rfl, rfl, rfl, fun d hd => State.onChan_chan_of_ne _ _ hd⟩
  | swap w b => exact ⟨rfl, rfl, rfl, rfl, rfl, fun d hd => State.onChan_chan_of_ne _ _ hd⟩
  | discard => exact ⟨rfl, rfl, rfl, rfl, rfl, fun d hd => State.onChan_chan_of_ne _ _ hd⟩

theorem exec_dwellEnd (c : Chan) (s : State) : exec (.dwellEnd c) s = execDwellEnd c s := by
  rfl

theorem execDwellEnd_active {c : Chan} {s : State} {p : Profile} (hlife : (s.chan c).life = .active)
    (hp : (s.chan c).profile = some p) : execDwellEnd c s = .next (s.settleNotice (s.endDwell c p.quota)) := by
  refine (channelEvent_of_open _ (life_ne_closed_of_active hlife) hp).trans ?_
  rw [if_pos hlife]

end Sys2Proof.Machine

namespace Sys2Proof

open Sys2Proof.Machine

/-! ## The statements -/

/-- Settles O50: the evaluation is a decision carried out; without a due one nothing happens. -/
theorem dwellEndEvaluatesTheScout : Obligations.DwellEndEvaluatesTheScout := by
  refine fun c s p hlife hp => ⟨fun hnone => ?_, fun k tookPart hsound hk hdue => ?_⟩
  · rw [exec_dwellEnd, execDwellEnd_active hlife hp, State.endDwell_of_not_due _ hnone, State.settleNotice_self]
  · obtain ⟨hasc, -⟩ := hsound.placement c
    refine ⟨s.carryOut c k (s.verdict c p.quota tookPart k), ?_, s.carryOut_agreesBut c k _,
      State.carryOut_gives _ _ hasc (hsound.scout_apart hk) (hsound.length_windows c), s.carryOut_chan_self c k _⟩
    rw [exec_dwellEnd, execDwellEnd_active hlife hp, State.endDwell_of_due _ hk hdue, State.evaluate_eq_outcome,
      State.outcome_eq]
    obtain ⟨-, -, hlink, -⟩ := s.carryOut_agreesBut c k (s.verdict c p.quota tookPart k)
    congr 1
    split
    · exact settleNotice_raised _ _ hlink
    · exact State.settleNotice_of_settled fun hidle => State.settled_of_idle (hlink ▸ hidle)

end Sys2Proof
end

section
/-!
PROOFS. The quota reduction (R61) with the places the returned blocks go to (R68, R69); a forced APPLY (R133, R135).
-/

namespace Sys2Proof.Machine

/-! ## Pins filled, with other windows leaving -/

theorem fillPins_comp (d : Chan) (wait : List WaitEntry) (b : BlockNo) (bs : List BlockNo) (ws : List Window) :
    fillPins d (wait.tail.zip bs) (fillPins d (wait.zip [b]) ws) = fillPins d (wait.zip (b :: bs)) ws := by
  cases wait with
  | nil => simp
  | cons e rest =>
    rw [List.zip_cons_cons, List.zip_cons_cons, List.zip_nil_right, List.tail_cons, ← fillPins_cons]

/-- What `fillPins` does with one window. -/
def Window.filled (d : Chan) (handed : List (WaitEntry × BlockNo)) (w : Window) : Window :=
  if w.kind = .pinned ∧ w.block = none then
    { w with block := (handed.find? fun k => decide (k.1 = { chan := d, claim := .pin w.pos })).map Prod.snd }
  else w

theorem fillPins_eq_map (d : Chan) (handed : List (WaitEntry × BlockNo)) (ws : List Window) :
    fillPins d handed ws = ws.map (Window.filled d handed) := rfl

theorem Window.filled_found {d : Chan} {handed : List (WaitEntry × BlockNo)} {w : Window} (h : w.kind = .found) :
    w.filled d handed = w := by
  rw [Window.filled, if_neg (by rw [h]; simp)]

theorem Window.filled_kind (d : Chan) (handed : List (WaitEntry × BlockNo)) (w : Window) :
    (w.filled d handed).kind = w.kind := by
  unfold Window.filled
  split <;> rfl

/-- FOUND windows are not touched where pins are filled. -/
theorem mem_fillPins_found {d : Chan} {handed : List (WaitEntry × BlockNo)} {ws : List Window} {w : Window}
    (h : w.kind = .found) : w ∈ fillPins d handed ws ↔ w ∈ ws := by
  rw [fillPins_eq_map, List.mem_map]
  constructor
  · rintro ⟨v, hv, hvw⟩
    have hvk : v.kind = .found := by rw [← Window.filled_kind d handed, hvw, h]
    rw [Window.filled_found hvk] at hvw
    exact hvw ▸ hv
  · exact fun hw => ⟨w, hw, Window.filled_found h⟩

/-- FOUND windows leave the list alike before and after pins are filled. -/
theorem filter_fillPins {d : Chan} {handed : List (WaitEntry × BlockNo)} {gone ws : List Window}
    (h : ∀ w ∈ gone, w.kind = .found) :
    (fillPins d handed ws).filter (fun w => w ∉ gone) = fillPins d handed (ws.filter fun w => w ∉ gone) := by
  rw [fillPins_eq_map, fillPins_eq_map, List.filter_map]
  congr 1
  refine List.filter_congr fun w _ => ?_
  cases hk : w.kind with
  | found => rw [Function.comp_apply, Window.filled_found hk]
  | pinned =>
    have hnot : w ∉ gone := fun hw => by rw [h w hw] at hk; cases hk
    have hnot' : w.filled d handed ∉ gone := fun hw => by
      have := h _ hw
      rw [Window.filled_kind, hk] at this
      cases this
    simp [hnot, hnot']

/-! ## What a quota reduction leaves -/

/-- The windows that stand once the first `n` of those leaving are gone. -/
abbrev State.keptAfter (s : State) (c : Chan) (gone : List (Window × BlockNo)) (n : Nat) : List Window :=
  (s.chan c).windows.filter fun w => w ∉ (gone.take n).map Prod.fst

/-- What a reduction to `quota` leaves, told by the windows that have left, in their order (R61, R68, R69). -/
structure State.Shed (s t : State) (c : Chan) (quota : Nat) (gone : List (Window × BlockNo)) : Prop where
  length : gone.length = (s.chan c).windows.length + 1 - quota
  found : ∀ k ∈ gone, k.1 ∈ (s.chan c).windows ∧ k.1.kind = .found ∧ k.1.block = some k.2
  order : (gone.map Prod.fst).Pairwise s.Weaker
  weaker : ∀ w ∈ (s.chan c).windows, w.kind = .found → w ∉ gone.map Prod.fst → ∀ k ∈ gone, s.Weaker k.1 w
  returns : s.Returns t (gone.map Prod.snd)
  block : ∀ b : BlockNo, b ∉ gone.map Prod.snd → t.block b = s.block b
  chan : t.chan c =
    { s.chan c with
      windows := fillPins c (s.wait.zip (gone.map Prod.snd)) (s.keptAfter c gone gone.length)
      scout := (t.chan c).scout, lastScout := (t.chan c).lastScout }
  unserved : (∀ k ∈ s.wait.zip (gone.map Prod.snd), k.1 ≠ scoutEntry c) →
    (t.chan c).scout = (s.chan c).scout ∧ (t.chan c).lastScout = (s.chan c).lastScout
  served : ∀ (n : Nat) (b : BlockNo), (s.wait.zip (gone.map Prod.snd))[n]? = some (scoutEntry c, b) →
    ∃ q : Pos, NextFree ((s.keptAfter c gone (n + 1)).map Window.pos) (s.chan c).lastScout q ∧
      (t.chan c).scout = some { pos := q, block := b, dwell := 0 } ∧ (t.chan c).lastScout = q
  others : ∀ d : Chan, d ≠ c → (s.chan d).ServedBy (t.chan d) d (s.wait.zip (gone.map Prod.snd))
  frame : t = { s with channels := t.channels, blocks := t.blocks, wait := t.wait }

/-- What a reduction rests on: distinct places and blocks, a block in every FOUND window, enough of them to leave, and
no two equal wait entries. -/
structure State.Sheddable (s : State) (c : Chan) (quota : Nat) : Prop where
  ascending : (s.chan c).windows.Pairwise fun v w => v.pos < w.pos
  blocks : ((s.chan c).windows.filterMap Window.block).Nodup
  holding : ∀ w ∈ (s.chan c).windows, w.kind = .found → w.block.isSome = true
  enough : (s.chan c).windows.length + 1 - quota ≤ (s.chan c).foundWindows.length
  short : ∀ d : Chan, (s.chan d).windows.length ≤ 7
  waits : s.wait.Nodup

theorem State.Shed.none {s : State} {c : Chan} {quota : Nat} (h : (s.chan c).quotaCount ≤ quota) : s.Shed s c quota [] where
  length := by
    rw [Channel.quotaCount] at h
    simp only [List.length_nil]
    omega
  found := nofun
  order := .nil
  weaker := nofun
  returns := by simp [State.Returns]
  block := fun _ _ => rfl
  chan := by
    simp only [State.keptAfter, List.map_nil, List.zip_nil_right, fillPins_nil, List.take_nil, List.not_mem_nil,
      not_false_eq_true, decide_true, List.filter_true]
  unserved := fun _ => ⟨rfl, rfl⟩
  served := by simp
  others := fun d _ => by rw [List.map_nil, List.zip_nil_right]; exact .refl _ d
  frame := rfl

/-- A window and its block leave the channel (R61). -/
theorem State.returnWindow_eq (s : State) (c : Chan) {w : Window} {b : BlockNo} (h : w.block = some b) :
    s.returnWindow c w =
      (s.onChan c fun ch => { ch with windows := ch.windows.filter fun v => v.pos != w.pos }).returnBlocks [b] := by
  simp only [State.returnWindow, h]
  rfl

/-- One window leaves: what the state is then, before the next. -/
structure State.ShedOne (s t : State) (c : Chan) (w : Window) (b : BlockNo) : Prop where
  wait : t.wait = s.wait.tail
  block : ∀ j : BlockNo, j ≠ b → t.block j = s.block j
  self : ({ s.chan c with windows := (s.chan c).windows.filter fun v => v ≠ w } : Channel).ServedBy (t.chan c) c
    (s.wait.zip [b])
  others : ∀ d : Chan, d ≠ c → (s.chan d).ServedBy (t.chan d) d (s.wait.zip [b])
  given : ∀ k ∈ s.wait.zip [b], t.block b = { taps := List.replicate 32 0, condition := .held k.1.chan, altered := false }
  freed : s.wait = [] → t.block b = { s.block b with condition := .free }
  frame : t = { s with channels := t.channels, blocks := t.blocks, wait := t.wait }

theorem State.ShedOne.returnWindow {s : State} {c : Chan} {quota : Nat} (h : s.Sheddable c quota) {w : Window} {b : BlockNo}
    (hw : w ∈ (s.chan c).windows) (hwb : w.block = some b) : s.ShedOne (s.returnWindow c w) c w b := by
  have hfilter : ((s.chan c).windows.filter fun v => v.pos != w.pos) = (s.chan c).windows.filter fun v => v ≠ w :=
    List.filter_congr fun v hv => by
      rw [Bool.eq_iff_iff, bne_iff_ne, decide_eq_true_iff]
      refine not_congr ⟨fun hpos => ?_, fun h => by rw [h]⟩
      exact List.inj_on_of_nodup_map (List.pairwise_map.mpr (h.ascending.imp ne_of_lt)) hv hw hpos
  rw [State.returnWindow_eq s c hwb]
  generalize hs1 : (s.onChan c fun ch => { ch with windows := ch.windows.filter fun v => v.pos != w.pos }) = s1
  have hchan : s1.chan c = { s.chan c with windows := (s.chan c).windows.filter fun v => v ≠ w } := by
    rw [← hs1, State.onChan_chan_self, hfilter]
  have hother : ∀ d, d ≠ c → s1.chan d = s.chan d := fun d hd => by rw [← hs1, State.onChan_chan_of_ne _ _ hd]
  have hwait : s1.wait = s.wait := by rw [← hs1]; rfl
  have hblock : ∀ j, s1.block j = s.block j := fun j => by rw [← hs1]; rfl
  have hreturns := s1.returnBlocks_returns (List.nodup_singleton b)
  have hserved : ∀ d, (s1.chan d).ServedBy ((s1.returnBlocks [b]).chan d) d (s.wait.zip [b]) := fun d => by
    rw [← hwait]
    refine s1.returnBlocks_servedBy [b] (by rw [hwait]; exact h.waits) ?_
    have hd := h.short d
    by_cases hdc : d = c
    · subst hdc
      rw [hchan]
      have := List.length_filter_le (fun v => decide (v ≠ w)) (s.chan d).windows
      show ((s.chan d).windows.filter fun v => decide (v ≠ w)).length < 32
      omega
    · rw [hother d hdc]; omega
  refine ⟨?_, fun j hj => ?_, ?_, fun d hd => ?_, fun k hk => ?_, fun hnil => ?_, ?_⟩
  · rw [hreturns.1, hwait]; simp
  · rw [State.returnBlocks_block_of_not_mem _ (by simpa using hj), hblock]
  · rw [← hchan]; exact hserved c
  · rw [← hother d hd]; exact hserved d
  · have hkb : k.2 = b := List.mem_singleton.mp (List.of_mem_zip hk).2
    rw [← hwait] at hk
    have := hreturns.2.1 k hk
    rwa [hkb] at this
  · rw [hreturns.2.2 b (by rw [hwait, hnil]; simp), hblock]
  · rw [State.returnBlocks_frame, ← hs1]; rfl

/-- A channel's own windows once one has left: those that stay, with a pin filled where the head entry names one. -/
theorem State.ShedOne.windows {s t : State} {c : Chan} {w : Window} {b : BlockNo} (h : s.ShedOne t c w b) :
    (t.chan c).windows = fillPins c (s.wait.zip [b]) ((s.chan c).windows.filter fun v => v ≠ w) := by
  obtain ⟨hall, -⟩ := h.self
  rw [hall]

theorem State.ShedOne.mem_found {s t : State} {c : Chan} {w v : Window} {b : BlockNo} (h : s.ShedOne t c w b)
    (hv : v.kind = .found) : v ∈ (t.chan c).windows ↔ v ∈ (s.chan c).windows ∧ v ≠ w := by
  rw [h.windows, mem_fillPins_found hv, List.mem_filter, decide_eq_true_iff]

theorem filterMap_block_fillPins (d : Chan) (e : WaitEntry) (b : BlockNo) (ws : List Window)
    (hasc : ws.Pairwise fun v w => v.pos < w.pos) (hnodup : (ws.filterMap Window.block).Nodup)
    (hb : b ∉ ws.filterMap Window.block) : ((fillPins d [(e, b)] ws).filterMap Window.block).Nodup := by
  have hfilled : ∀ w : Window, (w.filled d [(e, b)]).block = w.block ∨
      (w.block = none ∧ (w.filled d [(e, b)]).block = some b ∧ e = pinEntry d w.pos) := fun w => by
    unfold Window.filled
    split
    · next hw =>
      by_cases he : e = pinEntry d w.pos
      · exact .inr ⟨hw.2, by simp [he], he⟩
      · exact .inl (by simp [he, hw.2])
    · exact .inl rfl
  induction ws with
  | nil => exact List.nodup_nil
  | cons w ws ih =>
    obtain ⟨hw, hws⟩ := List.pairwise_cons.mp hasc
    have htail : (ws.filterMap Window.block).Nodup := hnodup.sublist ((List.sublist_cons_self w ws).filterMap _)
    have hbtail : b ∉ ws.filterMap Window.block := fun h => hb (((List.sublist_cons_self w ws).filterMap _).subset h)
    have hmem : ∀ k, k ∈ (fillPins d [(e, b)] ws).filterMap Window.block →
        k ∈ ws.filterMap Window.block ∨ (k = b ∧ ∃ v ∈ ws, e = pinEntry d v.pos) := fun k hk => by
      rw [fillPins_eq_map, List.filterMap_map] at hk
      obtain ⟨v, hv, hvk⟩ := List.mem_filterMap.mp hk
      obtain hsame | ⟨-, hnew, he⟩ := hfilled v
      · exact .inl (List.mem_filterMap.mpr ⟨v, hv, hsame ▸ hvk⟩)
      · exact .inr ⟨Option.some.inj (hvk.symm.trans hnew), v, hv, he⟩
    have hrest := ih hws htail hbtail
    rw [fillPins_eq_map, List.map_cons, ← fillPins_eq_map]
    cases hblock : (w.filled d [(e, b)]).block with
    | none => rwa [List.filterMap_cons_none hblock]
    | some k =>
      rw [List.filterMap_cons_some hblock, List.nodup_cons]
      refine ⟨fun hk => ?_, hrest⟩
      obtain hsame | ⟨-, hnew, he⟩ := hfilled w
      · rw [hblock] at hsame
        obtain hk | ⟨rfl, -⟩ := hmem k hk
        · rw [List.filterMap_cons_some hsame.symm, List.nodup_cons] at hnodup
          exact hnodup.1 hk
        · exact hb (List.mem_filterMap.mpr ⟨w, List.mem_cons_self, hsame.symm⟩)
      · obtain rfl : k = b := Option.some.inj (hblock.symm.trans hnew)
        obtain hk | ⟨-, v, hv, hev⟩ := hmem k hk
        · exact hbtail hk
        · have hpos : w.pos = v.pos := by simpa using he.symm.trans hev
          exact absurd hpos (ne_of_lt (hw v hv))

theorem fillPins_ascending {d : Chan} {handed : List (WaitEntry × BlockNo)} {ws : List Window}
    (h : ws.Pairwise fun v w => v.pos < w.pos) : (fillPins d handed ws).Pairwise fun v w => v.pos < w.pos := by
  have hpos : (ws.map Window.pos).Pairwise (· < ·) := List.pairwise_map.mpr h
  rw [← fillPins_map_pos d handed] at hpos
  exact List.pairwise_map.mp hpos

/-- The ones that leave with one FOUND window less. -/
theorem length_filter_ne_found {ws : List Window} {w : Window} (hnodup : ws.Nodup) (hw : w ∈ ws) :
    (ws.filter fun v => v ≠ w).length + 1 = ws.length := by
  have := List.length_erase_of_mem hw
  rw [hnodup.erase_eq_filter] at this
  have hpos := List.length_pos_of_mem hw
  have hsame : ws.filter (fun v => decide (v ≠ w)) = ws.filter (fun v => v != w) :=
    List.filter_congr fun v _ => by rw [Bool.eq_iff_iff]; simp
  rw [hsame]
  omega

theorem Window.nodup_of_ascending {ws : List Window} (h : ws.Pairwise fun v w => v.pos < w.pos) : ws.Nodup :=
  h.imp fun hlt heq => absurd (congrArg Window.pos heq) (ne_of_lt hlt)

theorem foundWindows_of_windows {ws : List Window} (d : Chan) (handed : List (WaitEntry × BlockNo)) :
    (fillPins d handed ws).filter (fun w => w.kind == .found) = ws.filter fun w => w.kind == .found := by
  rw [fillPins_eq_map, List.filter_map]
  have : (fun w : Window => w.kind == .found) ∘ Window.filled d handed = fun w => w.kind == .found := by
    funext w
    rw [Function.comp_apply, Window.filled_kind]
  rw [this]
  conv => rhs; rw [← List.map_id (ws.filter fun w => w.kind == .found)]
  refine List.map_congr_left fun w hw => Window.filled_found ?_
  simpa using (List.mem_filter.mp hw).2

theorem State.ShedOne.length_windows {s t : State} {c : Chan} {quota : Nat} {w : Window} {b : BlockNo}
    (h : s.ShedOne t c w b) (hs : s.Sheddable c quota) (hw : w ∈ (s.chan c).windows) :
    (t.chan c).windows.length + 1 = (s.chan c).windows.length := by
  rw [h.windows, length_fillPins]
  exact length_filter_ne_found (Window.nodup_of_ascending hs.ascending) hw

/-- What a reduction rests on stands once a window has left. -/
theorem State.ShedOne.sheddable {s t : State} {c : Chan} {quota : Nat} {w : Window} {b : BlockNo} (h : s.ShedOne t c w b)
    (hs : s.Sheddable c quota) (hw : w ∈ (s.chan c).windows) (hkind : w.kind = .found) (hwb : w.block = some b)
    (hover : quota < (s.chan c).quotaCount) : t.Sheddable c quota := by
  have hkeptAsc : ((s.chan c).windows.filter fun v => v ≠ w).Pairwise fun v w => v.pos < w.pos := hs.ascending.filter _
  have hlength := h.length_windows hs hw
  have hfoundLength : (t.chan c).foundWindows.length + 1 = (s.chan c).foundWindows.length := by
    have hcomm : (t.chan c).foundWindows = (s.chan c).foundWindows.filter fun v => v ≠ w := by
      rw [Channel.foundWindows, h.windows, foundWindows_of_windows, Channel.foundWindows, List.filter_filter,
        List.filter_filter]
      exact List.filter_congr fun v _ => Bool.and_comm _ _
    rw [hcomm]
    exact length_filter_ne_found ((Window.nodup_of_ascending hs.ascending).filter _)
      (List.mem_filter.mpr ⟨hw, by simp [hkind]⟩)
  refine ⟨?_, ?_, fun v hv hvk => hs.holding v ((h.mem_found hvk).mp hv).1 hvk, ?_, fun d => ?_, ?_⟩
  · rw [h.windows]
    exact fillPins_ascending hkeptAsc
  · rw [h.windows]
    have hnodup : (((s.chan c).windows.filter fun v => v ≠ w).filterMap Window.block).Nodup :=
      hs.blocks.sublist (List.filter_sublist.filterMap _)
    cases hwait : s.wait with
    | nil => rw [List.zip_nil_left, fillPins_nil]; exact hnodup
    | cons e rest =>
      rw [List.zip_cons_cons, List.zip_nil_right]
      refine filterMap_block_fillPins c e b _ hkeptAsc hnodup fun hb => ?_
      obtain ⟨v, hv, hvb⟩ := List.mem_filterMap.mp hb
      obtain ⟨hv, hvw⟩ := List.mem_filter.mp hv
      exact (decide_eq_true_iff.mp hvw) (window_eq_of_block hs.blocks hv hw hvb hwb)
  · have := hs.enough
    rw [Channel.quotaCount] at hover
    omega
  · by_cases hd : d = c
    · subst hd
      have := hs.short d
      omega
    · rw [(h.others d hd).length_windows]
      exact hs.short d
  · rw [h.wait]
    exact hs.waits.sublist (List.tail_sublist _)

/-- The energies of the FOUND windows that stay are what they were. -/
theorem State.ShedOne.windowEnergy {s t : State} {c : Chan} {quota : Nat} {w v : Window} {b : BlockNo} (h : s.ShedOne t c w b)
    (hs : s.Sheddable c quota) (hw : w ∈ (s.chan c).windows) (hwb : w.block = some b) (hvk : v.kind = .found)
    (hv : v ∈ (t.chan c).windows) : t.windowEnergy v = s.windowEnergy v := by
  obtain ⟨hv, hvw⟩ := (h.mem_found hvk).mp hv
  unfold State.windowEnergy
  cases hvb : v.block with
  | none => rfl
  | some k =>
    simp only
    rw [h.block k fun hkb => hvw (window_eq_of_block hs.blocks hv hw (hkb ▸ hvb) hwb)]

theorem mem_zip_first {wait : List WaitEntry} {b : BlockNo} {bs : List BlockNo} {k : WaitEntry × BlockNo}
    (h : k ∈ wait.zip [b]) : k ∈ wait.zip (b :: bs) := by
  cases wait with
  | nil => simp at h
  | cons e rest =>
    rw [List.zip_cons_cons, List.zip_nil_right, List.mem_singleton] at h
    exact h ▸ List.mem_cons_self

theorem mem_zip_rest {wait : List WaitEntry} {b : BlockNo} {bs : List BlockNo} {k : WaitEntry × BlockNo}
    (h : k ∈ wait.tail.zip bs) : k ∈ wait.zip (b :: bs) := by
  cases wait with
  | nil => simp at h
  | cons e rest => exact List.mem_cons_of_mem _ h

/-- One window leaves, and then the rest. -/
theorem State.Shed.cons {s t u : State} {c : Chan} {quota : Nat} {w : Window} {b : BlockNo} {gone : List (Window × BlockNo)}
    (hs : s.Sheddable c quota) (hover : quota < (s.chan c).quotaCount) (hweak : s.IsWeakest (s.chan c).foundWindows w)
    (hwb : w.block = some b) (hone : s.ShedOne t c w b) (hrest : t.Shed u c quota gone) :
    s.Shed u c quota ((w, b) :: gone) := by
  obtain ⟨hwfound, hleast⟩ := hweak
  obtain ⟨hw, hkind⟩ : w ∈ (s.chan c).windows ∧ w.kind = .found := by simpa [Channel.foundWindows] using hwfound
  have hwt : w ∉ (t.chan c).windows := fun h => ((hone.mem_found hkind).mp h).2 rfl
  have hfirst : ∀ v ∈ (t.chan c).windows, v.kind = .found → s.Weaker w v := fun v hv hvk => by
    obtain ⟨hvs, hvw⟩ := (hone.mem_found hvk).mp hv
    refine (hleast v (by simpa [Channel.foundWindows] using ⟨hvs, hvk⟩)).imp_right fun ⟨he, hpos⟩ => ⟨he, ?_⟩
    refine lt_of_le_of_ne hpos fun h => hvw ?_
    exact (List.inj_on_of_nodup_map (List.pairwise_map.mpr (hs.ascending.imp ne_of_lt)) hvs hw h.symm)
  have henergy : ∀ v ∈ (t.chan c).windows, v.kind = .found → t.windowEnergy v = s.windowEnergy v :=
    fun v hv hvk => hone.windowEnergy hs hw hwb hvk hv
  have hweaker : ∀ v x : Window, v ∈ (t.chan c).windows → v.kind = .found → x ∈ (t.chan c).windows → x.kind = .found →
      t.Weaker v x → s.Weaker v x := fun v x hv hvk hx hxk h => by
    unfold State.Weaker at h ⊢
    rwa [henergy v hv hvk, henergy x hx hxk] at h
  have hb : b ∉ gone.map Prod.snd := fun h => by
    obtain ⟨⟨v, k⟩, hk, rfl⟩ := List.mem_map.mp h
    obtain ⟨hv, hvk, hvb⟩ := hrest.found _ hk
    obtain ⟨hvs, hvw⟩ := (hone.mem_found hvk).mp hv
    exact hvw (window_eq_of_block hs.blocks hvs hw hvb hwb)
  have hgoneFound : ∀ n, ∀ v ∈ (gone.take n).map Prod.fst, v.kind = .found := fun n v hv => by
    obtain ⟨k, hk, rfl⟩ := List.mem_map.mp hv
    exact (hrest.found k (List.mem_of_mem_take hk)).2.1
  have hkept : ∀ n, t.keptAfter c gone n = fillPins c (s.wait.zip [b]) (s.keptAfter c ((w, b) :: gone) (n + 1)) := fun n => by
    unfold State.keptAfter
    rw [hone.windows, filter_fillPins (hgoneFound n), List.filter_filter]
    congr 1
    refine List.filter_congr fun v _ => ?_
    rw [List.take_succ_cons, List.map_cons, Bool.eq_iff_iff]
    simp only [Bool.and_eq_true, decide_eq_true_iff, List.mem_cons, not_or]
    exact and_comm
  have hrestGiven := hrest.returns
  obtain ⟨hwaitRest, hgivenRest, hfreedRest⟩ := hrestGiven
  have hlength := hone.length_windows hs hw
  have hub : u.block b = t.block b := hrest.block b hb
  obtain ⟨hself, hselfUnserved, hselfServed⟩ := hone.self
  refine ⟨?_, fun k hk => ?_, ?_, fun v hv hvk hnot k hk => ?_, ⟨?_, fun k hk => ?_, fun j hj => ?_⟩, fun j hj => ?_, ?_,
    fun hun => ?_, fun n j hj => ?_, fun d hd => ?_, ?_⟩
  · have := hrest.length
    rw [Channel.quotaCount] at hover
    rw [List.length_cons]
    omega
  · rcases List.mem_cons.mp hk with rfl | hk
    · exact ⟨hw, hkind, hwb⟩
    · obtain ⟨hv, hvk, hvb⟩ := hrest.found k hk
      exact ⟨((hone.mem_found hvk).mp hv).1, hvk, hvb⟩
  · rw [List.map_cons, List.pairwise_cons]
    refine ⟨fun v hv => ?_, hrest.order.imp_of_mem fun hv hx h => ?_⟩
    · obtain ⟨k, hk, rfl⟩ := List.mem_map.mp hv
      obtain ⟨hv, hvk, -⟩ := hrest.found k hk
      exact hfirst _ hv hvk
    · obtain ⟨k, hk, rfl⟩ := List.mem_map.mp hv
      obtain ⟨l, hl, rfl⟩ := List.mem_map.mp hx
      obtain ⟨hv, hvk, -⟩ := hrest.found k hk
      obtain ⟨hx, hxk, -⟩ := hrest.found l hl
      exact hweaker _ _ hv hvk hx hxk h
  · rw [List.map_cons, List.mem_cons, not_or] at hnot
    have hvt : v ∈ (t.chan c).windows := (hone.mem_found hvk).mpr ⟨hv, hnot.1⟩
    rcases List.mem_cons.mp hk with rfl | hk
    · exact hfirst v hvt hvk
    · obtain ⟨hx, hxk, -⟩ := hrest.found k hk
      exact hweaker _ _ hx hxk hvt hvk (hrest.weaker v hvt hvk hnot.2 k hk)
  · rw [hwaitRest, hone.wait, List.map_cons, List.length_cons, List.drop_tail]
  · rw [List.map_cons] at hk
    cases hsw : s.wait with
    | nil => rw [hsw] at hk; simp at hk
    | cons e rest =>
      rw [hsw, List.zip_cons_cons] at hk
      rcases List.mem_cons.mp hk with rfl | hk
      · show u.block b = _
        rw [hub]
        exact hone.given (e, b) (by rw [hsw, List.zip_cons_cons]; exact List.mem_cons_self)
      · refine hgivenRest k ?_
        rw [hone.wait, hsw]
        exact hk
  · rw [List.map_cons] at hj
    cases hsw : s.wait with
    | nil =>
      rw [hsw, List.length_nil, List.drop_zero] at hj
      rcases List.mem_cons.mp hj with rfl | hj
      · rw [hub, hone.freed hsw]
      · rw [hfreedRest j (by rw [hone.wait, hsw]; exact hj), hone.block j fun h => hb (h ▸ hj)]
    | cons e rest =>
      rw [hsw, List.length_cons, List.drop_succ_cons] at hj
      rw [hfreedRest j (by rw [hone.wait, hsw]; exact hj), hone.block j fun h => hb (h ▸ List.mem_of_mem_drop hj)]
  · rw [List.map_cons, List.mem_cons, not_or] at hj
    rw [hrest.block j hj.2, hone.block j hj.1]
  · rw [hrest.chan, hkept, hone.wait, List.map_cons, fillPins_comp, List.length_cons]
    rw [hself]
  · have hunFirst := hselfUnserved fun k hk => hun k (mem_zip_first hk)
    have hunRest := hrest.unserved fun k hk => hun k (mem_zip_rest (hone.wait ▸ hk))
    exact ⟨hunRest.1.trans hunFirst.1, hunRest.2.trans hunFirst.2⟩
  · rw [List.map_cons] at hj
    cases hsw : s.wait with
    | nil => rw [hsw] at hj; simp at hj
    | cons e rest =>
      rw [hsw, List.zip_cons_cons] at hj
      have hwait : t.wait = rest := by rw [hone.wait, hsw]; rfl
      have hnodup := hs.waits
      rw [hsw, List.nodup_cons] at hnodup
      cases n with
      | zero =>
        obtain ⟨rfl, rfl⟩ : e = scoutEntry c ∧ b = j := by simpa using hj
        obtain ⟨q, hq, hscout, hlast⟩ := hselfServed b (by rw [hsw, List.zip_cons_cons]; exact List.mem_cons_self)
        have hun := hrest.unserved fun k hk h => hnodup.1 (by
          rw [hwait] at hk
          exact h ▸ (List.of_mem_zip hk).1)
        refine ⟨q, ?_, hun.1.trans hscout, hun.2.trans hlast⟩
        simpa [State.keptAfter] using hq
      | succ n =>
        have hj' : (t.wait.zip (gone.map Prod.snd))[n]? = some (scoutEntry c, j) := by rw [hwait]; simpa using hj
        obtain ⟨q, hq, hscout, hlast⟩ := hrest.served n j hj'
        have hmem : scoutEntry c ∈ rest := by
          have := List.mem_of_getElem? hj'
          rw [hwait] at this
          exact (List.of_mem_zip this).1
        have hun := hselfUnserved fun k hk h => hnodup.1 (by
          rw [hsw, List.zip_cons_cons, List.zip_nil_right, List.mem_singleton] at hk
          subst hk
          rwa [show e = scoutEntry c from h])
        refine ⟨q, ?_, hscout, hlast⟩
        rw [hkept, fillPins_map_pos, hun.2] at hq
        exact hq
  · have hfirst := hone.others d hd
    have hnext := hrest.others d hd
    rw [hone.wait] at hnext
    rw [List.map_cons]
    cases hsw : s.wait with
    | nil =>
      rw [hsw, List.zip_nil_left] at hfirst
      rw [List.zip_nil_left]
      rw [hsw, List.tail_nil, List.zip_nil_left, hfirst.of_nil] at hnext
      exact hnext
    | cons e rest =>
      have hnodup := hs.waits
      rw [hsw, List.nodup_cons] at hnodup
      rw [hsw, List.zip_cons_cons, List.zip_nil_right] at hfirst
      rw [hsw, List.tail_cons] at hnext
      refine hfirst.cons hnext fun he k hk h => hnodup.1 ?_
      rw [show e = k.1 from he.trans h.symm]
      exact (List.of_mem_zip hk).1
  · rw [hrest.frame, hone.frame]

/-- The quota reduction, told by the windows that leave (R61). -/
theorem State.reduceQuota_shed {s : State} {c : Chan} {quota : Nat} (hs : s.Sheddable c quota) (fuel : Nat)
    (hfuel : (s.chan c).windows.length ≤ fuel) : ∃ gone, s.Shed (s.reduceQuota c quota fuel) c quota gone := by
  induction fuel generalizing s with
  | zero =>
    refine ⟨[], .none ?_⟩
    have := hs.enough
    have hle : (s.chan c).foundWindows.length ≤ (s.chan c).windows.length := List.length_filter_le _ _
    rw [Channel.quotaCount]
    omega
  | succ fuel ih =>
    by_cases hover : quota < (s.chan c).quotaCount
    · cases hweak : weakest s.windowEnergy (s.chan c).foundWindows with
      | none =>
        have hnone := weakest_eq_none.mp hweak
        have := hs.enough
        rw [hnone, List.length_nil] at this
        rw [Channel.quotaCount] at hover
        omega
      | some w =>
        have hspec : s.IsWeakest (s.chan c).foundWindows w := weakest_spec (hs.ascending.filter _) hweak
        obtain ⟨hw, hkind⟩ : w ∈ (s.chan c).windows ∧ w.kind = .found := by simpa [Channel.foundWindows] using hspec.1
        obtain ⟨b, hwb⟩ := Option.isSome_iff_exists.mp (hs.holding w hw hkind)
        have hone := State.ShedOne.returnWindow hs hw hwb
        have hlength := hone.length_windows hs hw
        obtain ⟨gone, hgone⟩ := ih (hone.sheddable hs hw hkind hwb hover) (by omega)
        refine ⟨(w, b) :: gone, ?_⟩
        have heq : s.reduceQuota c quota (fuel + 1) = (s.returnWindow c w).reduceQuota c quota fuel := by
          simp only [State.reduceQuota, if_pos hover, hweak]
        rw [heq]
        exact .cons hs hover hspec hwb hone hgone
    · exact ⟨[], by rw [State.reduceQuota_of_le _ (Nat.le_of_not_lt hover)]; exact .none (Nat.le_of_not_lt hover)⟩

end Sys2Proof.Machine
end

section
/-!
PROOFS. An apply that takes effect, whatever the quota (R61, R121, R135): a forced APPLY, and the events of a channel that the
channel timers end (R79, R100, R101, R131, R134).
-/

namespace Sys2Proof.Machine

/-! ## An apply that takes effect -/

theorem Channel.takeProfile_windows (ch : Channel) (old new : Profile) : (ch.takeProfile old new).windows = ch.windows := rfl

/-- A record an apply can bring: sound, with the pins of the profile it replaces (R133). -/
structure Profile.Follows (new old : Profile) : Prop where
  pins : new.pins = old.pins
  fields : new.FieldsSound

/-- What the quota reduction of an apply rests on, in a sound pool. -/
theorem State.PoolSound.sheddable {s : State} (h : s.PoolSound) {c : Chan} {old new : Profile}
    (hp : (s.chan c).profile = some old) (hnew : new.Follows old) :
    (s.onChan c fun ch => ch.takeProfile old new).Sheddable c new.quota := by
  have hchan : ((s.onChan c fun ch => ch.takeProfile old new).chan c).windows = (s.chan c).windows := by
    rw [State.onChan_chan_self, Channel.takeProfile_windows]
  obtain ⟨hasc, -, hfound, hpins, -⟩ := h.placement c
  obtain ⟨hpins, -⟩ := hpins old hp
  obtain ⟨hquota, -, -, -, hfew, -⟩ := hnew.fields
  refine ⟨by rwa [hchan], by rw [hchan]; exact h.windowBlocks_nodup c, by rwa [hchan], ?_, fun d => ?_, h.waits.1⟩
  · have hlen : ((s.chan c).windows.filter fun w => w.kind == .pinned).length = old.pins.length := by
      rw [← hpins, List.length_map]
    have hsplit := List.length_eq_length_filter_add (l := (s.chan c).windows) fun w => w.kind == .found
    have hother : (s.chan c).windows.filter (fun w => !(w.kind == .found)) =
        (s.chan c).windows.filter fun w => w.kind == .pinned :=
      List.filter_congr fun w _ => by cases w.kind <;> rfl
    rw [hother, hlen, ← hnew.pins] at hsplit
    rw [hchan, Channel.foundWindows, hchan]
    omega
  · rw [State.onChan_chan]
    split
    · next hd => rw [Channel.takeProfile_windows]; exact h.length_windows c
    · exact h.length_windows d

/-- An apply that takes effect, told by the windows that leave. -/
theorem State.applied_shed {s : State} {c : Chan} {old new : Profile}
    (hs : (s.onChan c fun ch => ch.takeProfile old new).Sheddable c new.quota) :
    ∃ (gone : List (Window × BlockNo)) (t : State), (s.onChan c fun ch => ch.takeProfile old new).Shed t c new.quota gone ∧
      s.applied c old new = t.onChan c fun ch => { ch with staged := .empty } := by
  obtain ⟨gone, hgone⟩ := State.reduceQuota_shed hs (s.chan c).windows.length
    (by rw [State.onChan_chan_self, Channel.takeProfile_windows])
  exact ⟨gone, _, hgone, rfl⟩

/-- What the windows that leave say of an apply, as the claims spell it. -/
theorem State.Shed.applyGives {s t : State} {c : Chan} {old new : Profile} {gone : List (Window × BlockNo)}
    (h : (s.onChan c fun ch => ch.takeProfile old new).Shed t c new.quota gone) :
    s.ApplyGives (t.onChan c fun ch => { ch with staged := .empty }) c old new := by
  have hchan : (s.onChan c fun ch => ch.takeProfile old new).chan c = (s.chan c).takeProfile old new :=
    s.onChan_chan_self c _
  have hother : ∀ d, d ≠ c → (s.onChan c fun ch => ch.takeProfile old new).chan d = s.chan d := fun d hd =>
    s.onChan_chan_of_ne _ hd
  have hself : (t.onChan c fun ch => { ch with staged := .empty }).chan c = { t.chan c with staged := .empty } :=
    t.onChan_chan_self c _
  obtain ⟨hlength, hfound, horder, hweaker, hreturns, hblock, htchan, hunserved, hserved, hothers, -⟩ := h
  unfold State.keptAfter at htchan hserved
  rw [hchan] at hlength hfound hweaker htchan hunserved hserved
  refine ⟨gone, hlength, hfound, horder, hweaker, hreturns, hblock, ?_, ?_, fun n b hn => ?_, fun d hd => ?_⟩
  · rw [hself, htchan]
    rfl
  · rw [hself]
    exact hunserved
  · rw [hself]
    exact hserved n b hn
  · rw [State.onChan_chan_of_ne _ _ hd, ← hother d hd]
    exact hothers d hd

theorem State.Shed.frame_onChan {s t : State} {c : Chan} {f g : Channel → Channel} {quota : Nat}
    {gone : List (Window × BlockNo)} (h : (s.onChan c f).Shed t c quota gone) :
    (t.onChan c g).law = s.law ∧ (t.onChan c g).port = s.port ∧ (t.onChan c g).link = s.link ∧
      (t.onChan c g).sig = s.sig ∧ (t.onChan c g).pending = s.pending := by
  rw [h.frame]
  exact ⟨rfl, rfl, rfl, rfl, rfl⟩

/-! ## The windows that stay -/

/-- The windows that leave are distinct. -/
theorem State.Shed.nodup_gone {s t : State} {c : Chan} {quota : Nat} {gone : List (Window × BlockNo)}
    (h : s.Shed t c quota gone) : (gone.map Prod.fst).Nodup :=
  h.order.imp fun {v w} hvw heq => by
    subst heq
    obtain hlt | ⟨-, hlt⟩ := hvw
    · exact lt_irrefl _ hlt
    · exact lt_irrefl _ hlt

theorem length_filter_not_mem {ws gone : List Window} (hws : ws.Nodup) (hgone : gone.Nodup) (hsub : ∀ w ∈ gone, w ∈ ws) :
    (ws.filter fun w => w ∉ gone).length + gone.length = ws.length := by
  have hsplit := List.length_eq_length_filter_add (l := ws) fun w => decide (w ∈ gone)
  have hperm : (ws.filter fun w => decide (w ∈ gone)).Perm gone :=
    (List.perm_ext_iff_of_nodup (hws.filter _) hgone).mpr fun w => by
      rw [List.mem_filter, decide_eq_true_iff]
      exact ⟨And.right, fun h => ⟨hsub w h, h⟩⟩
  rw [hperm.length_eq] at hsplit
  have hnot : ws.filter (fun w => !decide (w ∈ gone)) = ws.filter fun w => decide (w ∉ gone) :=
    List.filter_congr fun w _ => by simp
  rw [hnot] at hsplit
  omega

/-- What R61 says of the windows of an apply: within the quota, in their places, and the weakest gone. -/
theorem State.Shed.weakest_gone {s t : State} {c : Chan} {quota : Nat} {gone : List (Window × BlockNo)}
    (h : s.Shed t c quota gone) (hs : s.Sheddable c quota) (_ : 1 ≤ quota) :
    (t.chan c).quotaCount ≤ quota ∧
    ((t.chan c).windows.map Window.pos).Sublist ((s.chan c).windows.map Window.pos) ∧
    (∀ w ∈ (t.chan c).windows, w.kind = .found → w ∈ (s.chan c).windows) ∧
    (∀ w ∈ (s.chan c).windows, w.pos ∉ (t.chan c).windows.map Window.pos →
      w.kind = .found ∧ quota ≤ (t.chan c).quotaCount ∧
        ∀ v ∈ (t.chan c).windows, v.kind = .found → s.Weaker w v) := by
  have hwindows : (t.chan c).windows =
      fillPins c (s.wait.zip (gone.map Prod.snd)) ((s.chan c).windows.filter fun w => w ∉ gone.map Prod.fst) := by
    rw [h.chan]
    simp only [State.keptAfter, List.take_length]
  have hlength : (t.chan c).windows.length + gone.length = (s.chan c).windows.length := by
    rw [hwindows, length_fillPins, ← List.length_map (as := gone) Prod.fst]
    refine length_filter_not_mem (Window.nodup_of_ascending hs.ascending) h.nodup_gone fun w hw => ?_
    obtain ⟨k, hk, rfl⟩ := List.mem_map.mp hw
    exact (h.found k hk).1
  have hgone := h.length
  have hmem : ∀ v ∈ (t.chan c).windows, v.kind = .found → v ∈ (s.chan c).windows ∧ v ∉ gone.map Prod.fst :=
    fun v hv hvk => by
      rw [hwindows, mem_fillPins_found hvk, List.mem_filter, decide_eq_true_iff] at hv
      exact hv
  refine ⟨?_, ?_, fun w hw hwk => (hmem w hw hwk).1, fun w hw hpos => ?_⟩
  · rw [Channel.quotaCount]; omega
  · rw [hwindows, fillPins_map_pos]
    exact List.filter_sublist.map _
  · have hin : w ∈ gone.map Prod.fst := by
      by_contra hnot
      refine hpos ?_
      rw [hwindows, fillPins_map_pos]
      exact List.mem_map.mpr ⟨w, List.mem_filter.mpr ⟨hw, decide_eq_true hnot⟩, rfl⟩
    obtain ⟨k, hk, rfl⟩ := List.mem_map.mp hin
    have hpos := List.length_pos_of_mem hk
    refine ⟨(h.found k hk).2.1, ?_, fun v hv hvk => ?_⟩
    · rw [Channel.quotaCount]; omega
    · obtain ⟨hvs, hvg⟩ := hmem v hv hvk
      exact h.weaker v hvs hvk hvg k hk

/-! ## The channel timers -/

theorem exec_dtHangoverEnd (c : Chan) (s : State) :
    exec (.dtHangoverEnd c) s = channelEvent c (fun _ t => t.onChan c Channel.endHangover) s := by
  rfl

theorem exec_nlpRelease (c : Chan) (s : State) :
    exec (.nlpRelease c) s = channelEvent c (fun _ t => t.onChan c Channel.releaseSuppressor) s := by
  rfl

theorem exec_noiseFloorUpdate (c : Chan) (s : State) :
    exec (.noiseFloorUpdate c) s = channelEvent c (fun p t => t.onChan c fun ch => ch.updateNoiseFloor p) s := by
  rfl

theorem exec_endOfOpening (c : Chan) (s : State) :
    exec (.endOfOpening c) s = channelEvent c (fun p t => t.endOpening c p) s := by
  rfl

theorem exec_quietPoint (c : Chan) (s : State) :
    exec (.quietPoint c) s = channelEvent c (fun _ t => t.quietPoint c) s := by
  rfl

/-- An event of an open channel that writes its context alone. -/
theorem channelEvent_onChan {c : Chan} {s : State} {p : Profile} (f : Profile → Channel → Channel)
    (hlife : (s.chan c).life ≠ .closed) (hp : (s.chan c).profile = some p) :
    channelEvent c (fun p t => t.onChan c (f p)) s = .next (s.setChan c (f p (s.chan c))) :=
  (channelEvent_of_open _ hlife hp).trans (congrArg _ (settleNotice_setChan s c _))

theorem State.quietPoint_of_pending {s : State} {c : Chan} {q : Profile} (hin : (s.chan c).inSample = true)
    (hlife : (s.chan c).life = .active) (hstaged : (s.chan c).staged = .pending q) (hquiet : 400 ≤ (s.chan c).quietRun) :
    s.quietPoint c = s.applyTakesEffect c q := by
  simp only [State.quietPoint, hstaged]
  exact if_pos ⟨hin, hlife, hquiet⟩

/-- The floor less one, as the claims spell it (R77, R101). -/
theorem floorOf_pred (f : Floor) : floorOf f - 1 = match f with | .low => 23 | .normal => 47 | .high => 95 := by
  cases f <;> rfl

theorem State.applied_link {s : State} {c : Chan} {old new : Profile}
    (hs : (s.onChan c fun ch => ch.takeProfile old new).Sheddable c new.quota) : (s.applied c old new).link = s.link := by
  obtain ⟨gone, t, hshed, ht⟩ := State.applied_shed hs
  rw [ht]
  exact hshed.frame_onChan.2.2.1

end Sys2Proof.Machine

namespace Sys2Proof

open Sys2Proof.Machine

/-! ## The statements -/

/-- Settles O32: the state before the notice is `State.applied`, which the windows that leave tell in full. -/
theorem applyReturnsTheWeakestWindows : Obligations.ApplyReturnsTheWeakestWindows := by
  intro tag c p active s t hroom hsound hlife hprofile hstaged hbulk hpins hline hexchange
  have hfields : p.FieldsSound := (hsound.profilesSound c).2.1 p (by rw [hstaged]; exact List.mem_singleton_self p)
  have hs := hsound.sheddable hprofile ⟨hpins, hfields⟩
  obtain ⟨gone, v, hshed, hv⟩ := State.applied_shed hs
  have happly := applyRequest_staged (force := 0x01#8) rfl hlife hprofile hstaged
  rw [if_neg (by simp [hbulk, hpins]), if_neg (not_not.mpr ⟨hline, hexchange⟩), State.applyTakesEffect_eq p hprofile] at happly
  have hexec := (exec_applyProfile tag (byteOf c.val) 0x01#8 s).trans (congrArg _ (serve_of_done tag _ hroom happly))
  refine ⟨⟨s.applied c active p, hexec, ?_⟩, fun ht => ?_⟩
  · rw [hv]
    exact ⟨hshed.applyGives, hshed.frame_onChan⟩
  · have hchan : (t.chan c).windows = (v.chan c).windows := by
      have := Host.Outcome.next.inj (ht.symm.trans hexec)
      rw [this, State.answered_chan, State.raiseNotice_chan, hv, State.onChan_chan_self]
    have hstart : ((s.onChan c fun ch => ch.takeProfile active p).chan c).windows = (s.chan c).windows := by
      rw [State.onChan_chan_self, Channel.takeProfile_windows]
    have hquota := hshed.weakest_gone hs (le_trans (by decide) hfields.1)
    rw [Channel.quotaCount, ← hchan, hstart] at hquota
    exact hquota

/-- Settles O54: each event by its trigger; the quiet point by what an apply that takes effect leaves. -/
theorem channelTimersEnd : Obligations.ChannelTimersEnd := by
  intro c s p hlife hp before
  refine ⟨fun hflag hcount => ?_, fun hin => ⟨?_, ?_, ?_⟩, fun hin hengaged hcount => ?_, fun hin htalk hrun hmod => ?_,
    fun hopening hcount => ?_, fun q hin hactive hstaged hquiet => ?_⟩
  · rw [exec_dtHangoverEnd, channelEvent_onChan _ hlife hp, Channel.endHangover, if_pos (by simp [before] at *; simp [*])]
  · rw [exec_nlpRelease, channelEvent_onChan _ hlife hp, Channel.releaseSuppressor_between _ hin, State.setChan_chan_eq]
  · rw [exec_noiseFloorUpdate, channelEvent_onChan (fun p ch => ch.updateNoiseFloor p) hlife hp,
      Channel.updateNoiseFloor_between _ p hin, State.setChan_chan_eq]
  · rw [exec_quietPoint, channelEvent_of_open _ hlife hp, State.quietPoint_between s c hin, State.settleNotice_self]
  · rw [exec_nlpRelease, channelEvent_onChan _ hlife hp, Channel.releaseSuppressor,
      if_pos (by simp [before] at *; simp [*])]
  · rw [exec_noiseFloorUpdate, channelEvent_onChan (fun p ch => ch.updateNoiseFloor p) hlife hp, Channel.updateNoiseFloor,
      if_pos (by simp [before] at *; simp [*]), floorOf_pred] <;> rfl
  · rw [exec_endOfOpening, channelEvent_of_open _ hlife hp]
    have hend : s.endOpening c p = (s.setChan c { before with life := .active }).raiseNotice (.channel c) .mode :=
      if_pos ⟨hopening, hcount⟩
    rw [hend, settleNotice_raised (s := s) (t := s.setChan c _) _ _ rfl]
  · have hevent : exec (.quietPoint c) s = .next (s.settleNotice ((s.applied c p q).raiseNotice (.channel c) .applied)) := by
      rw [exec_quietPoint, channelEvent_of_open _ hlife hp, State.quietPoint_of_pending hin hactive hstaged hquiet,
        State.applyTakesEffect_eq q hp]
    refine ⟨fun hsound => ?_, fun hquota => ?_⟩
    · obtain ⟨-, hrecords, hpending⟩ := hsound.profilesSound c
      have hfields : q.FieldsSound := hrecords q (by
        rw [show (s.chan c).staged = _ from hstaged]; exact List.mem_singleton_self q)
      obtain ⟨-, hsame⟩ := hpending q (by rw [show (s.chan c).staged = _ from hstaged]; rfl)
      have hs := hsound.sheddable hp ⟨(hsame p hp).2, hfields⟩
      obtain ⟨gone, v, hshed, hv⟩ := State.applied_shed hs
      refine ⟨s.applied c p q, ?_, ?_⟩
      · rw [hevent, settleNotice_raised _ _ (State.applied_link hs)]
      · rw [hv]
        exact ⟨hshed.applyGives, hshed.frame_onChan⟩
    · rw [hevent, State.applied_of_le p hquota, settleNotice_raised (s := s) (t := s.setChan c _) _ _ rfl]
      rfl

end Sys2Proof
end

section
/-!
PROOFS. RETRAIN (R59, R95).
-/

namespace Sys2Proof.Machine

/-! ## The blocks that leave their windows -/

/-- The blocks of the FOUND windows of a channel, ascending. -/
abbrev State.foundBlocks (s : State) (c : Chan) : List BlockNo :=
  allBlocks.filter fun b => (s.chan c).windows.any fun w => w.kind == .found && w.block == some b

theorem State.mem_foundBlocks {s : State} {c : Chan} {b : BlockNo} :
    b ∈ s.foundBlocks c ↔ ∃ w ∈ (s.chan c).windows, w.kind = .found ∧ w.block = some b := by
  simp [State.foundBlocks, allBlocks]

theorem ascending_foundWindows (s : State) (c : Chan) :
    ascending ((s.chan c).foundWindows.filterMap Window.block) = s.foundBlocks c := by
  refine List.filter_congr fun b _ => ?_
  rw [Bool.eq_iff_iff, List.contains_iff_mem]
  simp only [Channel.foundWindows, List.mem_filterMap, List.mem_filter, List.any_eq_true, Bool.and_eq_true, beq_iff_eq]
  exact exists_congr fun w => and_assoc

theorem State.foundBlocks_nodup (s : State) (c : Chan) : (s.foundBlocks c).Nodup := (List.nodup_finRange 192).filter _

/-- The head of an ascending list is its least. -/
theorem State.head_foundBlocks_le {s : State} {c : Chan} {b k : BlockNo} {rest : List BlockNo}
    (h : s.foundBlocks c = b :: rest) (hk : k ∈ s.foundBlocks c) : b ≤ k := by
  have hsorted : (s.foundBlocks c).Pairwise (· < ·) := (List.pairwise_lt_finRange 192).filter _
  rw [h] at hsorted hk
  rcases List.mem_cons.mp hk with rfl | hk
  · exact le_refl _
  · exact ((List.pairwise_cons.mp hsorted).1 k hk).le

/-- The state with every tap of a channel at 0, told by the blocks it holds. -/
abbrev State.zeroedFor (s : State) (c : Chan) : State :=
  { s with
    blocks := s.blocks.map fun k =>
      if k.condition = .held c then { k with taps := List.replicate 32 0, altered := false } else k }

theorem State.zeroedFor_block (s : State) (c : Chan) (b : BlockNo) :
    (s.zeroedFor c).block b =
      if (s.block b).condition = .held c then { s.block b with taps := List.replicate 32 0, altered := false }
      else s.block b := by
  show (s.blocks.map _)[b.val] = _
  rw [Vector.getElem_map]
  rfl

/-- In a sound pool the taps set to 0 are those of the blocks held. -/
theorem State.PoolSound.zeroHeldTaps_eq_zeroedFor {s : State} (h : s.PoolSound) (c : Chan) :
    s.zeroHeldTaps c = s.zeroedFor c := by
  rw [State.zeroHeldTaps_eq]
  have : (s.zeroHeldTaps c).blocks = (s.zeroedFor c).blocks := State.blocks_ext _ fun b => by
    rw [State.zeroHeldTaps_block, State.zeroedFor_block]
    exact if_congr ((h.holders c).2 b).symm rfl rfl
  rw [this]

/-! ## The windows rebuilt -/

/-- The blocks returned: without pins the lowest of those freed is kept (R59, steps 3 and 4). -/
abbrev State.retrainReturned (s : State) (c : Chan) (p : Profile) : List BlockNo :=
  if p.pins = [] then (s.foundBlocks c).drop 1 else s.foundBlocks c

/-- The free block that stands in where none was freed (R59, step 3). -/
abbrev State.retrainRebuilt (s : State) (c : Chan) (p : Profile) : Option BlockNo :=
  if p.pins = [] ∧ s.foundBlocks c = [] then s.freeBlocks.head? else none

/-- The windows of a RETRAIN before blocks are returned. -/
def State.retrainWindows (s : State) (c : Chan) (p : Profile) : List Window :=
  if p.pins = [] then
    (((s.foundBlocks c).head?.or (s.retrainRebuilt c p)).map
      fun b => { pos := p.initialPos, kind := .found, block := some b }).toList
  else (s.chan c).windows.filter fun w => w.kind == .pinned

/-- A RETRAIN before its blocks are returned. -/
structure State.RetrainBase (s t : State) (c : Chan) (p : Profile) : Prop where
  self : t.chan c = { s.chan c with windows := s.retrainWindows c p }
  others : ∀ d : Chan, d ≠ c → t.chan d = s.chan d
  block : ∀ b : BlockNo, t.block b =
    if s.retrainRebuilt c p = some b then { taps := List.replicate 32 0, condition := .held c, altered := false }
    else (s.zeroedFor c).block b
  frame : t = { s with channels := t.channels, blocks := t.blocks }

theorem filter_ne_found (ws : List Window) :
    ws.filter (fun w => w.kind != .found) = ws.filter fun w => w.kind == .pinned :=
  List.filter_congr fun w _ => by cases w.kind <;> rfl

theorem State.PoolSound.zeroedFor_freeBlocks (s : State) (c : Chan) : (s.zeroedFor c).freeBlocks = s.freeBlocks :=
  State.freeBlocks_congr fun b => by
    rw [State.zeroedFor_block]
    split <;> exact Iff.rfl

/-- The placement's part of a RETRAIN: a base, the return of what is left over, and the scout moved (R59). -/
theorem State.PoolSound.retrainPlacement_eq {s : State} (h : s.PoolSound) {c : Chan} {p : Profile}
    (hp : (s.chan c).profile = some p) :
    ∃ base : State, s.RetrainBase base c p ∧
      s.retrainPlacement c p = (base.returnBlocks (s.retrainReturned c p)).onChan c Channel.rewindScout := by
  obtain ⟨-, -, -, hpins, -⟩ := h.placement c
  obtain ⟨hpins, -⟩ := hpins p hp
  have hzero : ∀ f : Channel → Channel, ((s.zeroedFor c).onChan c f).chan c = f (s.chan c) := fun f =>
    State.onChan_chan_self _ c f
  have hzeroOther : ∀ (f : Channel → Channel) (d : Chan), d ≠ c → ((s.zeroedFor c).onChan c f).chan d = s.chan d :=
    fun f d hd => State.onChan_chan_of_ne _ f hd
  have hfound : ((s.zeroedFor c).chan c).foundWindows = (s.chan c).foundWindows := rfl
  unfold State.retrainPlacement
  extract_lets s1 freed s2 s3
  have hs1 : s1 = s.zeroedFor c := h.zeroHeldTaps_eq_zeroedFor c
  have hfreed : freed = s.foundBlocks c := by
    show ascending ((s1.chan c).foundWindows.filterMap Window.block) = _
    rw [hs1, hfound, ascending_foundWindows]
  have hs2 : s2 = (s.zeroedFor c).onChan c fun ch => { ch with windows := ch.windows.filter fun w => w.kind != .found } := by
    show s1.onChan c _ = _
    rw [hs1]
  by_cases hnopins : p.pins = []
  · have hnone : (s.chan c).windows.filter (fun w => w.kind != .found) = [] := by
      rw [hnopins] at hpins
      rw [filter_ne_found]
      exact List.map_eq_nil_iff.mp hpins
    have hreplaced : ∀ b : BlockNo, (({ s.chan c with windows := [] } : Channel).replaceFound p b) =
        { s.chan c with windows := [{ pos := p.initialPos, kind := .found, block := some b }] } := fun b => rfl
    cases hf : s.foundBlocks c with
    | cons b rest =>
      refine ⟨s2.onChan c fun ch => ch.replaceFound p b, ⟨?_, fun d hd => ?_, fun j => ?_, ?_⟩, ?_⟩
      · rw [State.onChan_chan_self, hs2, hzero, hnone, hreplaced]
        simp [State.retrainWindows, State.retrainRebuilt, hnopins, hf]
      · rw [State.onChan_chan_of_ne _ _ hd, hs2, hzeroOther _ d hd]
      · rw [hs2]
        simp [State.retrainRebuilt, hf]
      · rw [hs2]; rfl
      · simp only [s3, if_pos hnopins, hfreed, hf, State.retrainReturned, List.drop_succ_cons, List.drop_zero]
    | nil =>
      have hfree : s2.freeBlocks = s.freeBlocks := by
        rw [hs2]
        exact State.PoolSound.zeroedFor_freeBlocks s c
      cases hb : s.freeBlocks with
      | cons b rest =>
        refine ⟨(s2.handover b c).onChan c fun ch => ch.replaceFound p b, ⟨?_, fun d hd => ?_, fun j => ?_, ?_⟩, ?_⟩
        · rw [State.onChan_chan_self, State.handover_chan, hs2, hzero, hnone, hreplaced]
          simp [State.retrainWindows, State.retrainRebuilt, hnopins, hf, hb]
        · rw [State.onChan_chan_of_ne _ _ hd, State.handover_chan, hs2, hzeroOther _ d hd]
        · rw [State.onChan_block, State.handover_block, hs2]
          simp [State.retrainRebuilt, hnopins, hf, hb, eq_comm]
        · rw [hs2]; rfl
        · simp only [s3, if_pos hnopins, hfreed, hf, State.retrainReturned, hfree, hb, List.drop_nil]
          rfl
      | nil =>
        refine ⟨s2, ⟨?_, fun d hd => ?_, fun j => ?_, ?_⟩, ?_⟩
        · rw [hs2, hzero, hnone]
          simp [State.retrainWindows, State.retrainRebuilt, hnopins, hf, hb]
        · rw [hs2, hzeroOther _ d hd]
        · rw [hs2]
          simp [State.retrainRebuilt, hnopins, hf, hb]
        · rw [hs2]; rfl
        · simp only [s3, if_pos hnopins, hfreed, hf, State.retrainReturned, hfree, hb, List.drop_nil]
          rfl
  · refine ⟨s2, ⟨?_, fun d hd => ?_, fun j => ?_, ?_⟩, ?_⟩
    · rw [hs2, hzero, filter_ne_found]
      simp [State.retrainWindows, hnopins]
    · rw [hs2, hzeroOther _ d hd]
    · rw [hs2]
      simp [State.retrainRebuilt, hnopins]
    · rw [hs2]; rfl
    · simp only [s3, if_neg hnopins, hfreed, State.retrainReturned]

/-- A list of FOUND windows has no pin to fill. -/
theorem fillPins_of_found (d : Chan) (handed : List (WaitEntry × BlockNo)) {ws : List Window}
    (h : ∀ w ∈ ws, w.kind = .found) : fillPins d handed ws = ws := by
  rw [fillPins_eq_map]
  exact (List.map_congr_left fun w hw => Window.filled_found (h w hw)).trans (List.map_id ws)

/-- Without pins the windows of a RETRAIN are FOUND, at the initial position. -/
theorem State.retrainWindows_bare {s : State} {c : Chan} {p : Profile} (h : p.pins = []) :
    ∀ w ∈ s.retrainWindows c p, w.pos = p.initialPos ∧ w.kind = .found := by
  intro w hw
  rw [State.retrainWindows, if_pos h, Option.mem_toList, Option.map_eq_some_iff] at hw
  obtain ⟨b, -, rfl⟩ := hw
  exact ⟨rfl, rfl⟩

theorem State.retrainWindows_pinned {s : State} {c : Chan} {p : Profile} (h : p.pins ≠ []) :
    s.retrainWindows c p = (s.chan c).windows.filter fun w => w.kind == .pinned := if_neg h

theorem State.PoolSound.length_retrainWindows {s : State} (h : s.PoolSound) (c : Chan) (p : Profile) :
    (s.retrainWindows c p).length ≤ 7 := by
  unfold State.retrainWindows
  split
  · cases (s.foundBlocks c).head?.or (s.retrainRebuilt c p) <;> simp
  · exact (List.length_filter_le _ _).trans (h.length_windows c)

theorem State.retrainReturned_nodup (s : State) (c : Chan) (p : Profile) : (s.retrainReturned c p).Nodup := by
  unfold State.retrainReturned
  split
  · exact (s.foundBlocks_nodup c).sublist (List.drop_sublist 1 _)
  · exact s.foundBlocks_nodup c

theorem State.retrainReturned_found {s : State} {c : Chan} {p : Profile} {b : BlockNo} (h : b ∈ s.retrainReturned c p) :
    b ∈ s.foundBlocks c := by
  unfold State.retrainReturned at h
  split at h
  · exact List.mem_of_mem_drop h
  · exact h

/-- Where a free block stands in, nothing is returned. -/
theorem State.retrainRebuilt_apart {s : State} {c : Chan} {p : Profile} {b k : BlockNo}
    (hk : s.retrainRebuilt c p = some k) (hb : b ∈ s.retrainReturned c p) : False := by
  unfold State.retrainRebuilt at hk
  split at hk
  · next h => simpa [h.2] using State.retrainReturned_found hb
  · cases hk

theorem State.retrainRebuilt_free {s : State} {c : Chan} {p : Profile} {k : BlockNo}
    (hk : s.retrainRebuilt c p = some k) : k ∈ s.freeBlocks := by
  unfold State.retrainRebuilt at hk
  split at hk
  · exact List.mem_of_mem_head? hk
  · cases hk

/-! ## The scout moved -/

theorem Channel.rewindScout_eq (ch : Channel) :
    ch.rewindScout = { ch with scout := ch.rewindScout.scout, lastScout := ch.rewindScout.lastScout } := by
  obtain ⟨⟩ := ch
  unfold Channel.rewindScout
  dsimp only
  split <;> rfl

theorem Channel.rewindScout_none {ch : Channel} (h : ch.scout = none) : ch.rewindScout = ch := by
  simp only [Channel.rewindScout, h]

/-- A scout that is moved stands at the lowest position free of windows (R44, R59). -/
theorem Channel.rewindScout_some {ch : Channel} {k : Scout} (h : ch.scout = some k) (hlen : ch.windows.length < 32) :
    ∃ q : Pos, LowestFree (ch.windows.map Window.pos) q ∧
      ch.rewindScout.scout = some { pos := q, block := k.block, dwell := 0 } ∧ ch.rewindScout.lastScout = q := by
  refine ⟨_, lowestUnoccupied_spec (exists_unoccupied (by simpa using hlen)), ?_, ?_⟩ <;>
    simp only [Channel.rewindScout, h, Channel.windowPositions]

/-! ## The state a RETRAIN leaves -/

/-- The service mode starts over (R95). -/
def Channel.acquire (ch : Channel) : Channel :=
  { ch with service := .acquire, convRun := 0, changeRun := 0, divRun := 0 }

theorem exec_retrain (tag channel : Byte) (s : State) :
    exec (.retrain tag channel) s = .next (serve tag 0x1C#8 (retrainRequest channel) s) := by
  rfl

theorem retrainRequest_range {channel : Byte} (s : State) (h : 31 < channel.toNat) :
    retrainRequest channel s = (s, .refused .range) := by
  simp only [retrainRequest, chanOf_eq_none h]

theorem retrainRequest_inactive {c : Chan} {s : State} (h : (s.chan c).life ≠ .active) :
    retrainRequest (byteOf c.val) s = (s, .refused .state) := by
  simp only [retrainRequest, chanOf_byteOf]
  split
  · next h' _ => exact absurd h' h
  · rfl

theorem retrainRequest_active {c : Chan} {s : State} {p : Profile} (h : (s.chan c).life = .active)
    (hp : (s.chan c).profile = some p) :
    retrainRequest (byteOf c.val) s =
      (if (s.chan c).service = .track then
          ((s.retrainPlacement c p).onChan c Channel.acquire).raiseNotice (.channel c) .mode
        else (s.retrainPlacement c p).onChan c Channel.acquire, .done [byteOf c.val]) := by
  simp only [retrainRequest, chanOf_byteOf, h, hp]
  rfl

/-- Each block returned is handed to the entry that stands for it, or is left over for the free set. -/
theorem mem_zip_or_mem_drop {α β : Type} {as : List α} {bs : List β} {b : β} (h : b ∈ bs) :
    (∃ a : α, (a, b) ∈ as.zip bs) ∨ b ∈ bs.drop as.length := by
  induction as generalizing bs with
  | nil => exact .inr h
  | cons a as ih =>
    cases bs with
    | nil => cases h
    | cons b' bs =>
      rcases List.mem_cons.mp h with rfl | h
      · exact .inl ⟨a, List.mem_cons_self⟩
      · obtain ⟨a', ha⟩ | hdrop := ih h
        · exact .inl ⟨a', List.mem_cons_of_mem _ ha⟩
        · exact .inr hdrop

end Sys2Proof.Machine

namespace Sys2Proof

open Sys2Proof.Machine

/-- Settles O35: the taps at 0, the FOUND windows gone and one of them re-placed make the base from which the blocks left
over are returned, and the scout is moved last. -/
theorem retrainStartsOver : Obligations.RetrainStartsOver := by
  refine fun tag s hroom => ⟨fun c p hsound hlife hp => ?_, fun c hlife => ?_, fun channel h => ?_⟩
  · intro freed
    obtain ⟨base, ⟨hself, hothers, hblock, hframe⟩, hplace⟩ := hsound.retrainPlacement_eq (c := c) hp
    obtain ⟨hnodup, hentries⟩ := hsound.waits
    have hactive : (s.chan c).life ≠ .closed := by simp [hlife]
    obtain ⟨hscoutEntry, -⟩ := (hentries c).2 hactive
    have hwait : base.wait = s.wait := by rw [hframe]
    have hlenBase : ∀ d : Chan, (base.chan d).windows.length < 32 := fun d => by
      by_cases hd : d = c
      · have := hsound.length_retrainWindows c p
        rw [hd, hself]
        show (s.retrainWindows c p).length < 32
        omega
      · have := hsound.length_windows d
        rw [hothers d hd]
        omega
    have hserved : ∀ d : Chan, (base.chan d).ServedBy ((base.returnBlocks (s.retrainReturned c p)).chan d) d
        (s.wait.zip (s.retrainReturned c p)) := fun d => by
      rw [← hwait]
      exact base.returnBlocks_servedBy _ (hwait ▸ hnodup) (hlenBase d)
    obtain ⟨hreturnWait, hreturnGiven, hreturnFree⟩ := base.returnBlocks_returns (s.retrainReturned_nodup c p)
    generalize hu : base.returnBlocks (s.retrainReturned c p) = u at *
    have hblockU : ∀ b : BlockNo, b ∉ s.retrainReturned c p → u.block b = base.block b := fun b hb => by
      rw [← hu, State.returnBlocks_block_of_not_mem _ hb]
    have hframeU : u = { s with channels := u.channels, blocks := u.blocks, wait := u.wait } := by
      rw [← hu, State.returnBlocks_frame, hframe]
    have hbaseReturned : ∀ b ∈ s.retrainReturned c p, base.block b = (s.zeroedFor c).block b := fun b hb => by
      rw [hblock, if_neg fun hk => State.retrainRebuilt_apart hk hb]
    have ht : (s.retrainPlacement c p).onChan c Channel.acquire = u.onChan c fun ch => ch.rewindScout.acquire := by
      rw [hplace, State.onChan_onChan]
    have hself' : (u.onChan c fun ch => ch.rewindScout.acquire).chan c = (u.chan c).rewindScout.acquire :=
      State.onChan_chan_self u c _
    obtain ⟨hu0, hkeep, hplaced⟩ := hserved c
    have hwindows : (u.chan c).rewindScout.acquire.windows =
        fillPins c (s.wait.zip (s.retrainReturned c p)) (s.retrainWindows c p) := by
      rw [Channel.rewindScout_eq, hu0, hself]
      rfl
    have hbare : p.pins = [] → (u.chan c).rewindScout.acquire.windows = s.retrainWindows c p := fun hpins => by
      rw [hwindows, fillPins_of_found _ _ fun w hw => (s.retrainWindows_bare hpins w hw).2]
    have hlenU : (u.chan c).windows.length < 32 := by
      rw [(hserved c).length_windows]
      exact hlenBase c
    have hbaseScout : (base.chan c).scout = (s.chan c).scout ∧ (base.chan c).lastScout = (s.chan c).lastScout := by
      rw [hself]
      exact ⟨rfl, rfl⟩
    rw [hbaseScout.1, hbaseScout.2] at hkeep
    have hrewound : ∀ k : Scout, (u.chan c).scout = some k →
        ∃ q : Pos, LowestFree ((u.chan c).rewindScout.acquire.windows.map Window.pos) q ∧
          (u.chan c).rewindScout.acquire.scout = some { pos := q, block := k.block, dwell := 0 } ∧
          (u.chan c).rewindScout.acquire.lastScout = q := fun k hk => by
      obtain ⟨q, hq, hscout, hlast⟩ := Channel.rewindScout_some hk hlenU
      refine ⟨q, ?_, hscout, hlast⟩
      rw [Channel.rewindScout_eq]
      exact hq
    refine ⟨u.onChan c fun ch => ch.rewindScout.acquire, ?_, ?_, ?_, ?_, ?_, ?_, ?_, fun b hheld => ?_, fun hpins => ?_,
      fun hpins => ⟨?_, fun hfound => ?_⟩, fun k hk => ?_, fun hnobody d hd => ?_, fun b hb hheld => ?_,
      ⟨?_, ?_, ?_⟩, fun b hb hk => ?_, fun k hk => ?_, ?_, fun hnone => ⟨fun b hb => ?_, fun hun => ?_⟩, fun d hd => ?_⟩
    · rw [exec_retrain, serve_of_done tag _ hroom (retrainRequest_active hlife hp), ht]
    · rw [hframeU]; rfl
    · rw [hframeU]; rfl
    · rw [hframeU]; rfl
    · rw [hframeU]; rfl
    · rw [hframeU]; rfl
    · rw [hself', Channel.rewindScout_eq, hu0, hself]; rfl
    · rw [State.onChan_block] at hheld ⊢
      by_cases hb : b ∈ s.retrainReturned c p
      · obtain ⟨e, he⟩ | hdrop := mem_zip_or_mem_drop (as := s.wait) hb
        · rw [hreturnGiven (e, b) (hwait ▸ he)]
        · rw [hreturnFree b (hwait ▸ hdrop)] at hheld
          cases hheld
      · rw [hblockU b hb, hblock, State.zeroedFor_block] at hheld ⊢
        split_ifs at hheld ⊢ with hk hc
        · rfl
        · rfl
        · exact absurd hheld hc
    · obtain ⟨-, -, -, hpinned, -⟩ := hsound.placement c
      rw [hself', hwindows, fillPins_map_pos, State.retrainWindows_pinned hpins]
      refine ⟨(hpinned p hp).1, fun w hw => ?_⟩
      rw [fillPins_eq_map, List.mem_map] at hw
      obtain ⟨v, hv, rfl⟩ := hw
      rw [Window.filled_kind]
      simpa using (List.mem_filter.mp hv).2
    · rw [hself', hbare hpins]
      exact State.retrainWindows_bare hpins
    · obtain ⟨w, hw, hkind⟩ := hfound
      obtain ⟨-, -, hblocked, -⟩ := hsound.placement c
      obtain ⟨k, hk⟩ := Option.isSome_iff_exists.mp (hblocked w hw hkind)
      have hmem : k ∈ s.foundBlocks c := State.mem_foundBlocks.mpr ⟨w, hw, hkind, hk⟩
      obtain ⟨b, rest, hlist⟩ := List.exists_cons_of_ne_nil (List.ne_nil_of_mem hmem)
      refine ⟨b, ?_, State.mem_foundBlocks.mp (hlist ▸ List.mem_cons_self), fun v hv j hvk hvb => ?_⟩
      · rw [hself', hbare hpins, State.retrainWindows, if_pos hpins, hlist]
        rfl
      · exact State.head_foundBlocks_le hlist (State.mem_foundBlocks.mpr ⟨v, hv, hvk, hvb⟩)
    · rw [hself']
      refine hrewound k ((hkeep fun e he hscout => ?_).1.trans hk)
      have := hscoutEntry.mp (hscout ▸ (List.of_mem_zip he).1)
      rw [this] at hk
      cases hk
    · rw [State.onChan_chan_of_ne _ _ hd, ← hothers d hd]
      refine Channel.ServedBy.of_nil (d := d) ?_
      have := hserved d
      rwa [hnobody, List.zip_nil_left] at this
    · rw [List.mem_append, not_or] at hb
      obtain ⟨hfree, hfound⟩ := hb
      rw [State.onChan_block, hblockU b fun hb => hfound (State.retrainReturned_found hb), hblock,
        if_neg fun hk => hfree (State.retrainRebuilt_free hk), State.zeroedFor_block, if_neg hheld]
    · rw [State.onChan_wait, hreturnWait, hwait]
    · exact fun k hk => hreturnGiven k (hwait ▸ hk)
    · intro b hb
      rw [State.onChan_block, hreturnFree b (hwait ▸ hb), hbaseReturned b (List.mem_of_mem_drop hb)]
    · rw [State.onChan_block, hblockU b hb, hblock, if_neg hk]
    · rw [State.onChan_block, hblockU k fun hb => State.retrainRebuilt_apart hk hb, hblock]
      exact if_pos hk
    · rw [hself']
      by_cases hpins : p.pins = []
      · rw [hbare hpins, State.retrainWindows, if_pos hpins, if_pos hpins]
      · rw [hwindows, if_neg hpins, State.retrainWindows_pinned hpins]
    · obtain ⟨q, -, hscout, -⟩ := hplaced b hb
      rw [hself']
      exact hrewound _ hscout
    · obtain ⟨hscout, hlast⟩ := hkeep hun
      rw [hself', Channel.acquire, Channel.rewindScout_none (hscout.trans hnone)]
      exact ⟨hscout.trans hnone, hlast⟩
    · rw [State.onChan_chan_of_ne _ _ hd, ← hothers d hd]
      exact hserved d
  · rw [exec_retrain, serve_of_refused tag _ hroom (retrainRequest_inactive hlife)]; rfl
  · rw [exec_retrain, serve_of_refused tag _ hroom (retrainRequest_range s h)]; rfl

end Sys2Proof
end

section
/-!
PROOFS. The owners of the catalogue's requests (section 10.5): how they touch the link, and what a refusal leaves.
-/

namespace Sys2Proof.Machine

/-! ## The link after notice events -/

/-- The link after notice events: each queued or taken at once, and the record of a notice on the line filled (R170, R171). -/
inductive Link.Noticed (l : Link) : Link → Prop where
  | refl : l.Noticed l
  | raised {m : Link} (passes : Bool) (u : Source) (k : NoticeKind) (fill : Notice → Record) :
      l.Noticed m → l.Noticed (m.raised passes u k fill)
  | filled {m : Link} {n : Notice} {r : Record} (r' : Record) :
      m.tx = .notice n r → l.Noticed m → l.Noticed { m with tx := .notice n r' }

theorem Link.Noticed.trans {l m k : Link} (h : l.Noticed m) (h' : m.Noticed k) : l.Noticed k := by
  induction h' with
  | refl => exact h
  | raised passes u n fill _ ih => exact ih.raised passes u n fill
  | filled r htx _ ih => exact ih.filled r htx

theorem Link.arbitrated_outgoing (l : Link) (fill : Notice → Record) : (l.arbitrated fill).outgoing = l.outgoing := by
  obtain ⟨fr, rep, no, tx, en, rate⟩ := l
  cases tx <;> cases rep <;> cases no <;> rfl

theorem Link.raised_outgoing (l : Link) (passes : Bool) (u : Source) (k : NoticeKind) (fill : Notice → Record) :
    (l.raised passes u k fill).outgoing = l.outgoing := by
  unfold Link.raised
  split
  · rw [Link.arbitrated_outgoing]; rfl
  · rfl

/-- Notice events put no reply in and take none out (R169, R170). -/
theorem Link.Noticed.outgoing {l m : Link} (h : l.Noticed m) : m.outgoing = l.outgoing := by
  induction h with
  | refl => rfl
  | raised passes u k fill _ ih => rw [Link.raised_outgoing, ih]
  | filled r htx _ ih => rw [← ih, Link.outgoing, Link.outgoing, htx]; rfl

theorem State.raiseNotice_noticed (s : State) (u : Source) (k : NoticeKind) : s.link.Noticed (s.raiseNotice u k).link := by
  rw [State.raiseNotice_link]
  exact .raised _ u k _ .refl

/-- An act that leaves the link alone and then raises a notice. -/
theorem State.noticed_of_eq {s t : State} (h : t.link = s.link) (u : Source) (k : NoticeKind) :
    s.link.Noticed (t.raiseNotice u k).link := by
  rw [← h]
  exact t.raiseNotice_noticed u k

theorem State.settleNotice_noticed {l : Link} (s t : State) (h : l.Noticed t.link) : l.Noticed (s.settleNotice t).link := by
  unfold State.settleNotice
  split
  · next htx => exact h.filled _ htx
  · exact h

/-! ## Acts that only raise notices -/

theorem State.retireBlock_noticed (s : State) (c : Chan) (b : BlockNo) : s.link.Noticed (s.retireBlock c b).link := by
  rw [State.retireBlock_eq]
  refine State.noticed_of_eq ?_ _ _
  rw [State.setChan_link, State.setBlock_link]

theorem State.blockFault_noticed (s : State) (c : Chan) (b : BlockNo) : s.link.Noticed (s.blockFault c b).link := by
  rw [(State.RoleLost.blockFault s c b).link]
  exact s.retireBlock_noticed c b

theorem State.testBlocks_noticed (s : State) (c : Chan) (ks : List (Pos × BlockNo)) :
    s.link.Noticed (s.testBlocks c ks).link := by
  induction ks generalizing s with
  | nil => exact .refl
  | cons k ks ih =>
    rw [State.testBlocks]
    split
    · exact (s.blockFault_noticed c k.2).trans (ih _)
    · exact ih s

theorem State.openWith_noticed (s : State) (c : Chan) (p : Profile) : s.link.Noticed (s.openWith c p).link := by
  rw [State.openWith_eq]
  refine State.noticed_of_eq ?_ _ _
  rw [State.opened, State.handoverAll_eq]
  rfl

theorem State.returnWindow_link (s : State) (c : Chan) (w : Window) : (s.returnWindow c w).link = s.link := by
  unfold State.returnWindow
  split
  · rw [State.returnBlock_eq]; rfl
  · rfl

theorem State.reduceQuota_link (s : State) (c : Chan) (quota fuel : Nat) : (s.reduceQuota c quota fuel).link = s.link := by
  induction fuel generalizing s with
  | zero => rfl
  | succ fuel ih =>
    unfold State.reduceQuota
    split
    · split
      · rw [ih, State.returnWindow_link]
      · rfl
    · rfl

theorem State.applyTakesEffect_noticed (s : State) (c : Chan) (p : Profile) :
    s.link.Noticed (s.applyTakesEffect c p).link := by
  unfold State.applyTakesEffect
  dsimp only
  rw [State.chanNotice_eq_raiseNotice]
  refine State.noticed_of_eq ?_ _ _
  rw [State.onChan_link, State.reduceQuota_link, State.onChan_link]

theorem State.abortSignature_noticed (s : State) (c : Chan) : s.link.Noticed (s.abortSignature c).link := by
  unfold State.abortSignature
  split
  · rw [State.portNotice_eq_raiseNotice]
    refine State.noticed_of_eq ?_ _ _
    rw [State.onSig_link]
  · exact .refl

theorem State.closeSteps_noticed (s : State) (c : Chan) : s.link.Noticed (s.closeSteps c).link := by
  have hlink : (s.vacated c).link = s.link := by rw [State.vacated_frame]
  rw [State.closeSteps_eq, ← hlink]
  exact State.abortSignature_noticed (s.vacated c) c

theorem State.returnBlocks_link (s : State) (bs : List BlockNo) : (s.returnBlocks bs).link = s.link := by
  rw [State.returnBlocks_frame]

theorem State.retrainPlacement_link (s : State) (c : Chan) (p : Profile) : (s.retrainPlacement c p).link = s.link := by
  unfold State.retrainPlacement
  dsimp only
  rw [State.onChan_link]
  split_ifs
  · split
    · rw [State.returnBlocks_link, State.onChan_link, State.onChan_link, State.zeroHeldTaps_link]
    · split
      · exact s.zeroHeldTaps_link c
      · rw [State.onChan_link, State.zeroHeldTaps_link]
  · rw [State.returnBlocks_link, State.onChan_link, State.zeroHeldTaps_link]

/-! ## The owners -/

/-- The blocks whose return a RETRAIN starts with are freed, and the service mode starts over; MODE where it was TRACK (R59,
R95). -/
def State.retrained (s : State) (c : Chan) (p : Profile) : State :=
  if (s.chan c).service = .track then
    ((s.retrainPlacement c p).onChan c Channel.acquire).raiseNotice (.channel c) .mode
  else (s.retrainPlacement c p).onChan c Channel.acquire

/-- The configuration of a port in HOLD replaced (R144). -/
def State.configured (s : State) (m : PortMode) (offset : Byte) (e : Edge) : State :=
  s.onPort fun p => { p with mode := m, offset := offset, edge := e }

/-- What an owner makes of a state, with the checks it has passed, and its answer (R163). -/
inductive State.Acts (s : State) : State × Answer → Prop where
  | kept (a : Answer) : s.Acts (s, a)
  | configured (m : PortMode) (offset : Byte) (e : Edge) (fields : List Byte) :
      s.port.runState ≠ .run → ¬(m = .master ∧ s.port.sync = .lost) → s.Acts (s.configured m offset e, .done fields)
  | regained (offset : Byte) (e : Edge) (fields : List Byte) :
      s.port.runState ≠ .run →
        s.Acts (((s.configured .master offset e).onPort fun p => { p with sync := .locked }).raiseNotice .port .sync,
          .done fields)
  | halted (fields : List Byte) :
      s.port.runState = .run → s.Acts ((s.onPort fun p => { p with runState := .hold }).stopFraming, .done fields)
  | started (fields : List Byte) :
      s.port.runState ≠ .run → s.port.clock = .ok →
        s.Acts (s.onPort fun p => { p with runState := .run }.startFraming, .done fields)
  | unclocked (fields : List Byte) :
      s.port.runState ≠ .run → s.port.clock ≠ .ok → s.Acts (s.onPort fun p => { p with runState := .run }, .done fields)
  | mapped (h : Highway) (n : Slot) (c : Chan) (fields : List Byte) :
      (s.chan c).life = .closed → (s.port.mapOf h)[n.val] = none → slotOf (s.port.mapOf h) c = none →
        s.Acts (s.onPort fun p => p.setEntry h n (some c), .done fields)
  | unmapped (h : Highway) (n : Slot) (c : Chan) (fields : List Byte) :
      (s.chan c).life = .closed → (s.port.mapOf h)[n.val] = some c →
        s.Acts (s.onPort fun p => p.setEntry h n none, .done fields)
  | loaded (t : TableName) (q : Fin 4) (values : List Int) (fields : List Byte) :
      (∀ v ∈ values, Linear v) → s.Acts (s.onLaw fun l => { l with buffer := s.law.buffer.store t q values }, .done fields)
  | committed (t : TableName) (entries : List Int) (fields : List Byte) :
      s.law.buffer.complete = some entries →
        s.Acts (s.onLaw fun l => { l.setTable t (LawTable.committed entries) with buffer := .empty }, .done fields)
  | staged (c : Chan) (record : List Byte) (k : CheckedProfile) (fields : List Byte) :
      checkProfile record = some k → (s.chan c).staged.pendingRecord = none →
        s.Acts (s.onChan c fun ch => { ch with staged := .staged k.profile }, .done fields)
  | opened (c : Chan) (p : Profile) (fields : List Byte) :
      (s.chan c).life = .closed → (s.chan c).staged = .staged p → s.Mapped c → firstBlocks p ≤ s.freeBlocks.length →
        s.Acts (s.openWith c p, .done fields)
  | marked (c : Chan) (p active : Profile) (fields : List Byte) :
      (s.chan c).life = .active → (s.chan c).staged = .staged p → (s.chan c).profile = some active →
        p.bulk = active.bulk → p.pins = active.pins →
        s.Acts (s.onChan c fun ch => { ch with staged := .pending p }, .done fields)
  | applied (c : Chan) (p active : Profile) (fields : List Byte) :
      (s.chan c).life = .active → (s.chan c).staged = .staged p → (s.chan c).profile = some active →
        p.bulk = active.bulk → p.pins = active.pins → s.Acts (s.applyTakesEffect c p, .done fields)
  | closed (c : Chan) (fields : List Byte) :
      (s.chan c).life ≠ .closed → s.Acts ((s.closeSteps c).raiseNotice (.channel c) .mode, .done fields)
  | retrained (c : Chan) (p : Profile) (fields : List Byte) :
      (s.chan c).life = .active → (s.chan c).profile = some p → s.Acts (s.retrained c p, .done fields)
  | frozen (c : Chan) (want : Bool) (fields : List Byte) :
      s.Acts ((s.onChan c fun ch => { ch with frozen := want }).raiseNotice (.channel c) .mode, .done fields)
  | tested (c : Chan) (fields : List Byte) : s.Acts (s.testBlocks c (s.chan c).covered, .done fields)
  | conditionsRead (c : Chan) (fields : List Byte) :
      s.Acts (s.onChan c fun ch => { ch with conditions := .clear }, .done fields)
  | portConditionsRead (fields : List Byte) : s.Acts (s.onPort Port.conditionsRead, .done fields)
  | countersRead (c : Chan) (fields : List Byte) :
      s.Acts (s.onChan c fun ch => { ch with counters := .zero }, .done fields)
  | portCountersRead (fields : List Byte) : s.Acts (s.onPort Port.countersRead, .done fields)
  | channelMasked (c : Chan) (m : Byte) (fields : List Byte) :
      s.Acts (s.onChan c fun ch => { ch with mask := m }, .done fields)
  | portMasked (m : Byte) (fields : List Byte) : s.Acts (s.onPort fun p => { p with mask := m }, .done fields)
  | enabled (on : Bool) (fields : List Byte) : s.Acts (s.onLink fun l => { l with enable := on }, .done fields)
  | signed (c : Chan) (st : SigStream) (count : Half) (fields : List Byte) :
      count ≠ 0#16 → (s.chan c).life = .active →
        s.Acts (s.onSig fun _ => { state := .running, channel := c, stream := st, remaining := count.toNat, value := 0 },
          .done fields)

theorem portSetRequest_acts (mode offset edge : Byte) (s : State) : s.Acts (portSetRequest mode offset edge s) := by
  unfold portSetRequest
  split
  · split
    · exact .kept _
    · next hrun =>
      dsimp only
      split
      · next h =>
        obtain ⟨rfl, -⟩ := h
        exact .regained _ _ _ hrun
      · next h => exact .configured _ _ _ _ hrun h
  · exact .kept _

theorem portHoldRequest_acts (s : State) : s.Acts (portHoldRequest s) := by
  unfold portHoldRequest
  split
  · next h => exact .halted _ h
  · exact .kept _

theorem portRunRequest_acts (s : State) : s.Acts (portRunRequest s) := by
  unfold portRunRequest
  split
  · exact .kept _
  · next hrun =>
    split
    · next hclock => exact .started _ hrun hclock
    · next hclock => exact .unclocked _ hrun hclock

theorem mapSetRequest_acts (highway slot channel : Byte) (s : State) : s.Acts (mapSetRequest highway slot channel s) := by
  unfold mapSetRequest
  split
  · split_ifs with hsame hopen htaken hnamed
    · exact .kept _
    · exact .kept _
    · exact .kept _
    · exact .kept _
    · exact .mapped _ _ _ _ (not_not.mp hopen) (not_not.mp htaken) (not_not.mp hnamed)
  · exact .kept _

theorem mapClearRequest_acts (highway slot : Byte) (s : State) : s.Acts (mapClearRequest highway slot s) := by
  unfold mapClearRequest
  split
  · split
    · exact .kept _
    · next hentry =>
      split
      · exact .kept _
      · next hopen => exact .unmapped _ _ _ _ (not_not.mp hopen) hentry
  · exact .kept _

theorem lawLoadRequest_acts (table quarter : Byte) (entries : List Half) (s : State) :
    s.Acts (lawLoadRequest table quarter entries s) := by
  unfold lawLoadRequest
  dsimp only
  split
  · exact .kept _
  · split
    · split
      · next hall => exact .loaded _ _ _ _ fun v hv => by simpa using List.all_eq_true.mp hall v hv
      · exact .kept _
    · exact .kept _

theorem lawCommitRequest_acts (table : Byte) (s : State) : s.Acts (lawCommitRequest table s) := by
  unfold lawCommitRequest
  split
  · exact .kept _
  · split
    · exact .kept _
    · split
      · exact .kept _
      · next hcomplete =>
        split
        · exact .committed _ _ _ hcomplete
        · exact .kept _

theorem profileRequest_acts (channel : Byte) (record : List Byte) (s : State) :
    s.Acts (profileRequest channel record s) := by
  unfold profileRequest
  split
  · exact .kept _
  · split
    · exact .kept _
    · next c _ =>
      split
      · exact .kept _
      · next hcheck =>
        split
        · exact .kept _
        · next hstaged =>
          refine .staged _ record _ _ hcheck ?_
          cases h : (s.chan c).staged with
          | pending q => exact absurd h (hstaged q)
          | empty => rfl
          | staged q => rfl

theorem openRequest_acts (channel : Byte) (s : State) : s.Acts (openRequest channel s) := by
  unfold openRequest
  split
  · exact .kept _
  · split
    · exact .kept _
    · next hopen =>
      split
      · next hstaged =>
        split
        · exact .kept _
        · next hslots =>
          split
          · exact .kept _
          · split
            · exact .kept _
            · next hfree =>
              rw [not_or, ← ne_eq, ← ne_eq, slotOf_ne_none_iff, slotOf_ne_none_iff] at hslots
              exact .opened _ _ _ (not_not.mp hopen) hstaged hslots (Nat.not_lt.mp hfree)
      · exact .kept _

theorem applyRequest_acts (channel force : Byte) (s : State) : s.Acts (applyRequest channel force s) := by
  unfold applyRequest
  split
  · split
    · exact .kept _
    · next hactive =>
      split
      · next hstaged hprofile =>
        split
        · exact .kept _
        · next hsame =>
          rw [not_or, not_not, not_not] at hsame
          obtain ⟨hbulk, hpins⟩ := hsame
          split
          · exact .kept _
          · split
            · exact .applied _ _ _ _ (not_not.mp hactive) hstaged hprofile hbulk hpins
            · exact .marked _ _ _ _ (not_not.mp hactive) hstaged hprofile hbulk hpins
      · exact .kept _
  · exact .kept _

theorem closeRequest_acts (channel : Byte) (s : State) : s.Acts (closeRequest channel s) := by
  unfold closeRequest
  split
  · exact .kept _
  · split
    · exact .kept _
    · next h => exact .closed _ _ h

theorem retrainRequest_acts (channel : Byte) (s : State) : s.Acts (retrainRequest channel s) := by
  unfold retrainRequest
  split
  · exact .kept _
  · split
    · next hlife hprofile => exact .retrained _ _ _ hlife hprofile
    · exact .kept _

theorem frozenRequest_acts (channel : Byte) (want : Bool) (s : State) : s.Acts (frozenRequest channel want s) := by
  unfold frozenRequest
  split
  · exact .kept _
  · split
    · exact .kept _
    · split
      · exact .kept _
      · exact .frozen _ _ _

theorem readStatusRequest_acts (channel : Byte) (s : State) : s.Acts (readStatusRequest channel s) := by
  unfold readStatusRequest
  split
  · exact .kept _
  · exact .tested _ _

theorem readConditionsRequest_acts (source : Byte) (s : State) : s.Acts (readConditionsRequest source s) := by
  unfold readConditionsRequest
  split
  · exact .kept _
  · exact .conditionsRead _ _
  · exact .portConditionsRead _

theorem readCountersRequest_acts (source : Byte) (s : State) : s.Acts (readCountersRequest source s) := by
  unfold readCountersRequest
  split
  · exact .kept _
  · exact .countersRead _ _
  · exact .portCountersRead _

theorem readPoolRequest_acts (start : Byte) (s : State) : s.Acts (readPoolRequest start s) := by
  unfold readPoolRequest
  split <;> exact .kept _

theorem noticeMaskRequest_acts (source mask : Byte) (s : State) : s.Acts (noticeMaskRequest source mask s) := by
  unfold noticeMaskRequest
  split
  · exact .kept _
  · next u _ =>
    split
    · exact .kept _
    · cases u with
      | channel c => exact .channelMasked c mask _
      | port => exact .portMasked mask _

theorem noticeEnableRequest_acts (enable : Byte) (s : State) : s.Acts (noticeEnableRequest enable s) := by
  unfold noticeEnableRequest
  split
  · exact .kept _
  · exact .enabled _ _

theorem sigStartRequest_acts (channel stream : Byte) (count : Half) (s : State) :
    s.Acts (sigStartRequest channel stream count s) := by
  unfold sigStartRequest
  split
  · split_ifs with hcount hrunning hactive
    · exact .kept _
    · exact .kept _
    · exact .kept _
    · exact .signed _ _ _ _ hcount (not_not.mp hactive)
  · exact .kept _

/-- An owner of the catalogue other than that of RESTART and of READ-TAPS, or the refusal of R164: it acts with its checks
passed. -/
def Request.Owned (act : Request) : Prop := ∀ s : State, s.Acts (act s)

/-- A request row: RESTART, a READ-TAPS, or the service of an owner (section 10.5). -/
inductive RequestRow (i : Instr) (tag kind : Byte) : Prop where
  | restart : kind = 0x02#8 → (∀ s, exec i s = .next (restartRequest tag s)) → RequestRow i tag kind
  | readTaps (channel selector : Byte) :
      kind = 0x23#8 → (∀ s, exec i s = .next (serve tag kind (readTapsRequest channel selector) s)) → RequestRow i tag kind
  | owned (act : Request) : act.Owned → (∀ s, exec i s = .next (serve tag kind act s)) → RequestRow i tag kind

/-- A frame is handed to an owner, or refused (R163, R164). -/
theorem requestOf_owned (kind : Byte) (body : List Byte) :
    Request.Owned (requestOf kind body) ∨
      kind = 0x23#8 ∧ requestOf kind body = readTapsRequest (byteAt body 0) (byteAt body 1) := by
  unfold requestOf
  split
  · exact .inl fun s => .kept _
  · split
    · exact .inl fun s => .kept _
    · split
      · exact .inl fun s => .kept _
      · exact .inl (portSetRequest_acts _ _ _)
      · exact .inl portHoldRequest_acts
      · exact .inl portRunRequest_acts
      · exact .inl (mapSetRequest_acts _ _ _)
      · exact .inl (mapClearRequest_acts _ _)
      · exact .inl (lawLoadRequest_acts _ _ _)
      · exact .inl (lawCommitRequest_acts _)
      · exact .inl (profileRequest_acts _ _)
      · exact .inl (openRequest_acts _)
      · exact .inl (applyRequest_acts _ _)
      · exact .inl (closeRequest_acts _)
      · exact .inl (retrainRequest_acts _)
      · exact .inl (frozenRequest_acts _ _)
      · exact .inl (frozenRequest_acts _ _)
      · exact .inl (readStatusRequest_acts _)
      · exact .inl (readConditionsRequest_acts _)
      · exact .inl (readCountersRequest_acts _)
      · next hkind => exact .inr ⟨BitVec.eq_of_toNat_eq hkind, rfl⟩
      · exact .inl (readPoolRequest_acts _)
      · exact .inl fun s => .kept _
      · exact .inl (noticeMaskRequest_acts _ _)
      · exact .inl (noticeEnableRequest_acts _)
      · exact .inl (sigStartRequest_acts _ _ _)
      · exact .inl fun s => .kept _
      · exact .inl fun s => .kept _

/-- The arrival of a frame is a RESTART, a READ-TAPS, or the service of an owner (R163). -/
theorem requestRow_of_arrival {i : Instr} (tag kind : Byte) (body : List Byte)
    (h : ∀ s, exec i s = .next (requestArrival tag kind body s)) : RequestRow i tag kind := by
  by_cases hrestart : kind = 0x02#8 ∧ body = []
  · exact .restart hrestart.1 fun s => by rw [h, requestArrival, if_pos hrestart]
  · have hserve : ∀ s, exec i s = .next (serve tag kind (requestOf kind body) s) := fun s => by
      rw [h, requestArrival, if_neg hrestart]
    obtain howned | ⟨hkind, hread⟩ := requestOf_owned kind body
    · exact .owned _ howned hserve
    · exact .readTaps _ _ hkind fun s => by rw [hserve, hread]

/-- Every request row is one of these (section 10.5). -/
theorem requestRow_of {i : Instr} {tag kind : Byte} (h : i.request? = some (tag, kind)) : RequestRow i tag kind := by
  cases i <;> cases h
  case unknownRequest body => exact requestRow_of_arrival tag kind body fun s => rfl
  case ident => exact .owned _ (fun s => .kept _) fun s => rfl
  case restart => exact .restart rfl fun s => rfl
  case portSet m o e => exact .owned _ (portSetRequest_acts m o e) fun s => rfl
  case portHold => exact .owned _ portHoldRequest_acts fun s => rfl
  case portRun => exact .owned _ portRunRequest_acts fun s => rfl
  case mapSet h n c => exact .owned _ (mapSetRequest_acts h n c) fun s => rfl
  case mapClear h n => exact .owned _ (mapClearRequest_acts h n) fun s => rfl
  case lawLoad t q es => exact .owned _ (lawLoadRequest_acts t q es) fun s => rfl
  case lawCommit t => exact .owned _ (lawCommitRequest_acts t) fun s => rfl
  case profile c r => exact .owned _ (profileRequest_acts c r) fun s => rfl
  case openChannel c => exact .owned _ (openRequest_acts c) fun s => rfl
  case applyProfile c f => exact .owned _ (applyRequest_acts c f) fun s => rfl
  case closeChannel c => exact .owned _ (closeRequest_acts c) fun s => rfl
  case retrain c => exact .owned _ (retrainRequest_acts c) fun s => rfl
  case freeze c => exact .owned _ (frozenRequest_acts c true) fun s => rfl
  case thaw c => exact .owned _ (frozenRequest_acts c false) fun s => rfl
  case readStatus c => exact .owned _ (readStatusRequest_acts c) fun s => rfl
  case readConditions u => exact .owned _ (readConditionsRequest_acts u) fun s => rfl
  case readCounters u => exact .owned _ (readCountersRequest_acts u) fun s => rfl
  case readTaps c t => exact .readTaps c t rfl fun s => rfl
  case readPool a => exact .owned _ (readPoolRequest_acts a) fun s => rfl
  case readPort => exact .owned _ (fun s => .kept _) fun s => rfl
  case noticeMask u m => exact .owned _ (noticeMaskRequest_acts u m) fun s => rfl
  case noticeEnable on => exact .owned _ (noticeEnableRequest_acts on) fun s => rfl
  case sigStart c st n => exact .owned _ (sigStartRequest_acts c st n) fun s => rfl
  case sigRead => exact .owned _ (fun s => .kept _) fun s => rfl

/-- The one row of KIND 02h is RESTART (R164). -/
theorem eq_restart_of_kind {i : Instr} {tag : Byte} (hwf : i.wellFormed = true) (h : i.request? = some (tag, 0x02#8)) :
    i = .restart tag := by
  cases i <;> cases h
  case restart => rfl
  case unknownRequest => simp [Instr.wellFormed, catalogueLength] at hwf

/-- A READ-TAPS tests at most the block it reads (R38). -/
theorem readTapsRequest_tests (channel selector : Byte) (s : State) :
    (readTapsRequest channel selector s).1 = s ∨
      ∃ (c : Chan) (t : TapSelector) (k : TapPlace), (s.chan c).life ≠ .closed ∧ (s.chan c).tapPlace t = some k ∧
        (readTapsRequest channel selector s).1 = s.testBlocks c [(k.pos, k.block)] := by
  unfold readTapsRequest
  split
  · next c t _ _ =>
    split
    · exact .inl rfl
    · next hlife =>
      split
      · exact .inl rfl
      · next k hk => exact .inr ⟨c, t, k, hlife, hk, rfl⟩
  · exact .inl rfl

theorem State.retrained_noticed (s : State) (c : Chan) (p : Profile) : s.link.Noticed (s.retrained c p).link := by
  have hlink := s.retrainPlacement_link c p
  unfold State.retrained
  split
  · refine State.noticed_of_eq ?_ _ _
    rw [State.onChan_link, hlink]
  · rw [State.onChan_link, hlink]
    exact .refl

/-- An owner raises notices, or sets the enable. -/
theorem State.Acts.link {s : State} {r : State × Answer} (h : s.Acts r) :
    s.link.Noticed r.1.link ∨ ∃ on : Bool, r.1.link = { s.link with enable := on } := by
  cases h with
  | enabled on => exact .inr ⟨on, rfl⟩
  | regained => refine .inl (State.noticed_of_eq ?_ _ _); rfl
  | opened c p => exact .inl (s.openWith_noticed c p)
  | applied c p => exact .inl (s.applyTakesEffect_noticed c p)
  | closed c => exact .inl ((s.closeSteps_noticed c).trans (State.raiseNotice_noticed _ _ _))
  | retrained c p => exact .inl (s.retrained_noticed c p)
  | frozen c want => exact .inl (State.raiseNotice_noticed (s.onChan c fun ch => { ch with frozen := want }) _ _)
  | tested c => exact .inl (s.testBlocks_noticed c _)
  | kept => exact .inl .refl
  | configured => exact .inl .refl
  | halted => exact .inl .refl
  | started => exact .inl .refl
  | unclocked => exact .inl .refl
  | mapped => exact .inl .refl
  | unmapped => exact .inl .refl
  | loaded => exact .inl .refl
  | committed => exact .inl .refl
  | staged => exact .inl .refl
  | marked => exact .inl .refl
  | conditionsRead => exact .inl .refl
  | portConditionsRead => exact .inl .refl
  | countersRead => exact .inl .refl
  | portCountersRead => exact .inl .refl
  | channelMasked => exact .inl .refl
  | portMasked => exact .inl .refl
  | signed => exact .inl .refl

/-- No owner touches what is to be sent (R163). -/
theorem State.Acts.outgoing {s : State} {r : State × Answer} (h : s.Acts r) : r.1.link.outgoing = s.link.outgoing := by
  obtain hnoticed | ⟨on, hon⟩ := h.link
  · exact hnoticed.outgoing
  · rw [hon]; rfl

/-- An owner that refuses has changed nothing (R164). -/
theorem State.Acts.eq_of_refused {s t : State} {why : Reason} (h : s.Acts (t, .refused why)) : t = s := by
  cases h
  rfl

theorem readTapsRequest_outgoing (channel selector : Byte) (s : State) :
    (readTapsRequest channel selector s).1.link.outgoing = s.link.outgoing := by
  obtain h | ⟨c, t, k, -, -, h⟩ := readTapsRequest_tests channel selector s
  · rw [h]
  · rw [h, (s.testBlocks_noticed c _).outgoing]

/-- The reply to an answer carries the request's TAG and its KIND first (R159, R164). -/
theorem replyRecord_form (tag kind : Byte) (a : Answer) :
    (replyRecord tag kind a).tag = tag ∧ ((replyRecord tag kind a).kind = 0x80#8 ∨ (replyRecord tag kind a).kind = 0x81#8) ∧
      (replyRecord tag kind a).body.head? = some kind := by
  cases a with
  | done fields => exact ⟨rfl, .inl rfl, rfl⟩
  | refused why => exact ⟨rfl, .inr rfl, rfl⟩

theorem serve_outgoing {s : State} (tag kind : Byte) {act : Request} (hroom : s.HasRoom)
    (h : (act s).1.link.outgoing = s.link.outgoing) :
    (serve tag kind act s).link.outgoing = s.link.outgoing ++ [replyRecord tag kind (act s).2] := by
  rw [serve_of_room s tag kind act hroom]
  exact (Link.withReply_outgoing _ _).trans (by rw [h])

theorem countOverrun_eq (s : State) :
    s.onPort Port.countOverrun = { s with port := { s.port with overruns := min 255 (s.port.overruns + 1) } } := by
  unfold State.onPort Port.countOverrun bump
  rfl

end Sys2Proof.Machine

namespace Sys2Proof

open Sys2Proof.Machine

/-- Settles O6: every row is RESTART, READ-TAPS or the service of an owner, and no owner takes a reply out of the queue. -/
theorem everyRequestIsAnsweredOnce : Obligations.EveryRequestIsAnsweredOnce := by
  intro i tag kind s hwf hrow
  refine ⟨fun hfull => ?_, fun hroom => ?_⟩
  · rw [← countOverrun_eq]
    cases requestRow_of hrow with
    | restart _ hexec =>
      rw [hexec, restartRequest, if_pos (show Config.replyLimit ≤ s.link.replies.length from hfull)]
    | readTaps channel selector _ hexec => rw [hexec, serve_of_full s tag kind _ hfull]
    | owned act _ hexec => rw [hexec, serve_of_full s tag kind _ hfull]
  · by_cases hkind : kind = 0x02#8
    · subst hkind
      obtain rfl := eq_restart_of_kind hwf hrow
      refine ⟨_, doneRecord tag 0x02#8 [], rfl, rfl, .inl rfl, rfl, ?_⟩
      obtain ⟨hlink, -⟩ :=
        (s.restartLink.answered (doneRecord tag 0x02#8 [])).restartBlocks_keeps (State.answered_enable _ _)
      rw [restartRequest_of_room tag s hroom, hlink, if_pos rfl]
      refine (Link.withReply_outgoing _ _).trans ?_
      rw [Link.outgoing, State.restartLink, List.append_nil]
    · rw [if_neg hkind]
      cases requestRow_of hrow with
      | restart h => exact absurd h hkind
      | readTaps channel selector _ hexec =>
        obtain ⟨htag, hform, hhead⟩ := replyRecord_form tag kind (readTapsRequest channel selector s).2
        exact ⟨_, _, hexec s, htag, hform, hhead,
          serve_outgoing tag kind hroom (readTapsRequest_outgoing channel selector s)⟩
      | owned act howned hexec =>
        obtain ⟨htag, hform, hhead⟩ := replyRecord_form tag kind (act s).2
        exact ⟨_, _, hexec s, htag, hform, hhead, serve_outgoing tag kind hroom (howned s).outgoing⟩

/-- Settles O7: a KIND outside the catalogue has no length in it; and the owner of a refused request has changed nothing. -/
theorem refusalsChangeNothing : Obligations.RefusalsChangeNothing := by
  refine ⟨fun tag kind body s hroom => ⟨fun hkind => ?_, fun n hn hlen => ?_⟩, fun i tag kind s t r hwf hrow hrestart htaps hroom hexec hout hr => ?_⟩
  · have hnone : catalogueLength kind = none := by
      simp only [List.mem_cons, List.not_mem_nil, or_false, not_or] at hkind
      unfold catalogueLength
      split <;> simp_all
    have hreq : requestOf kind body = refuse .kind := by rw [requestOf, hnone]
    have hne : ¬(kind = 0x02#8 ∧ body = []) := by
      rintro ⟨rfl, -⟩
      exact absurd hnone (by decide)
    show Host.Outcome.next (requestArrival tag kind body s) = _
    rw [requestArrival, if_neg hne, hreq, serve_of_refused tag kind hroom rfl]
    rfl
  · have hreq : requestOf kind body = refuse .format := by simp only [requestOf, hn, if_pos hlen, ne_eq]
    have hne : ¬(kind = 0x02#8 ∧ body = []) := by
      rintro ⟨rfl, rfl⟩
      rw [show catalogueLength 0x02#8 = some 0 from rfl] at hn
      cases hn
      exact hlen rfl
    show Host.Outcome.next (requestArrival tag kind body s) = _
    rw [requestArrival, if_neg hne, hreq, serve_of_refused tag kind hroom rfl]
    rfl
  · cases requestRow_of hrow with
    | restart h => exact absurd h hrestart
    | readTaps _ _ h => exact absurd h htaps
    | owned act howned hserve =>
      rw [hserve] at hexec
      cases hexec
      rw [serve_outgoing tag kind hroom (howned s).outgoing, List.append_cancel_left_eq, List.cons.injEq] at hout
      obtain ⟨rfl, -⟩ := hout
      cases ha : (act s).2 with
      | done fields =>
        rw [ha] at hr
        exact absurd (show doneKind = refusedKind from hr) (by decide)
      | refused why =>
        refine ⟨reasonCode why, serve_of_refused tag kind hroom ?_⟩
        have hacts := howned s
        rw [← Prod.mk.eta (p := act s), ha] at hacts ⊢
        rw [hacts.eq_of_refused]

end Sys2Proof
end

section
/-!
PROOFS. The laws of the pool through the acts that move blocks: `State.PoolNearly` is `State.PoolSound` with some blocks of one
channel in hand, on their way back, and one of its claims still to be met; and the rules of its parts.
-/

namespace Sys2Proof.Machine

/-! ## One channel -/

/-- The placement of one channel but for its quota (R41 to R44); and it has at most 7 windows. -/
structure Channel.PlacedWell (ch : Channel) : Prop where
  ascending : ch.windows.Pairwise fun v w => v.pos < w.pos
  apart : ∀ k ∈ ch.scout, k.pos ∉ ch.windowPositions
  blocked : ∀ w ∈ ch.windows, w.kind = .found → w.block.isSome = true
  pins : ∀ p ∈ ch.profile, (ch.windows.filter fun w => w.kind == .pinned).map Window.pos = p.pins
  closed : ch.life = .closed → ch.windows = [] ∧ ch.scout = none
  room : ch.windows.length ≤ 7

/-- The roles of an open channel that have no block (R66). -/
def Channel.Wants (ch : Channel) : Claim → Prop
  | .scout => ch.scout = none
  | .pin p => ∃ w ∈ ch.windows, w.pos = p ∧ w.kind = .pinned ∧ w.block = none

/-- The blocks of a channel, in the order in which it covers them. -/
abbrev Channel.coveredBlocks (ch : Channel) : List BlockNo := ch.covered.map Prod.snd

theorem Channel.coveredBlocks_eq (ch : Channel) :
    ch.coveredBlocks = ch.windowBlocks ++ (ch.scout.map Scout.block).toList := ch.covered_blocks

/-- An open channel one of whose roles has been given a block (R57, R58, R68). -/
structure Channel.Given (ch after : Channel) (claim : Claim) (b : BlockNo) : Prop where
  covered : after.coveredBlocks.Perm (b :: ch.coveredBlocks)
  placed : ch.PlacedWell → after.PlacedWell
  wants : ∀ k : Claim, after.Wants k ↔ ch.Wants k ∧ k ≠ claim
  life : after.life = ch.life
  profile : after.profile = ch.profile
  staged : after.staged = ch.staged
  windows : after.windows.length = ch.windows.length

/-- A scout for a channel without one, at a position that no window has. -/
theorem Channel.given_scout {ch : Channel} (hopen : ch.life ≠ .closed) (hnone : ch.scout = none) {k : Scout} (last : Pos)
    (hpos : k.pos ∉ ch.windowPositions) : ch.Given { ch with scout := some k, lastScout := last } .scout k.block where
  covered := by
    rw [Channel.coveredBlocks_eq, Channel.coveredBlocks_eq, hnone]
    show (ch.windowBlocks ++ [k.block]).Perm (k.block :: (ch.windowBlocks ++ []))
    rw [List.append_nil]
    exact List.perm_append_singleton _ _
  placed := fun h => ⟨h.ascending, fun j hj => by cases hj; exact hpos, h.blocked, h.pins, fun hlife => absurd hlife hopen,
    h.room⟩
  wants := fun claim => by
    cases claim with
    | scout => simp [Channel.Wants]
    | pin p => exact ⟨fun h => ⟨h, nofun⟩, fun h => h.1⟩
  life := rfl
  profile := rfl
  staged := rfl
  windows := rfl

/-- A window list with its vacant pin at a position filled. -/
def fillPinAt (p : Pos) (b : BlockNo) (ws : List Window) : List Window :=
  ws.map fun w => if w.pos = p ∧ w.kind = .pinned ∧ w.block = none then { w with block := some b } else w

theorem Channel.fillPin_eq_fillPinAt (ch : Channel) (p : Pos) (b : BlockNo) :
    ch.fillPin p b = { ch with windows := fillPinAt p b ch.windows } := ch.fillPin_eq p b

theorem fillPinAt_pos (p : Pos) (b : BlockNo) (ws : List Window) : (fillPinAt p b ws).map Window.pos = ws.map Window.pos := by
  rw [fillPinAt, List.map_map]
  refine List.map_congr_left fun w _ => ?_
  rw [Function.comp_apply]
  split <;> rfl

theorem fillPinAt_of_not_mem {p : Pos} (b : BlockNo) {ws : List Window} (h : ∀ w ∈ ws, w.pos ≠ p) : fillPinAt p b ws = ws := by
  rw [fillPinAt]
  refine (List.map_congr_left fun w hw => ?_).trans (List.map_id ws)
  exact if_neg fun hw' => h w hw hw'.1

theorem mem_fillPinAt {p : Pos} {b : BlockNo} {ws : List Window} {v : Window} :
    v ∈ fillPinAt p b ws ↔
      (v ∈ ws ∧ ¬(v.pos = p ∧ v.kind = .pinned ∧ v.block = none)) ∨
        ∃ w ∈ ws, (w.pos = p ∧ w.kind = .pinned ∧ w.block = none) ∧ v = { w with block := some b } := by
  rw [fillPinAt, List.mem_map]
  constructor
  · rintro ⟨w, hw, rfl⟩
    split
    · next h => exact .inr ⟨w, hw, h, rfl⟩
    · next h => exact .inl ⟨hw, h⟩
  · rintro (⟨hv, h⟩ | ⟨w, hw, h, rfl⟩)
    · exact ⟨v, hv, if_neg h⟩
    · exact ⟨w, hw, if_pos h⟩

/-- The filled pin adds its block to those of the windows. -/
theorem windowBlocks_fillPinAt {p : Pos} (b : BlockNo) {ws : List Window} (hasc : ws.Pairwise fun v w => v.pos < w.pos)
    (hvacant : ∃ w ∈ ws, w.pos = p ∧ w.kind = .pinned ∧ w.block = none) :
    ((fillPinAt p b ws).filterMap Window.block).Perm (b :: ws.filterMap Window.block) := by
  induction ws with
  | nil => obtain ⟨w, hw, -⟩ := hvacant; cases hw
  | cons u us ih =>
    obtain ⟨hu, hus⟩ := List.pairwise_cons.mp hasc
    by_cases hpu : u.pos = p ∧ u.kind = .pinned ∧ u.block = none
    · have hrest : fillPinAt p b us = us := fillPinAt_of_not_mem b fun w hw hwp => by
        have := hu w hw
        rw [hpu.1, hwp] at this
        exact lt_irrefl _ this
      have hcons : fillPinAt p b (u :: us) = { u with block := some b } :: us := by
        conv_rhs => rw [← hrest]
        rw [fillPinAt, List.map_cons, if_pos hpu]
        rfl
      rw [hcons]
      simp [hpu.2.2]
    · have hcons : fillPinAt p b (u :: us) = u :: fillPinAt p b us := by
        rw [fillPinAt, List.map_cons, if_neg hpu]
        rfl
      have hin : ∃ w ∈ us, w.pos = p ∧ w.kind = .pinned ∧ w.block = none := by
        obtain ⟨w, hw, h⟩ := hvacant
        rcases List.mem_cons.mp hw with rfl | hw
        · exact absurd h hpu
        · exact ⟨w, hw, h⟩
      rw [hcons]
      cases hb : u.block with
      | none => simpa [hb] using ih hus hin
      | some j =>
        rw [List.filterMap_cons_some hb, List.filterMap_cons_some hb]
        exact ((ih hus hin).cons j).trans (List.Perm.swap _ _ _)

/-- A block for a vacant pin (R58, R68). -/
theorem Channel.given_pin {ch : Channel} (hopen : ch.life ≠ .closed) (hasc : ch.windows.Pairwise fun v w => v.pos < w.pos)
    {p : Pos} (b : BlockNo) (hwants : ch.Wants (.pin p)) : ch.Given (ch.fillPin p b) (.pin p) b where
  covered := by
    rw [Channel.fillPin_eq_fillPinAt, Channel.coveredBlocks_eq, Channel.coveredBlocks_eq]
    exact (windowBlocks_fillPinAt b hasc hwants).append_right _
  placed := fun h => by
    rw [Channel.fillPin_eq_fillPinAt]
    have hpos := fillPinAt_pos p b ch.windows
    refine ⟨?_, ?_, fun w hw hkind => ?_, fun q hq => ?_, fun hlife => absurd hlife hopen, ?_⟩
    · have := h.ascending
      rw [← List.pairwise_map (f := Window.pos) (R := (· < ·))] at this ⊢
      rwa [hpos]
    · intro k hk
      have := h.apart k hk
      rw [Channel.windowPositions] at this ⊢
      rwa [hpos]
    · rcases mem_fillPinAt.mp hw with ⟨hw, -⟩ | ⟨v, -, -, rfl⟩
      · exact h.blocked w hw hkind
      · rfl
    · rw [← h.pins q hq]
      simp only [fillPinAt, List.filter_map, List.map_map]
      have hkind : ((fun w : Window => w.kind == .pinned) ∘ fun w : Window =>
          if w.pos = p ∧ w.kind = .pinned ∧ w.block = none then { w with block := some b } else w) =
          fun w => w.kind == .pinned := by
        funext w
        rw [Function.comp_apply]
        split <;> rfl
      rw [hkind]
      refine List.map_congr_left fun w _ => ?_
      rw [Function.comp_apply]
      split <;> rfl
    · show (fillPinAt p b ch.windows).length ≤ 7
      rw [fillPinAt, List.length_map]
      exact h.room
  wants := fun claim => by
    rw [Channel.fillPin_eq_fillPinAt]
    cases claim with
    | scout => exact ⟨fun h => ⟨h, nofun⟩, fun h => h.1⟩
    | pin q =>
      constructor
      · rintro ⟨w, hw, hwq, hkind, hblock⟩
        rcases mem_fillPinAt.mp hw with ⟨hw, hnot⟩ | ⟨v, -, -, rfl⟩
        · exact ⟨⟨w, hw, hwq, hkind, hblock⟩, fun h => hnot ⟨by rw [hwq]; injection h, hkind, hblock⟩⟩
        · cases hblock
      · rintro ⟨⟨w, hw, hwq, hkind, hblock⟩, hne⟩
        exact ⟨w, mem_fillPinAt.mpr (.inl ⟨hw, fun h => hne (by rw [← hwq, h.1])⟩), hwq, hkind, hblock⟩
  life := by rw [Channel.fillPin_eq_fillPinAt]
  profile := by rw [Channel.fillPin_eq_fillPinAt]
  staged := by rw [Channel.fillPin_eq_fillPinAt]
  windows := by rw [Channel.fillPin_eq_fillPinAt]; exact List.length_map _

theorem Channel.given_placeScoutAfter {ch : Channel} (hopen : ch.life ≠ .closed) (hroom : ch.windows.length ≤ 7)
    (hnone : ch.scout = none) (p : Pos) (b : BlockNo) : ch.Given (ch.placeScoutAfter p b) .scout b := by
  obtain ⟨hpos, -⟩ := ch.nextFree_windowPositions p (by omega)
  exact Channel.given_scout hopen hnone (k := { pos := _, block := b, dwell := 0 }) _ hpos

/-- A wait entry served (R57, R68). -/
theorem WaitEntry.place_given {ch : Channel} (e : WaitEntry) (hopen : ch.life ≠ .closed) (hplaced : ch.PlacedWell)
    (hwants : ch.Wants e.claim) (b : BlockNo) : ch.Given (e.place b ch) e.claim b := by
  cases hclaim : e.claim with
  | pin p =>
    rw [hclaim] at hwants
    rw [WaitEntry.place_pin hclaim]
    exact Channel.given_pin hopen hplaced.ascending b hwants
  | scout =>
    rw [hclaim] at hwants
    rw [WaitEntry.place_scout hclaim]
    exact Channel.given_placeScoutAfter hopen hplaced.room hwants _ b

/-! ## The whole pool -/

/-- The laws of the pool with the blocks `hand` of channel `c` neither returned nor in a role of it, one of its claims `lack`
neither met nor in the wait list, and its quota left open. -/
structure State.PoolNearly (s : State) (c : Chan) (hand : List BlockNo) (lack : Option WaitEntry) : Prop where
  profilesHeld : s.ProfilesHeld
  profilesSound : s.ProfilesSound
  distinct : ∀ d : Chan, (s.chan d).coveredBlocks.Nodup
  holders : ∀ (d : Chan) (b : BlockNo),
    (s.block b).condition = .held d ↔ b ∈ (s.chan d).coveredBlocks ∨ (d = c ∧ b ∈ hand)
  handNodup : hand.Nodup
  handApart : ∀ b ∈ hand, b ∉ (s.chan c).coveredBlocks
  waitMeansEmpty : s.WaitMeansEmpty
  pinsFirst : s.PinsFirst
  placed : ∀ d : Chan, (s.chan d).PlacedWell
  quota : ∀ d : Chan, d ≠ c → ∀ p ∈ (s.chan d).profile, (s.chan d).quotaCount ≤ p.quota
  waitNodup : s.wait.Nodup
  lackApart : ∀ e ∈ lack, e ∉ s.wait ∧ e.chan = c ∧ (s.chan c).life ≠ .closed
  closedQuiet : ∀ e ∈ s.wait, (s.chan e.chan).life ≠ .closed
  claims : ∀ e : WaitEntry, (s.chan e.chan).life ≠ .closed →
    ((e ∈ s.wait ∨ e ∈ lack) ↔ (s.chan e.chan).Wants e.claim)

theorem State.PoolSound.nearly {s : State} (h : s.PoolSound) (c : Chan) : s.PoolNearly c [] none where
  profilesHeld := h.profilesHeld
  profilesSound := h.profilesSound
  distinct := fun d => (h.holders d).1
  holders := fun d b => by simpa using (h.holders d).2 b
  handNodup := .nil
  handApart := nofun
  waitMeansEmpty := h.waitMeansEmpty
  pinsFirst := h.pinsFirst
  placed := fun d => by
    obtain ⟨hasc, hapart, hblocked, hpins, hclosed⟩ := h.placement d
    exact ⟨hasc, hapart, hblocked, fun p hp => (hpins p hp).1, hclosed, h.length_windows d⟩
  quota := fun d _ p hp => by
    obtain ⟨-, -, -, hpins, -⟩ := h.placement d
    exact (hpins p hp).2
  waitNodup := h.waits.1
  lackApart := nofun
  closedQuiet := fun e he hclosed => (h.waits.2 e.chan).1 hclosed e he rfl
  claims := fun e hopen => by
    obtain ⟨hscout, hpin⟩ := (h.waits.2 e.chan).2 hopen
    obtain ⟨d, claim⟩ := e
    cases claim with
    | scout => simpa [Channel.Wants] using hscout
    | pin p => simpa [Channel.Wants] using hpin p

theorem State.PoolNearly.sound {s : State} {c : Chan} (h : s.PoolNearly c [] none)
    (hquota : ∀ p ∈ (s.chan c).profile, (s.chan c).quotaCount ≤ p.quota) : s.PoolSound where
  profilesHeld := h.profilesHeld
  profilesSound := h.profilesSound
  holders := fun d => ⟨h.distinct d, fun b => by simpa using h.holders d b⟩
  waitMeansEmpty := h.waitMeansEmpty
  pinsFirst := h.pinsFirst
  placement := fun d => by
    obtain ⟨hasc, hapart, hblocked, hpins, hclosed, -⟩ := h.placed d
    refine ⟨hasc, hapart, hblocked, fun p hp => ⟨hpins p hp, ?_⟩, hclosed⟩
    by_cases hd : d = c
    · subst hd; exact hquota p hp
    · exact h.quota d hd p hp
  waits := ⟨h.waitNodup, fun d => ⟨fun hclosed e he hed => h.closedQuiet e he (hed ▸ hclosed), fun hopen => by
    refine ⟨?_, fun p => ?_⟩
    · simpa [Channel.Wants] using h.claims (scoutEntry d) hopen
    · simpa [Channel.Wants] using h.claims (pinEntry d p) hopen⟩⟩

/-! ## The order of the wait list -/

theorem filter_split_iff {α : Type} (f : α → Bool) (as : List α) :
    as = (as.filter f ++ as.filter fun a => !f a) ↔ as.Pairwise fun a b => f b = true → f a = true := by
  constructor
  · intro h
    rw [h, List.pairwise_append]
    refine ⟨List.pairwise_of_forall_mem_list fun a ha _ _ _ => (List.mem_filter.mp ha).2,
      List.pairwise_of_forall_mem_list fun a _ b hb hfb => ?_, fun a ha _ _ _ => (List.mem_filter.mp ha).2⟩
    have := (List.mem_filter.mp hb).2
    rw [hfb] at this
    cases this
  · intro h
    induction as with
    | nil => rfl
    | cons a as ih =>
      obtain ⟨ha, has⟩ := List.pairwise_cons.mp h
      cases hfa : f a with
      | true => simpa [hfa] using ih has
      | false =>
        have hnone : as.filter f = [] := List.filter_eq_nil_iff.mpr fun b hb hfb => by
          rw [ha b hb hfb] at hfa
          cases hfa
        have hall : as.filter (fun b => !f b) = as := by
          have := ih has
          rw [hnone, List.nil_append] at this
          exact this.symm
        rw [List.filter_cons_of_neg (by simp [hfa]), hnone, List.nil_append, List.filter_cons_of_pos (by simp [hfa]), hall]

/-- PIN entries stand first: none stands behind a SCOUT entry (R66). -/
theorem State.pinsFirst_iff (s : State) : s.PinsFirst ↔ s.wait.Pairwise fun a b => b.isPin = true → a.isPin = true :=
  filter_split_iff _ _

theorem State.PinsFirst.sublist {s t : State} (h : s.PinsFirst) (hsub : t.wait.Sublist s.wait) : t.PinsFirst :=
  t.pinsFirst_iff.mpr ((s.pinsFirst_iff.mp h).sublist hsub)

/-! ## A block given to a role -/

/-- One block goes to an entry that stands for a role without one: the entry is met, and the block is the channel's (R68). -/
theorem State.PoolNearly.give {s t : State} {c : Chan} {hand hand' : List BlockNo} {lack lack' : Option WaitEntry}
    (h : s.PoolNearly c hand lack) {e : WaitEntry} {b : BlockNo} (hopen : (s.chan e.chan).life ≠ .closed)
    (hgiven : (s.chan e.chan).Given (t.chan e.chan) e.claim b) (hothers : ∀ d : Chan, d ≠ e.chan → t.chan d = s.chan d)
    (hblock : ∀ j : BlockNo, (t.block j).condition = if j = b then .held e.chan else (s.block j).condition)
    (hunheld : ∀ d : Chan, b ∉ (s.chan d).coveredBlocks) (hnodup : hand'.Nodup)
    (hhand : ∀ j : BlockNo, j ∈ hand' ↔ j ∈ hand ∧ j ≠ b)
    (hsub : t.wait.Sublist s.wait) (hlack : ∀ k ∈ lack', k ∈ lack)
    (hwaits : ∀ k : WaitEntry, (k ∈ t.wait ∨ k ∈ lack') ↔ (k ∈ s.wait ∨ k ∈ lack) ∧ k ≠ e) :
    t.PoolNearly c hand' lack' := by
  have hcases : ∀ {P : Channel → Prop} (d : Chan), P (t.chan e.chan) → P (s.chan d) → P (t.chan d) := fun {P} d he hd => by
    by_cases hde : d = e.chan
    · rw [hde]; exact he
    · rw [hothers d hde]; exact hd
  have hlife : ∀ d : Chan, (t.chan d).life = (s.chan d).life := fun d => by
    by_cases hde : d = e.chan
    · rw [hde, hgiven.life]
    · rw [hothers d hde]
  have hprofile : ∀ d : Chan, (t.chan d).profile = (s.chan d).profile := fun d => by
    by_cases hde : d = e.chan
    · rw [hde, hgiven.profile]
    · rw [hothers d hde]
  have hmem : ∀ (d : Chan) (j : BlockNo), j ∈ (t.chan d).coveredBlocks ↔
      j ∈ (s.chan d).coveredBlocks ∨ (d = e.chan ∧ j = b) := fun d j => by
    by_cases hde : d = e.chan
    · subst hde
      rw [hgiven.covered.mem_iff, List.mem_cons]
      tauto
    · rw [hothers d hde]
      simp [hde]
  refine ⟨fun d => ?_, fun d => ?_, fun d => ?_, fun d j => ?_, hnodup, fun j hj => ?_, fun hwait => ?_, ?_, fun d => ?_,
    fun d hd => ?_, ?_, fun k hk => ⟨?_, ?_⟩, fun k hk => ?_, fun k hk => ?_⟩
  · rw [hlife, hprofile]
    exact h.profilesHeld d
  · have hs := h.profilesSound d
    by_cases hde : d = e.chan
    · subst hde
      rw [hgiven.profile, Channel.PendingSound, hgiven.staged, hgiven.life, hgiven.profile]
      exact hs
    · rw [hothers d hde]
      exact hs
  · refine hcases (P := fun ch => ch.coveredBlocks.Nodup) d ?_ (h.distinct d)
    rw [hgiven.covered.nodup_iff, List.nodup_cons]
    exact ⟨hunheld e.chan, h.distinct e.chan⟩
  · rw [hblock, hmem]
    by_cases hjb : j = b
    · subst hjb
      have := hunheld d
      have := hhand j
      simp only [if_true, BlockCondition.held.injEq]
      constructor
      · exact fun hd => .inl (.inr ⟨hd.symm, trivial⟩)
      · rintro ((hd | ⟨hd, -⟩) | ⟨-, hd⟩)
        · exact absurd hd (hunheld d)
        · exact hd.symm
        · exact absurd rfl ((hhand j).mp hd).2
    · rw [if_neg hjb, h.holders d j, hhand]
      simp [hjb]
  · rw [hmem]
    obtain ⟨hin, hne⟩ := (hhand j).mp hj
    rintro (hcov | ⟨-, heq⟩)
    · exact h.handApart j hin hcov
    · exact hne heq
  · have hs : s.wait ≠ [] := fun hnil => hwait (List.sublist_nil.mp (hnil ▸ hsub))
    have hempty := h.waitMeansEmpty hs
    rw [List.eq_nil_iff_forall_not_mem] at hempty ⊢
    intro j hj
    rw [State.mem_freeBlocks, hblock] at hj
    split at hj
    · cases hj
    · exact hempty j ((s.mem_freeBlocks j).mpr hj)
  · exact h.pinsFirst.sublist hsub
  · exact hcases (P := Channel.PlacedWell) d (hgiven.placed (h.placed _)) (h.placed d)
  · by_cases hde : d = e.chan
    · subst hde
      rw [hgiven.profile, Channel.quotaCount, hgiven.windows]
      exact h.quota _ hd
    · rw [hothers d hde]
      exact h.quota d hd
  · exact h.waitNodup.sublist hsub
  · exact fun hin => (h.lackApart k (hlack k hk)).1 (hsub.subset hin)
  · obtain ⟨-, hkc, hc⟩ := h.lackApart k (hlack k hk)
    exact ⟨hkc, by rwa [hlife]⟩
  · rw [hlife]
    exact h.closedQuiet k (hsub.subset hk)
  · rw [hlife] at hk
    rw [hwaits, h.claims k hk]
    by_cases hke : k.chan = e.chan
    · have hiff : k ≠ e ↔ k.claim ≠ e.claim := by
        obtain ⟨d, claim⟩ := k
        obtain ⟨d', claim'⟩ := e
        simp only at hke
        subst hke
        simp
      rw [hke, hgiven.wants, hiff]
    · rw [hothers _ hke]
      exact and_iff_left fun heq => hke (congrArg WaitEntry.chan heq)

/-- A block in hand goes back to the pool: to the head of the wait list, or to the free set (R68). -/
theorem State.PoolNearly.returnBlock {s : State} {c : Chan} {b : BlockNo} {hand : List BlockNo}
    (h : s.PoolNearly c (b :: hand) none) : (s.returnBlock b).PoolNearly c hand none := by
  obtain ⟨hb, hnodup⟩ := List.nodup_cons.mp h.handNodup
  have hheld : (s.block b).condition = .held c := (h.holders c b).mpr (.inr ⟨rfl, List.mem_cons_self⟩)
  have hunheld : ∀ d : Chan, b ∉ (s.chan d).coveredBlocks := fun d hd => by
    have := (h.holders d b).mpr (.inl hd)
    rw [hheld] at this
    cases this
    exact h.handApart b List.mem_cons_self hd
  have hhand : ∀ j : BlockNo, j ∈ hand ↔ j ∈ b :: hand ∧ j ≠ b := fun j => by
    rw [List.mem_cons]
    constructor
    · exact fun hj => ⟨.inr hj, fun hjb => hb (hjb ▸ hj)⟩
    · exact fun hj => hj.1.resolve_left hj.2
  cases hwait : s.wait with
  | cons e rest =>
    have hemem : e ∈ s.wait := by rw [hwait]; exact List.mem_cons_self
    have hopen := h.closedQuiet e hemem
    refine h.give (e := e) (b := b) hopen ?_ (fun d hd => ?_) (fun j => ?_) hunheld hnodup hhand ?_ nofun fun k => ?_
    · rw [State.returnBlock_chan, hwait]
      rw [List.head?_cons]
      simp only [if_true]
      exact e.place_given hopen (h.placed _) ((h.claims e hopen).mp (.inl hemem)) b
    · rw [State.returnBlock_chan, hwait, List.head?_cons]
      exact if_neg hd
    · rw [State.returnBlock_block, hwait, List.head?_cons]
      split <;> rfl
    · rw [State.returnBlock_wait, hwait, List.tail_cons]
      exact List.sublist_cons_self e rest
    · have hnot : e ∉ rest := (List.nodup_cons.mp (hwait ▸ h.waitNodup)).1
      rw [State.returnBlock_wait, hwait, List.tail_cons, List.mem_cons]
      simp only [Option.not_mem_none, or_false]
      constructor
      · exact fun hk => ⟨.inr hk, fun hke => hnot (hke ▸ hk)⟩
      · exact fun hk => hk.1.resolve_left hk.2
  | nil =>
    have hchan : ∀ d, (s.returnBlock b).chan d = s.chan d := fun d => by rw [s.returnBlock_free b hwait, State.setBlock_chan]
    have hblock : ∀ j : BlockNo, (s.returnBlock b).block j = if j = b then { s.block b with condition := .free } else s.block j :=
      fun j => by rw [s.returnBlock_free b hwait, State.setBlock_block]
    have hwait' : (s.returnBlock b).wait = [] := by rw [State.returnBlock_wait, hwait]; rfl
    refine ⟨fun d => by rw [hchan]; exact h.profilesHeld d, fun d => by rw [hchan]; exact h.profilesSound d,
      fun d => by rw [hchan]; exact h.distinct d, fun d j => ?_, hnodup,
      fun j hj => by rw [hchan]; exact h.handApart j (List.mem_cons_of_mem _ hj), fun hne => absurd hwait' hne,
      (State.pinsFirst_iff _).mpr (by rw [hwait']; exact .nil), fun d => by rw [hchan]; exact h.placed d,
      fun d hd => by rw [hchan]; exact h.quota d hd, by rw [hwait']; exact .nil, nofun,
      fun e he => (by rw [hwait'] at he; cases he), fun e he => ?_⟩
    · rw [hblock, hchan, hhand]
      by_cases hjb : j = b
      · subst hjb
        simpa using hunheld d
      · rw [if_neg hjb, h.holders d j]
        simp [hjb]
    · rw [hchan] at he ⊢
      rw [hwait', ← hwait]
      exact h.claims e he

theorem State.PoolNearly.returnBlocks {s : State} {c : Chan} {hand : List BlockNo} (h : s.PoolNearly c hand none) :
    (s.returnBlocks hand).PoolNearly c [] none := by
  induction hand generalizing s with
  | nil => exact h
  | cons b hand ih => exact ih h.returnBlock

/-- The lowest free block meets the claim that is left (R57, R58). -/
theorem State.PoolNearly.meet {s : State} {c : Chan} {claim : Claim} {f : BlockNo} {g : Channel → Channel}
    (h : s.PoolNearly c [] (some { chan := c, claim := claim })) (hfree : s.freeBlocks.head? = some f)
    (hgiven : (s.chan c).Given (g (s.chan c)) claim f) : ((s.handover f c).onChan c g).PoolNearly c [] none := by
  obtain ⟨hapart, -, hopen⟩ := h.lackApart _ rfl
  have hcond : (s.block f).condition = .free := (s.mem_freeBlocks f).mp (List.mem_of_mem_head? hfree)
  refine h.give (e := { chan := c, claim := claim }) (b := f) hopen ?_ (fun d hd => ?_) (fun j => ?_) (fun d hd => ?_) .nil
    (by simp) (List.Sublist.refl _) nofun fun k => ?_
  · rw [State.onChan_chan_self, State.handover_chan]
    exact hgiven
  · rw [State.onChan_chan_of_ne _ _ hd, State.handover_chan]
  · rw [State.onChan_block, State.handover_block]
    split <;> rfl
  · have := (h.holders d f).mpr (.inl hd)
    rw [hcond] at this
    cases this
  · rw [State.onChan_wait]
    show (k ∈ s.wait ∨ k ∈ none) ↔ _
    rw [or_iff_left (Option.not_mem_none k)]
    constructor
    · exact fun hk => ⟨.inl hk, fun hke => hapart (hke ▸ hk)⟩
    · exact fun hk => hk.1.resolve_right fun hke => hk.2 (Option.some.inj hke).symm

/-- With no free block the claim that is left joins the wait list (R67). -/
theorem State.PoolNearly.join {s : State} {c : Chan} {e : WaitEntry} {w : List WaitEntry}
    (h : s.PoolNearly c [] (some e)) (hfree : s.freeBlocks = []) (hperm : w.Perm (e :: s.wait))
    (hpins : (s.withWait w).PinsFirst) : (s.withWait w).PoolNearly c [] none := by
  obtain ⟨hapart, hec, hopen⟩ := h.lackApart _ rfl
  have hmem : ∀ k : WaitEntry, k ∈ w ↔ k ∈ s.wait ∨ k ∈ some e := fun k => by
    rw [hperm.mem_iff, List.mem_cons, Option.mem_def, Option.some.injEq]
    tauto
  exact ⟨h.profilesHeld, h.profilesSound, h.distinct, h.holders, .nil, nofun, fun _ => hfree, hpins, h.placed, h.quota,
    hperm.nodup_iff.mpr (List.nodup_cons.mpr ⟨hapart, h.waitNodup⟩), nofun,
    fun k hk => ((hmem k).mp hk).elim (h.closedQuiet k) fun hke => by
      cases hke
      show (s.chan e.chan).life ≠ .closed
      rwa [hec],
    fun k hk => by
      show (k ∈ w ∨ k ∈ none) ↔ (s.chan k.chan).Wants k.claim
      rw [hmem, or_iff_left (Option.not_mem_none k)]
      exact h.claims k hk⟩

end Sys2Proof.Machine
end

section
/-!
PROOFS. The part of a channel that the placement unit and the pool write, and the acts that write nothing else of a channel.
-/

namespace Sys2Proof.Machine

/-- What placement and the pool write of a channel: its places, and FAULT, STARVED and the count of scout swaps. -/
structure Placing where
  windows : List Window
  scout : Option Scout
  lastScout : Pos
  fault : Bool
  starved : Bool
  scoutSwaps : Nat

/-- A channel's placing. -/
def Channel.placing (ch : Channel) : Placing :=
  { windows := ch.windows, scout := ch.scout, lastScout := ch.lastScout, fault := ch.conditions.fault
    starved := ch.conditions.starved, scoutSwaps := ch.counters.scoutSwaps }

/-- A channel with another placing. -/
def Channel.replant (ch : Channel) (x : Placing) : Channel :=
  { ch with
    windows := x.windows, scout := x.scout, lastScout := x.lastScout
    conditions := { ch.conditions with fault := x.fault, starved := x.starved }
    counters := { ch.counters with scoutSwaps := x.scoutSwaps } }

@[simp] theorem Channel.replant_placing (ch : Channel) : ch.replant ch.placing = ch := rfl

@[simp] theorem Channel.placing_replant (ch : Channel) (x : Placing) : (ch.replant x).placing = x := rfl

@[simp] theorem Channel.replant_replant (ch : Channel) (x y : Placing) : (ch.replant x).replant y = ch.replant y := rfl

/-- An act that writes no more of the channels than their placing, and nothing of the law store, the port and the signature. -/
structure State.PlacesMoved (s t : State) : Prop where
  chan : ∀ d : Chan, t.chan d = (s.chan d).replant (t.chan d).placing
  law : t.law = s.law
  port : t.port = s.port
  sig : t.sig = s.sig
  pending : t.pending = s.pending

theorem State.PlacesMoved.refl (s : State) : s.PlacesMoved s := ⟨fun _ => rfl, rfl, rfl, rfl, rfl⟩

theorem State.PlacesMoved.trans {s t u : State} (h : s.PlacesMoved t) (h' : t.PlacesMoved u) : s.PlacesMoved u :=
  ⟨fun d => by rw [h'.chan d, h.chan d, Channel.replant_replant, Channel.placing_replant],
    h'.law.trans h.law, h'.port.trans h.port, h'.sig.trans h.sig, h'.pending.trans h.pending⟩

/-- Blocks, the wait list and the link may be any. -/
theorem State.PlacesMoved.of_chan {s t : State} (hchan : ∀ d : Chan, t.chan d = s.chan d)
    (hframe : t.law = s.law ∧ t.port = s.port ∧ t.sig = s.sig ∧ t.pending = s.pending) : s.PlacesMoved t := by
  obtain ⟨hlaw, hport, hsig, hpending⟩ := hframe
  exact ⟨fun d => by rw [hchan d, Channel.replant_placing], hlaw, hport, hsig, hpending⟩

theorem State.PlacesMoved.onChan (s : State) (c : Chan) {g : Channel → Channel}
    (hg : ∀ ch : Channel, g ch = ch.replant (g ch).placing) : s.PlacesMoved (s.onChan c g) := by
  refine ⟨fun d => ?_, rfl, rfl, rfl, rfl⟩
  by_cases hd : d = c
  · rw [hd, State.onChan_chan_self]
    exact hg _
  · rw [State.onChan_chan_of_ne _ _ hd, Channel.replant_placing]

theorem State.PlacesMoved.setBlock (s : State) (b : BlockNo) (k : Block) : s.PlacesMoved (s.setBlock b k) :=
  .of_chan (fun _ => rfl) ⟨rfl, rfl, rfl, rfl⟩

theorem State.PlacesMoved.withWait (s : State) (w : List WaitEntry) : s.PlacesMoved (s.withWait w) :=
  .of_chan (fun _ => rfl) ⟨rfl, rfl, rfl, rfl⟩

theorem State.PlacesMoved.raiseNotice (s : State) (u : Source) (k : NoticeKind) : s.PlacesMoved (s.raiseNotice u k) :=
  .of_chan (fun d => by rw [State.raiseNotice_chan]) (by rw [State.raiseNotice_eq]; exact ⟨rfl, rfl, rfl, rfl⟩)

theorem Channel.fillPin_replant (ch : Channel) (p : Pos) (b : BlockNo) : ch.fillPin p b = ch.replant (ch.fillPin p b).placing := by
  rw [Channel.fillPin_eq]; rfl

theorem Channel.vacate_replant (ch : Channel) (p : Pos) : ch.vacate p = ch.replant (ch.vacate p).placing := by
  rw [Channel.vacate_eq]; rfl

theorem Channel.placeScoutAfter_replant (ch : Channel) (p : Pos) (b : BlockNo) :
    ch.placeScoutAfter p b = ch.replant (ch.placeScoutAfter p b).placing := rfl

theorem WaitEntry.place_replant (e : WaitEntry) (b : BlockNo) (ch : Channel) : e.place b ch = ch.replant (e.place b ch).placing := by
  cases hclaim : e.claim with
  | pin p => rw [WaitEntry.place_pin hclaim]; exact ch.fillPin_replant p b
  | scout => rw [WaitEntry.place_scout hclaim]; exact ch.placeScoutAfter_replant _ b

/-! ## What becomes of the dwell, the swaps and the taps -/

/-- A placing follows another: its scout has the dwell of the old one or starts at 0 with no evaluation due, and the count of
swaps stays a byte. -/
structure Placing.Tends (x y : Placing) : Prop where
  scout : ∀ k ∈ y.scout, (k.dwell = 0 ∧ k.due = none) ∨ ∃ j ∈ x.scout, k.dwell = j.dwell ∧ k.due = j.due
  swaps : x.scoutSwaps ≤ 255 → y.scoutSwaps ≤ 255

theorem Placing.Tends.kept {x y : Placing} (hscout : y.scout = x.scout) (hswaps : y.scoutSwaps = x.scoutSwaps) : x.Tends y :=
  ⟨fun k hk => .inr ⟨k, hscout ▸ hk, rfl, rfl⟩, fun h => hswaps.trans_le h⟩

theorem Placing.Tends.gone {x y : Placing} (hscout : y.scout = none) (hswaps : y.scoutSwaps = x.scoutSwaps) : x.Tends y :=
  ⟨fun k hk => by
    rw [hscout] at hk
    exact absurd hk (Option.not_mem_none k), fun h => hswaps.trans_le h⟩

theorem Placing.Tends.fresh {x y : Placing} {p : Pos} {b : BlockNo} (hscout : y.scout = some { pos := p, block := b, dwell := 0 })
    (hswaps : x.scoutSwaps ≤ 255 → y.scoutSwaps ≤ 255) : x.Tends y :=
  ⟨fun k hk => by rw [hscout] at hk; cases hk; exact .inl ⟨rfl, rfl⟩, hswaps⟩

theorem Placing.Tends.trans {x y z : Placing} (h : x.Tends y) (h' : y.Tends z) : x.Tends z :=
  ⟨fun k hk => by
    obtain hzero | ⟨j, hj, hd, hdue⟩ := h'.scout k hk
    · exact .inl hzero
    · obtain ⟨hjd, hjdue⟩ | ⟨i, hi, hid, hidue⟩ := h.scout j hj
      · exact .inl ⟨hd.trans hjd, hdue.trans hjdue⟩
      · exact .inr ⟨i, hi, hd.trans hid, hdue.trans hidue⟩, fun hs => h'.swaps (h.swaps hs)⟩

/-- An act of placement and the pool that advances no dwell count and updates no tap. -/
structure State.PlacesTidied (s t : State) : Prop extends s.PlacesMoved t where
  tends : ∀ d : Chan, (s.chan d).placing.Tends (t.chan d).placing
  taps : ∀ b : BlockNo, (t.block b).taps = (s.block b).taps ∨ (t.block b).taps = List.replicate 32 0

theorem State.PlacesTidied.refl (s : State) : s.PlacesTidied s := ⟨.refl s, fun _ => .kept rfl rfl, fun _ => .inl rfl⟩

theorem State.PlacesTidied.trans {s t u : State} (h : s.PlacesTidied t) (h' : t.PlacesTidied u) : s.PlacesTidied u :=
  ⟨h.toPlacesMoved.trans h'.toPlacesMoved, fun d => (h.tends d).trans (h'.tends d), fun b => by
    obtain hb | hb := h'.taps b
    · rw [hb]; exact h.taps b
    · exact .inr hb⟩

theorem State.PlacesTidied.onChan (s : State) (c : Chan) {g : Channel → Channel}
    (hg : ∀ ch : Channel, g ch = ch.replant (g ch).placing) (ht : ∀ ch : Channel, ch.placing.Tends (g ch).placing) :
    s.PlacesTidied (s.onChan c g) := by
  refine ⟨.onChan s c hg, fun d => ?_, fun _ => .inl rfl⟩
  by_cases hd : d = c
  · rw [hd, State.onChan_chan_self]
    exact ht _
  · rw [State.onChan_chan_of_ne _ _ hd]
    exact .kept rfl rfl

theorem State.PlacesTidied.setBlock (s : State) (b : BlockNo) {k : Block}
    (hk : k.taps = (s.block b).taps ∨ k.taps = List.replicate 32 0) : s.PlacesTidied (s.setBlock b k) := by
  refine ⟨.setBlock s b k, fun _ => .kept rfl rfl, fun j => ?_⟩
  rw [State.setBlock_block]
  split
  · next h => rw [h]; exact hk
  · exact .inl rfl

theorem State.PlacesTidied.handover (s : State) (b : BlockNo) (c : Chan) : s.PlacesTidied (s.handover b c) :=
  .setBlock s b (k := { taps := zeroTaps, condition := .held c, altered := false }) (.inr rfl)

theorem State.PlacesTidied.zeroBlock (s : State) (b : BlockNo) : s.PlacesTidied (s.zeroBlock b) :=
  .setBlock s b (k := { s.block b with taps := zeroTaps, altered := false }) (.inr rfl)

theorem State.PlacesTidied.withWait (s : State) (w : List WaitEntry) : s.PlacesTidied (s.withWait w) :=
  ⟨.withWait s w, fun _ => .kept rfl rfl, fun _ => .inl rfl⟩

theorem State.PlacesTidied.raiseNotice (s : State) (u : Source) (k : NoticeKind) : s.PlacesTidied (s.raiseNotice u k) :=
  ⟨.raiseNotice s u k, fun d => by rw [State.raiseNotice_chan]; exact .kept rfl rfl, fun b => by
    rw [State.raiseNotice_block]; exact .inl rfl⟩

theorem WaitEntry.place_tends (e : WaitEntry) (b : BlockNo) (ch : Channel) : ch.placing.Tends (e.place b ch).placing := by
  cases hclaim : e.claim with
  | pin p => rw [WaitEntry.place_pin hclaim, Channel.fillPin_eq]; exact .kept rfl rfl
  | scout => rw [WaitEntry.place_scout hclaim]; exact .fresh rfl id

theorem Channel.faulted_tends (ch : Channel) : ch.placing.Tends ch.faulted.placing := .kept rfl rfl

theorem Channel.latchStarved_tends (ch : Channel) : ch.placing.Tends ch.latchStarved.placing := .kept rfl rfl

theorem Channel.swap_tends (ch : Channel) (ws : List Window) (p : Pos) (b : BlockNo) :
    ch.placing.Tends (({ ch with windows := ws } : Channel).placeScoutAfter p b).countScoutSwap.placing :=
  .fresh (p := nextUnoccupied ({ ch with windows := ws } : Channel).windowPositions p) (b := b) rfl
    fun _ => Nat.min_le_left 255 (ch.counters.scoutSwaps + 1)

theorem State.PlacesTidied.retireBlock (s : State) (c : Chan) (b : BlockNo) : s.PlacesTidied (s.retireBlock c b) := by
  rw [State.retireBlock_eq]
  exact ((PlacesTidied.setBlock s b (k := { s.block b with condition := .retired }) (.inl rfl)).trans (.onChan _ c (g := Channel.faulted) (fun ch => rfl)
    Channel.faulted_tends)).trans (.raiseNotice _ _ _)

theorem State.PlacesTidied.losePin (s : State) (c : Chan) (p : Pos) : s.PlacesTidied (s.losePin c p) := by
  cases h : s.freeBlocks with
  | cons f fs =>
    rw [State.losePin_free c p h]
    refine (PlacesTidied.handover s f c).trans (.onChan _ c (fun ch => ?_) fun ch => ?_)
    · rw [Channel.fillPin_replant, Channel.vacate_replant, Channel.replant_replant, Channel.placing_replant]
    · rw [Channel.fillPin_eq, Channel.vacate_eq]
      exact .kept rfl rfl
  | nil =>
    rw [State.losePin_wait c p h]
    exact (PlacesTidied.onChan s c (fun ch => ch.vacate_replant p) fun ch => by
      rw [Channel.vacate_eq]; exact .kept rfl rfl).trans (.withWait _ _)

theorem State.PlacesTidied.loseScout (s : State) (c : Chan) : s.PlacesTidied (s.loseScout c) := by
  cases h : s.freeBlocks with
  | cons f fs =>
    rw [State.loseScout_free c h]
    exact (PlacesTidied.handover s f c).trans (.onChan _ c (fun ch => rfl) fun ch => .fresh rfl id)
  | nil =>
    rw [State.loseScout_wait c h]
    exact (PlacesTidied.onChan s c (g := fun ch => { ch with scout := none }) (fun ch => rfl) fun ch => .gone rfl rfl).trans
      (.withWait _ _)

theorem State.PlacesTidied.blockFault (s : State) (c : Chan) (b : BlockNo) : s.PlacesTidied (s.blockFault c b) := by
  refine (PlacesTidied.retireBlock s c b).trans ?_
  cases hf : (s.chan c).windows.find? (fun w => w.block == some b) with
  | some w =>
    cases hk : w.kind with
    | pinned => rw [State.blockFault_of_pin hf hk]; exact .losePin _ c _
    | found =>
      rw [State.blockFault_of_found hf hk, State.loseFound_eq]
      exact .onChan _ c (fun ch => rfl) fun ch => .kept rfl rfl
  | none =>
    by_cases hk : ∃ k ∈ (s.chan c).scout, k.block = b
    · obtain ⟨k, hk, hkb⟩ := hk
      rw [State.blockFault_of_scout hf hk hkb]
      exact .loseScout _ c
    · rw [State.blockFault_of_none hf fun k hk' hkb => hk ⟨k, hk', hkb⟩]
      exact .refl _

theorem State.PlacesTidied.testBlocks (s : State) (c : Chan) (ks : List (Pos × BlockNo)) :
    s.PlacesTidied (s.testBlocks c ks) := by
  induction ks generalizing s with
  | nil => exact .refl s
  | cons k ks ih =>
    rw [State.testBlocks]
    split
    · exact (PlacesTidied.blockFault s c k.2).trans (ih _)
    · exact ih s

theorem State.PlacesTidied.returnBlock (s : State) (b : BlockNo) : s.PlacesTidied (s.returnBlock b) := by
  cases h : s.wait with
  | nil => rw [s.returnBlock_free b h]; exact .setBlock s b (k := { s.block b with condition := .free }) (.inl rfl)
  | cons e rest =>
    rw [State.returnBlock_served b h]
    exact ((PlacesTidied.withWait s rest).trans (.handover _ b _)).trans
      (.onChan _ e.chan (e.place_replant b) (e.place_tends b))

theorem State.PlacesTidied.returnBlocks (s : State) (bs : List BlockNo) : s.PlacesTidied (s.returnBlocks bs) := by
  induction bs generalizing s with
  | nil => exact .refl s
  | cons b bs ih => exact (PlacesTidied.returnBlock s b).trans (ih _)

theorem State.PlacesTidied.returnWindow (s : State) (c : Chan) (w : Window) : s.PlacesTidied (s.returnWindow c w) := by
  have hdrop := PlacesTidied.onChan s c (g := fun ch => { ch with windows := ch.windows.filter fun v => v.pos != w.pos })
    (fun ch => rfl) fun ch => .kept rfl rfl
  unfold State.returnWindow
  split
  · exact hdrop.trans (.returnBlock _ _)
  · exact hdrop

theorem State.PlacesTidied.reduceQuota (s : State) (c : Chan) (quota fuel : Nat) :
    s.PlacesTidied (s.reduceQuota c quota fuel) := by
  induction fuel generalizing s with
  | zero => exact .refl s
  | succ fuel ih =>
    unfold State.reduceQuota
    split
    · split
      · exact (PlacesTidied.returnWindow s c _).trans (ih _)
      · exact .refl s
    · exact .refl s

theorem State.PlacesTidied.zeroHeldTaps (s : State) (c : Chan) : s.PlacesTidied (s.zeroHeldTaps c) := by
  refine ⟨?_, fun d => by rw [State.zeroHeldTaps_chan]; exact .kept rfl rfl, fun b => ?_⟩
  · rw [State.zeroHeldTaps_eq]
    exact .of_chan (fun _ => rfl) ⟨rfl, rfl, rfl, rfl⟩
  · rw [State.zeroHeldTaps_block]
    split
    · exact .inr rfl
    · exact .inl rfl

theorem State.PlacesTidied.addScout (s : State) (c : Chan) (k : Scout) : s.PlacesTidied (s.addScout c k) := by
  unfold State.addScout
  dsimp only
  have hgain := PlacesTidied.onChan s c
    (g := fun ch => { ch with windows := insertWindow { pos := k.pos, kind := .found, block := some k.block } ch.windows, scout := none })
    (fun ch => rfl) fun ch => .gone rfl rfl
  split
  · exact (hgain.trans (.handover _ _ _)).trans (.onChan _ c (fun ch => rfl) fun ch => .fresh rfl id)
  · rw [State.chanNotice_eq_raiseNotice]
    exact ((hgain.trans (.withWait _ _)).trans (.onChan _ c (g := Channel.latchStarved) (fun ch => rfl)
      Channel.latchStarved_tends)).trans (.raiseNotice _ _ _)

theorem State.PlacesTidied.discardScout (s : State) (c : Chan) (k : Scout) : s.PlacesTidied (s.discardScout c k) :=
  (PlacesTidied.zeroBlock s k.block).trans (.onChan _ c (fun _ => rfl) fun _ => .fresh rfl id)

theorem State.PlacesTidied.swapScout (s : State) (c : Chan) (k : Scout) (w : Window) (b : BlockNo) :
    s.PlacesTidied (s.swapScout c k w b) :=
  (PlacesTidied.zeroBlock s b).trans (.onChan _ c (fun _ => rfl) fun ch => ch.swap_tends _ _ b)

theorem State.PlacesTidied.evaluate (s : State) (c : Chan) (quota : Nat) (tookPart : List BlockNo) (k : Scout) :
    s.PlacesTidied (s.evaluate c quota tookPart k) := by
  unfold State.evaluate
  dsimp only
  split
  · split
    · split
      · exact .addScout s c k
      · split
        · exact .swapScout s c k _ _
        · exact .discardScout s c k
    · exact .discardScout s c k
  · split_ifs
    · exact .addScout s c k
    · exact .discardScout s c k
    · exact .discardScout s c k

theorem State.PlacesTidied.endDwell (s : State) (c : Chan) (quota : Nat) : s.PlacesTidied (s.endDwell c quota) := by
  unfold State.endDwell
  split
  · split
    · exact .evaluate s c quota _ _
    · exact .refl s
  · exact .refl s

theorem Channel.advanceDwell_replant (ch : Channel) (mode : Service) (tookPart : List BlockNo) :
    ch.advanceDwell mode tookPart = ch.replant (ch.advanceDwell mode tookPart).placing := by
  unfold Channel.advanceDwell
  split
  · split <;> rfl
  · rfl

theorem State.PlacesMoved.updateBlocks (s : State) (ring : List Int) (p : Profile) (e : Int) (power : Nat)
    (cover : List (Pos × BlockNo)) : s.PlacesMoved (cover.foldl (fun t k => t.updateBlock ring p e power k) s) := by
  induction cover generalizing s with
  | nil => exact .refl s
  | cons k ks ih => exact (PlacesMoved.setBlock s k.2 _).trans (ih _)

/-- The adaptation of a permitted sample writes the placement alone (R31, R47, R48). -/
theorem State.PlacesMoved.adapt (s : State) (c : Chan) (a : Arrival) (cover : List (Pos × BlockNo)) (e : Int) (power : Nat) :
    s.PlacesMoved (s.adapt c a cover e power) :=
  ((PlacesMoved.updateBlocks s _ _ e power cover).trans (.onChan _ c fun ch => ch.advanceDwell_replant _ _)).trans
    (PlacesTidied.endDwell _ c _).toPlacesMoved

/-! ## What the placing leaves of a channel -/

theorem State.PlacesMoved.life {s t : State} (h : s.PlacesMoved t) (d : Chan) : (t.chan d).life = (s.chan d).life := by
  rw [h.chan d]; rfl

theorem State.PlacesMoved.profile {s t : State} (h : s.PlacesMoved t) (d : Chan) : (t.chan d).profile = (s.chan d).profile := by
  rw [h.chan d]; rfl

theorem State.PlacesMoved.staged {s t : State} (h : s.PlacesMoved t) (d : Chan) : (t.chan d).staged = (s.chan d).staged := by
  rw [h.chan d]; rfl

end Sys2Proof.Machine
end

section
/-!
PROOFS. The laws of the pool through acts on one channel: what leaves them alone, a role lost to a fault (R58, R71), a window
dropped (R61), and the test of a channel's blocks.
-/

namespace Sys2Proof.Machine

/-- Two contexts with the same windows, and a scout in the same place. -/
structure Channel.SamePlaces (a b : Channel) : Prop where
  life : b.life = .closed ↔ a.life = .closed
  windows : b.windows = a.windows
  scout : b.scout.map (fun k => (k.pos, k.block)) = a.scout.map fun k => (k.pos, k.block)

theorem Channel.SamePlaces.refl (ch : Channel) : ch.SamePlaces ch := ⟨Iff.rfl, rfl, rfl⟩

theorem Channel.SamePlaces.scout_none {a b : Channel} (h : a.SamePlaces b) : b.scout = none ↔ a.scout = none := by
  have := h.scout
  rw [← Option.map_eq_none_iff (f := fun k : Scout => (k.pos, k.block)), this, Option.map_eq_none_iff]

theorem Channel.SamePlaces.covered {a b : Channel} (h : a.SamePlaces b) : b.covered = a.covered := by
  rw [Channel.covered, Channel.covered, h.windows, h.scout]

theorem Channel.SamePlaces.wants {a b : Channel} (h : a.SamePlaces b) (k : Claim) : b.Wants k ↔ a.Wants k := by
  cases k with
  | scout => exact h.scout_none
  | pin p => rw [Channel.Wants, Channel.Wants, h.windows]

theorem Channel.SamePlaces.placedWell {a b : Channel} (h : a.SamePlaces b) (ha : a.PlacedWell)
    (hpins : ∀ p ∈ b.profile, ∃ q ∈ a.profile, p.pins = q.pins) : b.PlacedWell := by
  have hw := h.windows
  refine ⟨by rw [hw]; exact ha.ascending, fun k hk => ?_, by rw [hw]; exact ha.blocked, fun p hp => ?_, fun hlife => ?_,
    by rw [hw]; exact ha.room⟩
  · have hmap := h.scout
    rw [Option.mem_def.mp hk, Option.map_some] at hmap
    obtain ⟨j, hj, heq⟩ := Option.map_eq_some_iff.mp hmap.symm
    have := ha.apart j hj
    rw [Channel.windowPositions, hw]
    rwa [show k.pos = j.pos from (congrArg Prod.fst heq).symm]
  · obtain ⟨q, hq, hpq⟩ := hpins p hp
    rw [hw, hpq]
    exact ha.pins q hq
  · obtain ⟨hwindows, hscout⟩ := ha.closed (h.life.mp hlife)
    exact ⟨hw.trans hwindows, h.scout_none.mpr hscout⟩

/-- Acts that move no block and no place keep the laws of the pool. -/
theorem State.PoolNearly.same {s t : State} {c : Chan} {hand : List BlockNo} {lack : Option WaitEntry}
    (h : s.PoolNearly c hand lack) (hplaces : ∀ d : Chan, (s.chan d).SamePlaces (t.chan d))
    (hcond : ∀ b : BlockNo, (t.block b).condition = (s.block b).condition) (hwait : t.wait = s.wait)
    (hheld : t.ProfilesHeld) (hsound : t.ProfilesSound)
    (hprofile : ∀ d : Chan, ∀ p ∈ (t.chan d).profile, ∃ q ∈ (s.chan d).profile,
      p.pins = q.pins ∧ (d ≠ c → q.quota ≤ p.quota)) : t.PoolNearly c hand lack where
  profilesHeld := hheld
  profilesSound := hsound
  distinct := fun d => by rw [Channel.coveredBlocks, (hplaces d).covered]; exact h.distinct d
  holders := fun d b => by rw [hcond, Channel.coveredBlocks, (hplaces d).covered]; exact h.holders d b
  handNodup := h.handNodup
  handApart := fun b hb => by rw [Channel.coveredBlocks, (hplaces c).covered]; exact h.handApart b hb
  waitMeansEmpty := fun hne => by
    rw [State.freeBlocks_congr (s := s) (t := t) fun b => by rw [hcond]]
    exact h.waitMeansEmpty (hwait ▸ hne)
  pinsFirst := h.pinsFirst.sublist (hwait ▸ List.Sublist.refl _)
  placed := fun d => (hplaces d).placedWell (h.placed d) fun p hp => by
    obtain ⟨q, hq, hpins, -⟩ := hprofile d p hp
    exact ⟨q, hq, hpins⟩
  quota := fun d hd p hp => by
    obtain ⟨q, hq, -, hquota⟩ := hprofile d p hp
    rw [Channel.quotaCount, (hplaces d).windows]
    exact (h.quota d hd q hq).trans (hquota hd)
  waitNodup := by rw [hwait]; exact h.waitNodup
  lackApart := fun e he => by
    obtain ⟨hapart, hec, hopen⟩ := h.lackApart e he
    rw [hwait]
    exact ⟨hapart, hec, fun hclosed => hopen ((hplaces c).life.mp hclosed)⟩
  closedQuiet := fun e he => by
    rw [hwait] at he
    exact fun hclosed => h.closedQuiet e he ((hplaces _).life.mp hclosed)
  claims := fun e he => by
    rw [hwait, (hplaces _).wants]
    exact h.claims e fun hclosed => he ((hplaces _).life.mpr hclosed)

/-- The same for a sound pool, with the profiles kept. -/
theorem State.PoolSound.same {s t : State} (h : s.PoolSound) (hplaces : ∀ d : Chan, (s.chan d).SamePlaces (t.chan d))
    (hcond : ∀ b : BlockNo, (t.block b).condition = (s.block b).condition) (hwait : t.wait = s.wait)
    (hsound : t.ProfilesSound) (hprofile : ∀ d : Chan, (t.chan d).profile = (s.chan d).profile) : t.PoolSound := by
  have hheld : t.ProfilesHeld := fun d => by rw [hprofile, (hplaces d).life]; exact h.profilesHeld d
  refine ((h.nearly 0).same hplaces hcond hwait hheld hsound fun d p hp => ⟨p, hprofile d ▸ hp, rfl, fun _ => le_refl _⟩).sound
    fun p hp => ?_
  rw [Channel.quotaCount, (hplaces 0).windows]
  obtain ⟨-, -, -, hpins, -⟩ := h.placement 0
  exact (hpins p (hprofile 0 ▸ hp)).2

/-- What changes one channel and takes no block from the free set or from another channel. -/
theorem State.PoolNearly.change {s t : State} {c : Chan} {hand hand' : List BlockNo} {lack : Option WaitEntry}
    (h : s.PoolNearly c hand none) (hothers : ∀ d : Chan, d ≠ c → t.chan d = s.chan d) (hwait : t.wait = s.wait)
    (hlife : (t.chan c).life = (s.chan c).life) (hprofile : (t.chan c).profile = (s.chan c).profile)
    (hstaged : (t.chan c).staged = (s.chan c).staged)
    (hcond : ∀ b : BlockNo, (t.block b).condition = (s.block b).condition ∨
      ((s.block b).condition = .held c ∧ (t.block b).condition = .retired))
    (hholders : ∀ b : BlockNo, (t.block b).condition = .held c ↔ b ∈ (t.chan c).coveredBlocks ∨ b ∈ hand')
    (hdistinct : (t.chan c).coveredBlocks.Nodup) (hnodup : hand'.Nodup)
    (hapart : ∀ b ∈ hand', b ∉ (t.chan c).coveredBlocks) (hplaced : (t.chan c).PlacedWell)
    (hlack : ∀ e ∈ lack, e ∉ s.wait ∧ e.chan = c ∧ (s.chan c).life ≠ .closed)
    (hwants : ∀ k : Claim, (t.chan c).Wants k ↔ (s.chan c).Wants k ∨ ({ chan := c, claim := k } : WaitEntry) ∈ lack) :
    t.PoolNearly c hand' lack := by
  have hlives : ∀ d : Chan, (t.chan d).life = (s.chan d).life := fun d => by
    by_cases hd : d = c
    · rw [hd, hlife]
    · rw [hothers d hd]
  have hprofiles : ∀ d : Chan, (t.chan d).profile = (s.chan d).profile := fun d => by
    by_cases hd : d = c
    · rw [hd, hprofile]
    · rw [hothers d hd]
  refine ⟨fun d => by rw [hlives, hprofiles]; exact h.profilesHeld d, fun d => ?_, fun d => ?_, fun d b => ?_, hnodup, hapart,
    fun hne => ?_, h.pinsFirst.sublist (hwait ▸ List.Sublist.refl _), fun d => ?_, fun d hd => ?_,
    by rw [hwait]; exact h.waitNodup, fun e he => ?_, fun e he => ?_, fun e he => ?_⟩
  · have hs := h.profilesSound d
    by_cases hd : d = c
    · subst hd
      rw [hprofile, Channel.PendingSound, hstaged, hlife, hprofile]
      exact hs
    · rw [hothers d hd]
      exact hs
  · by_cases hd : d = c
    · rw [hd]; exact hdistinct
    · rw [hothers d hd]; exact h.distinct d
  · by_cases hd : d = c
    · subst hd
      rw [hholders]
      simp
    · rw [hothers d hd]
      have hs := h.holders d b
      simp only [hd, false_and, or_false] at hs ⊢
      rw [← hs]
      obtain heq | ⟨hs', ht⟩ := hcond b
      · rw [heq]
      · rw [hs', ht]
        constructor
        · nofun
        · intro hc
          exact absurd (BlockCondition.held.inj hc).symm hd
  · have hempty := h.waitMeansEmpty (hwait ▸ hne)
    rw [← hempty]
    refine State.freeBlocks_congr fun b => ?_
    obtain heq | ⟨hs, ht⟩ := hcond b
    · rw [heq]
    · rw [hs, ht]
      exact ⟨nofun, nofun⟩
  · by_cases hd : d = c
    · rw [hd]; exact hplaced
    · rw [hothers d hd]; exact h.placed d
  · rw [hothers d hd]; exact h.quota d hd
  · obtain ⟨hnot, hec, hopen⟩ := hlack e he
    rw [hwait, hlife]
    exact ⟨hnot, hec, hopen⟩
  · rw [hwait] at he
    rw [hlives]
    exact h.closedQuiet e he
  · rw [hlives] at he
    have hs := h.claims e he
    simp only [Option.not_mem_none, or_false] at hs
    rw [hwait, hs]
    by_cases hec : e.chan = c
    · obtain ⟨d, k⟩ := e
      subst hec
      exact (hwants k).symm
    · rw [hothers _ hec]
      refine or_iff_left fun hin => hec (hlack e hin).2.1

/-! ## A role lost -/

/-- A channel one of whose roles has lost its block: a scout or a pin is then wanted, a FOUND window is gone (R58). -/
structure Channel.Lost (ch after : Channel) (lack : Option Claim) (b : BlockNo) : Prop where
  covered : ch.coveredBlocks.Perm (b :: after.coveredBlocks)
  placed : ch.PlacedWell → after.PlacedWell
  wants : ∀ k : Claim, after.Wants k ↔ ch.Wants k ∨ k ∈ lack
  unwanted : ∀ k ∈ lack, ¬ch.Wants k
  life : after.life = ch.life
  profile : after.profile = ch.profile
  staged : after.staged = ch.staged
  windows : after.windows.length ≤ ch.windows.length

theorem Channel.lost_scout {ch : Channel} {k : Scout} (hk : ch.scout = some k) :
    ch.Lost { ch with scout := none } (some .scout) k.block where
  covered := by
    rw [Channel.coveredBlocks_eq, Channel.coveredBlocks_eq, hk]
    show (ch.windowBlocks ++ [k.block]).Perm (k.block :: (ch.windowBlocks ++ []))
    rw [List.append_nil]
    exact List.perm_append_singleton _ _
  placed := fun h => ⟨h.ascending, nofun, h.blocked, h.pins, fun hlife => ⟨(h.closed hlife).1, rfl⟩, h.room⟩
  wants := fun claim => by
    cases claim with
    | scout => simp [Channel.Wants]
    | pin p => exact ⟨.inl, fun h => h.resolve_right nofun⟩
  unwanted := fun claim hclaim => by
    cases hclaim
    rw [Channel.Wants, hk]
    nofun
  life := rfl
  profile := rfl
  staged := rfl
  windows := le_refl _

/-- The windows apart from the one that holds a block, and its block. -/
theorem windowBlocks_filter_ne {ws : List Window} {w : Window} {b : BlockNo} (hw : w ∈ ws) (hb : w.block = some b)
    (hasc : ws.Pairwise fun u v => u.pos < v.pos) :
    (ws.filterMap Window.block).Perm (b :: (ws.filter fun v => v.pos != w.pos).filterMap Window.block) := by
  induction ws with
  | nil => cases hw
  | cons u us ih =>
    obtain ⟨hu, hus⟩ := List.pairwise_cons.mp hasc
    rcases List.mem_cons.mp hw with rfl | hw
    · have hrest : us.filter (fun v => v.pos != w.pos) = us := List.filter_eq_self.mpr fun v hv => by
        simpa using (hu v hv).ne'
      rw [List.filter_cons_of_neg (by simp), hrest, List.filterMap_cons_some hb]
    · have hne : (u.pos != w.pos) = true := by simpa using (hu w hw).ne
      rw [List.filter_cons_of_pos (by simpa using hne)]
      cases hub : u.block with
      | none => simpa [hub] using ih hw hus
      | some j =>
        rw [List.filterMap_cons_some hub, List.filterMap_cons_some hub]
        exact ((ih hw hus).cons j).trans (List.Perm.swap _ _ _)

theorem Channel.lost_found {ch : Channel} (hplaced : ch.PlacedWell) {w : Window} {b : BlockNo} (hw : w ∈ ch.windows)
    (hkind : w.kind = .found) (hb : w.block = some b) :
    ch.Lost { ch with windows := ch.windows.filter fun v => v.pos != w.pos } none b where
  covered := by
    rw [Channel.coveredBlocks_eq, Channel.coveredBlocks_eq]
    exact (windowBlocks_filter_ne hw hb hplaced.ascending).append_right _
  placed := fun h => by
    refine ⟨h.ascending.sublist List.filter_sublist, fun k hk hmem => ?_, fun v hv => h.blocked v (List.mem_filter.mp hv).1,
      fun p hp => ?_, fun hlife => ?_, (List.length_filter_le _ _).trans h.room⟩
    · exact h.apart k hk ((List.filter_sublist.map Window.pos).subset hmem)
    · rw [← h.pins p hp, List.filter_filter]
      congr 1
      refine List.filter_congr fun v hv => ?_
      by_cases hv' : v.pos = w.pos
      · have hvw : v = w := List.inj_on_of_nodup_map (List.pairwise_map.mpr (h.ascending.imp ne_of_lt)) hv hw hv'
        simp [hvw, hkind]
      · simp [hv']
    · obtain ⟨hwindows, hscout⟩ := h.closed hlife
      rw [hwindows] at hw
      cases hw
  wants := fun k => by
    cases k with
    | scout => exact ⟨.inl, fun h => h.resolve_right nofun⟩
    | pin p =>
      simp only [Channel.Wants, List.mem_filter, Option.not_mem_none, or_false]
      refine exists_congr fun v => ⟨fun h => ⟨h.1.1, h.2⟩, fun h => ⟨⟨h.1, ?_⟩, h.2⟩⟩
      have hne : v ≠ w := fun hvw => by rw [hvw, hkind] at h; cases h.2.2.1
      have : v.pos ≠ w.pos := fun hp =>
        hne (List.inj_on_of_nodup_map (List.pairwise_map.mpr (hplaced.ascending.imp ne_of_lt)) h.1 hw hp)
      simpa using this
  unwanted := nofun
  life := rfl
  profile := rfl
  staged := rfl
  windows := List.length_filter_le _ _

theorem windowBlocks_vacate (p : Pos) (ws : List Window) :
    (ws.map fun v => if v.pos = p then { v with block := none } else v).filterMap Window.block =
      (ws.filter fun v => v.pos != p).filterMap Window.block := by
  induction ws with
  | nil => rfl
  | cons u us ih =>
    by_cases hu : u.pos = p
    · rw [List.map_cons, if_pos hu, List.filterMap_cons_none rfl, List.filter_cons_of_neg (by simp [hu]), ih]
    · rw [List.map_cons, if_neg hu, List.filter_cons_of_pos (by simpa using hu), List.filterMap_cons, List.filterMap_cons, ih]

theorem Channel.lost_pin {ch : Channel} (hplaced : ch.PlacedWell) {w : Window} {b : BlockNo} (hw : w ∈ ch.windows)
    (hkind : w.kind = .pinned) (hb : w.block = some b) : ch.Lost (ch.vacate w.pos) (some (.pin w.pos)) b where
  covered := by
    rw [Channel.vacate_eq, Channel.coveredBlocks_eq, Channel.coveredBlocks_eq]
    refine List.Perm.append_right (l₂ := b :: _) _ ?_
    show (ch.windows.filterMap Window.block).Perm (b :: (List.map _ ch.windows).filterMap Window.block)
    rw [windowBlocks_vacate]
    exact windowBlocks_filter_ne hw hb hplaced.ascending
  placed := fun h => by
    have hpos : (ch.windows.map fun v => if v.pos = w.pos then { v with block := none } else v).map Window.pos =
        ch.windows.map Window.pos := by
      rw [List.map_map]
      refine List.map_congr_left fun v _ => ?_
      rw [Function.comp_apply]
      split <;> rfl
    rw [Channel.vacate_eq]
    refine ⟨?_, ?_, fun v hv hvk => ?_, fun q hq => ?_, fun hlife => ?_, ?_⟩
    · have := h.ascending
      rw [← List.pairwise_map (f := Window.pos) (R := (· < ·))] at this ⊢
      rwa [hpos]
    · intro k hk
      have := h.apart k hk
      rw [Channel.windowPositions] at this ⊢
      rwa [hpos]
    · obtain ⟨u, hu, rfl⟩ := List.mem_map.mp hv
      by_cases hup : u.pos = w.pos
      · have huw : u = w := List.inj_on_of_nodup_map (List.pairwise_map.mpr (h.ascending.imp ne_of_lt)) hu hw hup
        rw [if_pos hup, huw, hkind] at hvk
        cases hvk
      · rw [if_neg hup] at hvk ⊢
        exact h.blocked u hu hvk
    · rw [← h.pins q hq]
      simp only [List.filter_map, List.map_map]
      have hkinds : ((fun v : Window => v.kind == .pinned) ∘ fun v : Window =>
          if v.pos = w.pos then { v with block := none } else v) = fun v => v.kind == .pinned := by
        funext v
        rw [Function.comp_apply]
        split <;> rfl
      rw [hkinds]
      refine List.map_congr_left fun v _ => ?_
      rw [Function.comp_apply]
      split <;> rfl
    · obtain ⟨hwindows, -⟩ := h.closed hlife
      rw [hwindows] at hw
      cases hw
    · show (List.map _ ch.windows).length ≤ 7
      rw [List.length_map]
      exact h.room
  wants := fun k => by
    rw [Channel.vacate_eq]
    cases k with
    | scout => exact ⟨.inl, fun h => h.resolve_right nofun⟩
    | pin p =>
      simp only [Channel.Wants, List.mem_map, Option.mem_def, Option.some.injEq, Claim.pin.injEq]
      constructor
      · rintro ⟨_, ⟨u, hu, rfl⟩, hup, huk, hub⟩
        by_cases huw : u.pos = w.pos
        · rw [if_pos huw] at hup
          exact .inr (huw.symm.trans hup)
        · rw [if_neg huw] at hup huk hub
          exact .inl ⟨u, hu, hup, huk, hub⟩
      · rintro (⟨u, hu, hup, huk, hub⟩ | rfl)
        · by_cases huw : u.pos = w.pos
          · exact ⟨_, ⟨u, hu, rfl⟩, by rw [if_pos huw]; exact ⟨hup, huk, rfl⟩⟩
          · exact ⟨_, ⟨u, hu, rfl⟩, by rw [if_neg huw]; exact ⟨hup, huk, hub⟩⟩
        · exact ⟨_, ⟨w, hw, rfl⟩, by rw [if_pos rfl]; exact ⟨rfl, hkind, rfl⟩⟩
  unwanted := fun k hk => by
    cases hk
    rintro ⟨u, hu, hup, -, hub⟩
    have huw : u = w := List.inj_on_of_nodup_map (List.pairwise_map.mpr (hplaced.ascending.imp ne_of_lt)) hu hw hup
    rw [huw, hb] at hub
    cases hub
  life := by rw [Channel.vacate_eq]
  profile := by rw [Channel.vacate_eq]
  staged := by rw [Channel.vacate_eq]
  windows := by rw [Channel.vacate_eq]; exact (List.length_map _).le

/-- A lost role whose block is retired, or in hand for its return. -/
theorem State.PoolNearly.lose {s t : State} {c : Chan} {lack : Option Claim} {b : BlockNo} {hand hand' : List BlockNo}
    (h : s.PoolNearly c hand none)
    (hlost : (s.chan c).Lost (t.chan c) lack b) (hothers : ∀ d : Chan, d ≠ c → t.chan d = s.chan d) (hwait : t.wait = s.wait)
    (hopen : (s.chan c).life ≠ .closed)
    (hblock : ∀ j : BlockNo, j ≠ b → (t.block j).condition = (s.block j).condition)
    (hfate : ((t.block b).condition = .retired ∧ hand' = hand) ∨ ((t.block b).condition = (s.block b).condition ∧ hand' = b :: hand)) :
    t.PoolNearly c hand' (lack.map fun k => { chan := c, claim := k }) := by
  have hb : b ∈ (s.chan c).coveredBlocks := hlost.covered.mem_iff.mpr List.mem_cons_self
  have hheld : (s.block b).condition = .held c := (h.holders c b).mpr (.inl hb)
  have hnodup : (b :: (t.chan c).coveredBlocks).Nodup := hlost.covered.nodup_iff.mp (h.distinct c)
  obtain ⟨hbnot, hdistinct⟩ := List.nodup_cons.mp hnodup
  have hmem : ∀ j : BlockNo, j ∈ (s.chan c).coveredBlocks ↔ j = b ∨ j ∈ (t.chan c).coveredBlocks := fun j => by
    rw [hlost.covered.mem_iff, List.mem_cons]
  have hbhand : b ∉ hand := fun hin => h.handApart b hin hb
  refine h.change hothers hwait hlost.life hlost.profile hlost.staged (fun j => ?_) (fun j => ?_) hdistinct ?_ (fun j hj => ?_)
    (hlost.placed (h.placed c)) (fun e he => ?_) fun k => ?_
  · by_cases hjb : j = b
    · subst hjb
      obtain ⟨hr, -⟩ | ⟨hr, -⟩ := hfate
      · exact .inr ⟨hheld, hr⟩
      · exact .inl hr
    · exact .inl (hblock j hjb)
  · have hs := h.holders c j
    simp only [true_and] at hs
    by_cases hjb : j = b
    · subst hjb
      obtain ⟨hr, rfl⟩ | ⟨hr, rfl⟩ := hfate
      · rw [hr]
        simp [hbnot, hbhand]
      · rw [hr, hheld]
        simp
    · rw [hblock j hjb, hs, hmem]
      obtain ⟨-, rfl⟩ | ⟨-, rfl⟩ := hfate
      · simp [hjb]
      · simp [hjb]
  · obtain ⟨-, rfl⟩ | ⟨-, rfl⟩ := hfate
    · exact h.handNodup
    · exact List.nodup_cons.mpr ⟨hbhand, h.handNodup⟩
  · have hold : ∀ i ∈ hand, i ∉ (t.chan c).coveredBlocks := fun i hi hin => h.handApart i hi ((hmem i).mpr (.inr hin))
    obtain ⟨-, rfl⟩ | ⟨-, rfl⟩ := hfate
    · exact hold j hj
    · rcases List.mem_cons.mp hj with rfl | hj
      · exact hbnot
      · exact hold j hj
  · obtain ⟨k, hk, rfl⟩ := Option.map_eq_some_iff.mp (Option.mem_def.mp he)
    refine ⟨fun hin => hlost.unwanted k hk ((h.claims _ hopen).mp (.inl hin)), rfl, hopen⟩
  · rw [hlost.wants]
    simp

/-! ## A block fault, and the test of the blocks held -/

theorem Channel.faulted_eq_self_places (ch : Channel) : ch.SamePlaces ch.faulted := ⟨Iff.rfl, rfl, rfl⟩

/-- A sound pool, its quotas told of one channel. -/
theorem State.PoolSound.quota {s : State} (h : s.PoolSound) (c : Chan) :
    ∀ p ∈ (s.chan c).profile, (s.chan c).quotaCount ≤ p.quota := fun p hp => by
  obtain ⟨-, -, -, hpins, -⟩ := h.placement c
  exact (hpins p hp).2

theorem Channel.Lost.latched {ch after : Channel} {lack : Option Claim} {b : BlockNo} (h : ch.faulted.Lost after lack b) :
    ch.Lost after lack b :=
  ⟨h.covered, fun hp => h.placed ((ch.faulted_eq_self_places).placedWell hp fun p hp => ⟨p, hp, rfl⟩), h.wants, h.unwanted,
    h.life, h.profile, h.staged, h.windows⟩

/-- A pin whose block is gone takes a free block, or waits for one (R58). -/
theorem State.PoolNearly.losePin {s : State} {c : Chan} {p : Pos}
    (h : (s.onChan c fun ch => ch.vacate p).PoolNearly c [] (some (pinEntry c p))) : (s.losePin c p).PoolNearly c [] none := by
  obtain ⟨-, -, hopen⟩ := h.lackApart _ rfl
  cases hf : s.freeBlocks with
  | cons f fs =>
    rw [State.losePin_free c p hf]
    have hgiven := Channel.given_pin hopen (h.placed c).ascending f ((h.claims (pinEntry c p) hopen).mp (.inr rfl))
    have hmeet := h.meet (f := f) (g := fun ch => ch.fillPin p f) (by rw [State.onChan_freeBlocks, hf]; rfl) hgiven
    rwa [← State.onChan_onChan (s.handover f c) c (fun ch => ch.vacate p) fun ch => ch.fillPin p f]
  | nil =>
    rw [State.losePin_wait c p hf]
    refine h.join (by rw [State.onChan_freeBlocks, hf]) ?_ ((State.pinsFirst_iff _).mpr ?_)
    · rw [State.onChan_wait]
      conv_rhs => rw [s.wait_split]
      exact List.perm_middle
    · have hfirst := (State.pinsFirst_iff _).mp h.pinsFirst
      rw [State.onChan_wait] at hfirst
      show (_ ++ _ :: _).Pairwise _
      have hpins : ∀ e ∈ s.wait.takeWhile WaitEntry.isPin, e.isPin = true := fun e he => List.mem_takeWhile_imp he
      rw [s.wait_split, List.pairwise_append] at hfirst
      obtain ⟨hfront, hback, hcross⟩ := hfirst
      refine List.pairwise_append.mpr ⟨hfront, List.pairwise_cons.mpr ⟨fun e _ _ => rfl, hback⟩, fun a ha b _ _ => hpins a ha⟩

/-- A scout whose block is gone takes a free block, or waits for one (R58). -/
theorem State.PoolNearly.loseScout {s : State} {c : Chan}
    (h : (s.onChan c fun ch => { ch with scout := none }).PoolNearly c [] (some (scoutEntry c))) :
    (s.loseScout c).PoolNearly c [] none := by
  obtain ⟨-, -, hopen⟩ := h.lackApart _ rfl
  have hnone := (h.claims (scoutEntry c) hopen).mp (.inr rfl)
  cases hf : s.freeBlocks with
  | cons f fs =>
    rw [State.loseScout_free c hf]
    have hgiven := Channel.given_placeScoutAfter hopen (h.placed c).room hnone
      ((s.onChan c fun ch => { ch with scout := none }).chan c).lastScout f
    have hmeet := h.meet (f := f) (g := fun ch => ch.placeScout f) (by rw [State.onChan_freeBlocks, hf]; rfl) hgiven
    rwa [← State.onChan_onChan (s.handover f c) c (fun ch => { ch with scout := none }) fun ch => ch.placeScout f]
  | nil =>
    rw [State.loseScout_wait c hf]
    refine h.join (by rw [State.onChan_freeBlocks, hf]) (List.perm_append_singleton _ _) ((State.pinsFirst_iff _).mpr ?_)
    have hfirst := (State.pinsFirst_iff _).mp h.pinsFirst
    rw [State.onChan_wait] at hfirst
    refine List.pairwise_append.mpr ⟨hfirst, List.pairwise_singleton _ _, fun a _ b hb hpin => ?_⟩
    rw [List.mem_singleton.mp hb] at hpin
    cases hpin

/-- A CLOSED channel holds no block (R63). -/
theorem State.PoolSound.open_of_held {s : State} (h : s.PoolSound) {c : Chan} {b : BlockNo}
    (hheld : (s.block b).condition = .held c) : (s.chan c).life ≠ .closed := fun hclosed => by
  obtain ⟨-, -, -, -, hempty⟩ := h.placement c
  obtain ⟨hwindows, hscout⟩ := hempty hclosed
  obtain ⟨w, hw, -⟩ | ⟨k, hk, -⟩ := h.held_iff.mp hheld
  · rw [hwindows] at hw; cases hw
  · rw [hscout] at hk; cases hk

/-- The retirement of a block and the loss of its role, on a channel (steps 1 to 3 of R71). -/
theorem State.PoolSound.retire {s : State} (h : s.PoolSound) {c : Chan} {b : BlockNo}
    (hheld : (s.block b).condition = .held c) {g : Channel → Channel} {lack : Option Claim}
    (hlost : (s.chan c).faulted.Lost (g (s.chan c).faulted) lack b) :
    ((s.retireBlock c b).onChan c g).PoolNearly c [] (lack.map fun k => { chan := c, claim := k }) := by
  have hchan : ((s.retireBlock c b).onChan c g).chan c = g (s.chan c).faulted := by
    rw [State.onChan_chan_self, s.retireBlock_chan_self c b]
  refine (h.nearly c).lose (b := b) (t := (s.retireBlock c b).onChan c g) (by rw [hchan]; exact hlost.latched)
    (fun d hd => ?_) ?_ (h.open_of_held hheld) (fun j hj => ?_) (.inl ⟨?_, rfl⟩)
  · rw [State.onChan_chan_of_ne _ _ hd, s.retireBlock_chan_of_ne b hd]
  · rw [State.onChan_wait, State.retireBlock_wait]
  · rw [State.onChan_block, State.retireBlock_block, if_neg hj]
  · rw [State.onChan_block, State.retireBlock_block, if_pos rfl]

/-- A block fault keeps the laws of the pool (R58, R71). -/
theorem State.PoolSound.blockFault {s : State} (h : s.PoolSound) {c : Chan} {b : BlockNo}
    (hheld : (s.block b).condition = .held c) : (s.blockFault c b).PoolSound := by
  have hnearly : (s.blockFault c b).PoolNearly c [] none := by
    have hplaced : (s.chan c).faulted.PlacedWell :=
      (s.chan c).faulted_eq_self_places.placedWell ((h.nearly c).placed c) fun p hp => ⟨p, hp, rfl⟩
    obtain ⟨w, hw, hwb⟩ | ⟨k, hk, hkb⟩ := h.held_iff.mp hheld
    · have hfind := Channel.find_block hw hwb fun v hv hvb => h.window_unique hv hw hvb hwb
      cases hkind : w.kind with
      | found =>
        rw [State.blockFault_of_found hfind hkind, State.loseFound_eq]
        exact h.retire hheld (g := fun ch => { ch with windows := ch.windows.filter fun v => v.pos != w.pos }) (lack := none)
          (Channel.lost_found hplaced hw hkind hwb)
      | pinned =>
        rw [State.blockFault_of_pin hfind hkind]
        exact (h.retire hheld (g := fun ch => ch.vacate w.pos) (Channel.lost_pin hplaced hw hkind hwb)).losePin
    · have hnone : (s.chan c).windows.find? (fun w => w.block == some b) = none := List.find?_eq_none.mpr fun v hv hvb =>
        h.window_ne_scout hv (by simpa using hvb) hk hkb
      have hlost := Channel.lost_scout (ch := (s.chan c).faulted) hk
      rw [hkb] at hlost
      rw [State.blockFault_of_scout hnone hk hkb]
      exact (h.retire hheld (g := fun ch => { ch with scout := none }) (lack := some .scout) hlost).loseScout
  refine hnearly.sound fun p hp => ?_
  rw [(State.PlacesTidied.blockFault s c b).profile] at hp
  exact (Nat.succ_le_succ (s.blockFault_length_windows c b)).trans (h.quota c p hp)

/-- A block fault leaves the other blocks that the channel holds. -/
theorem State.PoolSound.blockFault_held {s : State} (_ : s.PoolSound) {c : Chan} {b j : BlockNo}
    (hj : (s.block j).condition = .held c) (hne : j ≠ b) (hheld : (s.block b).condition = .held c) :
    (s.blockFault c b).block j = s.block j := by
  have hretired : (s.retireBlock c b).block j = s.block j := by rw [State.retireBlock_block, if_neg hne]
  rw [(State.RoleLost.blockFault s c b).block j, hretired]
  rw [State.retireBlock_freeBlocks hheld]
  exact fun hfree => State.free_ne_held hj hfree rfl

/-- The test of blocks that a channel holds keeps the laws of the pool (R26, R71). -/
theorem State.PoolSound.testBlocks {s : State} (h : s.PoolSound) {c : Chan} {ks : List (Pos × BlockNo)}
    (hnodup : (ks.map Prod.snd).Nodup) (hheld : ∀ k ∈ ks, (s.block k.2).condition = .held c) :
    (s.testBlocks c ks).PoolSound := by
  induction ks generalizing s with
  | nil => exact h
  | cons k ks ih =>
    obtain ⟨hk, hks⟩ := List.nodup_cons.mp hnodup
    have hrest : ∀ j ∈ ks, (s.block j.2).condition = .held c := fun j hj => hheld j (List.mem_cons_of_mem _ hj)
    rw [State.testBlocks]
    split
    · have hkheld := hheld k List.mem_cons_self
      refine ih (h.blockFault hkheld) hks fun j hj => ?_
      rw [h.blockFault_held (hrest j hj) ?_ hkheld]
      · exact hrest j hj
      · exact fun heq => hk (heq ▸ List.mem_map_of_mem hj)
    · exact ih h hks hrest

theorem State.PoolSound.testCovered {s : State} (h : s.PoolSound) (c : Chan) :
    (s.testBlocks c (s.chan c).covered).PoolSound :=
  h.testBlocks (h.holders c).1 fun k hk => ((h.holders c).2 k.2).mpr (List.mem_map_of_mem hk)

end Sys2Proof.Machine
end

section
/-!
PROOFS. The laws of the pool through the evaluation of a scout (R50 to R54), the quota reduction (R61) and an apply (R135).
-/

namespace Sys2Proof.Machine

/-! ## What moves no block -/

/-- Two contexts alike in what the laws of the pool speak of. -/
structure Channel.SameRoles (a b : Channel) : Prop where
  life : b.life = a.life
  profile : b.profile = a.profile
  staged : b.staged = a.staged
  windows : b.windows = a.windows
  scout : b.scout.map (fun k => (k.pos, k.block)) = a.scout.map fun k => (k.pos, k.block)

theorem Channel.SameRoles.refl (ch : Channel) : ch.SameRoles ch := ⟨rfl, rfl, rfl, rfl, rfl⟩

theorem Channel.SameRoles.samePlaces {a b : Channel} (h : a.SameRoles b) : a.SamePlaces b :=
  ⟨by rw [h.life], h.windows, h.scout⟩

/-- Acts that move no block keep the laws of the pool. -/
theorem State.PoolSound.sameRoles {s t : State} (h : s.PoolSound) (hroles : ∀ d : Chan, (s.chan d).SameRoles (t.chan d))
    (hcond : ∀ b : BlockNo, (t.block b).condition = (s.block b).condition) (hwait : t.wait = s.wait) : t.PoolSound :=
  h.same (fun d => (hroles d).samePlaces) hcond hwait
    (fun d => by
      have hs := h.profilesSound d
      have hd := hroles d
      rw [hd.profile, Channel.PendingSound, hd.staged, hd.life, hd.profile]
      exact hs)
    fun d => (hroles d).profile

/-- The change of one channel that moves no block. -/
theorem State.PoolSound.onChan {s : State} (h : s.PoolSound) {c : Chan} {g : Channel → Channel}
    (hg : (s.chan c).SameRoles (g (s.chan c))) : (s.onChan c g).PoolSound :=
  h.sameRoles (fun d => by
    by_cases hd : d = c
    · rw [hd, State.onChan_chan_self]; exact hg
    · rw [State.onChan_chan_of_ne _ _ hd]; exact .refl _) (fun _ => rfl) rfl

theorem State.PoolSound.raiseNotice {s : State} (h : s.PoolSound) (u : Source) (k : NoticeKind) :
    (s.raiseNotice u k).PoolSound :=
  h.sameRoles (fun d => by rw [State.raiseNotice_chan]; exact .refl _) (fun b => by rw [State.raiseNotice_block])
    (by rw [State.raiseNotice_wait])

/-- Tap values and check codes are none of the pool's laws. -/
theorem State.PoolSound.ofBlocks {s t : State} (h : s.PoolSound) (hchan : ∀ d : Chan, t.chan d = s.chan d)
    (hcond : ∀ b : BlockNo, (t.block b).condition = (s.block b).condition) (hwait : t.wait = s.wait) : t.PoolSound :=
  h.sameRoles (fun d => by rw [hchan]; exact .refl _) hcond hwait

/-! ## An evaluation -/

theorem pinned_insertWindow {w : Window} (hkind : w.kind = .found) (ws : List Window) :
    (insertWindow w ws).filter (fun v => v.kind == .pinned) = ws.filter fun v => v.kind == .pinned := by
  induction ws with
  | nil => simp [insertWindow, hkind]
  | cons u us ih =>
    rw [insertWindow]
    split
    · rw [List.filter_cons_of_neg (by simp [hkind])]
    · rw [List.filter_cons, List.filter_cons, ih]

theorem windowBlocks_insertWindow {w : Window} {b : BlockNo} (hb : w.block = some b) (ws : List Window) :
    ((insertWindow w ws).filterMap Window.block).Perm (b :: ws.filterMap Window.block) := by
  induction ws with
  | nil => simp [insertWindow, hb]
  | cons u us ih =>
    rw [insertWindow]
    split
    · rw [List.filterMap_cons_some hb]
    · cases hu : u.block with
      | none => simpa [hu] using ih
      | some j =>
        rw [List.filterMap_cons_some hu, List.filterMap_cons_some hu]
        exact (ih.cons j).trans (List.Perm.swap _ _ _)

/-- The scout's block among the windows (R52, R53). -/
theorem placedWell_promote {ch : Channel} (h : ch.PlacedWell) {k : Scout} (hk : ch.scout = some k)
    (hroom : ch.windows.length ≤ 6) (hopen : ch.life ≠ .closed) : (ch.promote k).PlacedWell where
  ascending := insertWindow_ascending h.ascending fun v hv hpos =>
    h.apart k hk (List.mem_map.mpr ⟨v, hv, hpos⟩)
  apart := nofun
  blocked := fun w hw hkind => by
    rcases mem_insertWindow.mp hw with rfl | hw
    · rfl
    · exact h.blocked w hw hkind
  pins := fun p hp => by rw [Channel.promote, pinned_insertWindow rfl]; exact h.pins p hp
  closed := fun hlife => absurd hlife hopen
  room := by rw [Channel.promote, length_insertWindow]; omega

theorem coveredBlocks_promote {ch : Channel} {k : Scout} (hk : ch.scout = some k) :
    (ch.promote k).coveredBlocks.Perm ch.coveredBlocks := by
  rw [Channel.coveredBlocks_eq, Channel.coveredBlocks_eq, hk]
  show ((insertWindow k.gained ch.windows).filterMap Window.block ++ []).Perm (ch.windowBlocks ++ [k.block])
  rw [List.append_nil]
  exact (windowBlocks_insertWindow rfl _).trans (List.perm_append_singleton _ _).symm

theorem wants_promote (ch : Channel) (k : Scout) (claim : Claim) :
    (ch.promote k).Wants claim ↔ claim = .scout ∨ (claim ≠ .scout ∧ ch.Wants claim) := by
  cases claim with
  | scout => simp [Channel.Wants, Channel.promote]
  | pin p =>
    simp only [Channel.Wants, Channel.promote, mem_insertWindow, reduceCtorEq, false_or, ne_eq, not_false_eq_true, true_and]
    constructor
    · rintro ⟨w, rfl | hw, h⟩
      · cases h.2.1
      · exact ⟨w, hw, h⟩
    · rintro ⟨w, hw, h⟩
      exact ⟨w, .inr hw, h⟩

theorem Channel.coveredBlocks_countScoutSwap (ch : Channel) : ch.countScoutSwap.coveredBlocks = ch.coveredBlocks := rfl

theorem Channel.wants_countScoutSwap (ch : Channel) (claim : Claim) : ch.countScoutSwap.Wants claim ↔ ch.Wants claim :=
  Channel.SamePlaces.wants (a := ch) ⟨Iff.rfl, rfl, rfl⟩ claim

/-- An open channel without a vacant claim to its scout, seen from the wait list. -/
theorem State.PoolNearly.scout_unwaited {s : State} {c : Chan} (h : s.PoolNearly c [] none) {k : Scout}
    (hk : (s.chan c).scout = some k) (hopen : (s.chan c).life ≠ .closed) : scoutEntry c ∉ s.wait := fun hin => by
  have := (h.claims (scoutEntry c) hopen).mp (.inl hin)
  rw [Channel.Wants, hk] at this
  cases this

/-- The scout of a channel stays a scout with another position, or another of the channel's blocks. -/
theorem State.PoolNearly.rearrange {s t : State} {c : Chan} (h : s.PoolNearly c [] none)
    (hothers : ∀ d : Chan, d ≠ c → t.chan d = s.chan d) (hwait : t.wait = s.wait)
    (hcond : ∀ b : BlockNo, (t.block b).condition = (s.block b).condition)
    (hlife : (t.chan c).life = (s.chan c).life) (hprofile : (t.chan c).profile = (s.chan c).profile)
    (hstaged : (t.chan c).staged = (s.chan c).staged) (hperm : (t.chan c).coveredBlocks.Perm (s.chan c).coveredBlocks)
    (hplaced : (t.chan c).PlacedWell) (hwants : ∀ k : Claim, (t.chan c).Wants k ↔ (s.chan c).Wants k) :
    t.PoolNearly c [] none :=
  h.change hothers hwait hlife hprofile hstaged (fun b => .inl (hcond b))
    (fun b => by
      have hs := h.holders c b
      rw [hcond, hperm.mem_iff]
      simpa using hs)
    (hperm.nodup_iff.mpr (h.distinct c)) .nil nofun hplaced nofun (fun k => by simp [hwants k])

theorem State.PoolSound.add {s : State} (h : s.PoolSound) {c : Chan} {k : Scout} {p : Profile}
    (hk : (s.chan c).scout = some k) (hp : (s.chan c).profile = some p) (hquota : (s.chan c).quotaCount < p.quota) :
    (s.carryOut c k .add).PoolSound := by
  have hopen : (s.chan c).life ≠ .closed := fun hclosed => by
    have := (h.profilesHeld c).mp hclosed
    rw [hp] at this
    cases this
  have hnear := h.nearly c
  have hq8 : p.quota ≤ 8 := ((h.profilesSound c).1 p hp).2.1
  have hroom : (s.chan c).windows.length ≤ 6 := by
    rw [Channel.quotaCount] at hquota
    omega
  have hunwaited := hnear.scout_unwaited hk hopen
  have hpromote : (s.onChan c fun ch => ch.promote k).PoolNearly c [] (some (scoutEntry c)) := by
    refine hnear.change (fun d hd => State.onChan_chan_of_ne _ _ hd) rfl ?_ ?_ ?_ (fun b => .inl rfl) (fun b => ?_) ?_ .nil nofun
      ?_ (fun e he => ?_) fun claim => ?_
    · rw [State.onChan_chan_self]; rfl
    · rw [State.onChan_chan_self]; rfl
    · rw [State.onChan_chan_self]; rfl
    · have hs := hnear.holders c b
      rw [State.onChan_chan_self, (coveredBlocks_promote hk).mem_iff]
      simpa using hs
    · rw [State.onChan_chan_self, (coveredBlocks_promote hk).nodup_iff]
      exact hnear.distinct c
    · rw [State.onChan_chan_self]
      exact placedWell_promote (hnear.placed c) hk hroom hopen
    · cases he
      exact ⟨hunwaited, rfl, hopen⟩
    · rw [State.onChan_chan_self, wants_promote]
      cases claim with
      | scout => simp
      | pin q => simp
  have hchan : (s.onChan c fun ch => ch.promote k).chan c = (s.chan c).promote k := State.onChan_chan_self s c _
  have hcount : ((s.chan c).promote k).quotaCount ≤ p.quota := by
    rw [Channel.quotaCount, Channel.promote, length_insertWindow]
    exact hquota
  cases hf : s.freeBlocks with
  | cons f fs =>
    rw [State.carryOut_add_free c k hf, ← State.onChan_onChan (s.handover f c) c (fun ch => ch.promote k) fun ch =>
      ch.placeScoutAfter k.pos f]
    have hgiven := Channel.given_placeScoutAfter (ch := (s.chan c).promote k) hopen (hchan ▸ (hpromote.placed c).room) rfl k.pos f
    refine (hpromote.meet (f := f) (g := fun ch => ch.placeScoutAfter k.pos f) (by rw [State.onChan_freeBlocks, hf]; rfl)
      (by rw [hchan]; exact hgiven)).sound fun q hq => ?_
    rw [State.onChan_chan_self, State.handover_chan, hchan] at hq ⊢
    rw [hgiven.profile] at hq
    cases hp.symm.trans hq
    rw [Channel.quotaCount, hgiven.windows]
    exact hcount
  | nil =>
    rw [State.carryOut_add_wait c k hf]
    have hjoin := hpromote.join (w := s.wait ++ [scoutEntry c]) (by rw [State.onChan_freeBlocks, hf])
      (List.perm_append_singleton _ _) ((State.pinsFirst_iff _).mpr ?_)
    · have hsound : ((s.onChan c fun ch => ch.promote k).withWait (s.wait ++ [scoutEntry c])).PoolSound :=
        hjoin.sound fun q hq => by
          rw [State.withWait_chan, hchan] at hq ⊢
          cases hp.symm.trans hq
          exact hcount
      have hlatched := hsound.onChan (c := c) (g := Channel.latchStarved) ⟨rfl, rfl, rfl, rfl, rfl⟩
      exact Eq.subst (motive := fun t : State => t.PoolSound)
        (State.onChan_onChan (s.joinScout c) c (fun ch => ch.promote k) Channel.latchStarved) hlatched
    · have hfirst := (State.pinsFirst_iff _).mp h.pinsFirst
      refine List.pairwise_append.mpr ⟨hfirst, List.pairwise_singleton _ _, fun a _ b hb hpin => ?_⟩
      rw [List.mem_singleton.mp hb] at hpin
      cases hpin

theorem State.PoolSound.discard {s : State} (h : s.PoolSound) {c : Chan} {k : Scout} (hk : (s.chan c).scout = some k)
    (hopen : (s.chan c).life ≠ .closed) : (s.carryOut c k .discard).PoolSound := by
  have hnear := h.nearly c
  have hplaced := hnear.placed c
  have hroom := hplaced.room
  obtain ⟨hfree, -⟩ := (s.chan c).nextFree_windowPositions k.pos (by omega)
  have hchan : (s.carryOut c k .discard).chan c = (s.chan c).placeScoutAfter k.pos k.block := by
    rw [State.carryOut, State.onChan_chan_self]; rfl
  refine (hnear.rearrange (t := s.carryOut c k .discard) (fun d hd => State.onChan_chan_of_ne _ _ hd) rfl (fun b => ?_) ?_ ?_ ?_ ?_
    ?_ fun claim => ?_).sound fun p hp => ?_
  · rw [State.carryOut, State.onChan_block, State.zeroBlock, State.writeTaps_block]
    split
    · next hb => rw [hb]
    · rfl
  · rw [hchan]; rfl
  · rw [hchan]; rfl
  · rw [hchan]; rfl
  · rw [hchan, Channel.coveredBlocks_eq, Channel.coveredBlocks_eq, hk]; rfl
  · rw [hchan]
    exact ⟨hplaced.ascending, fun j hj => by cases hj; exact hfree, hplaced.blocked, hplaced.pins,
      fun hlife => absurd hlife hopen, hroom⟩
  · rw [hchan]
    cases claim with
    | scout => simp [Channel.Wants, hk, Channel.placeScoutAfter]
    | pin q => exact Iff.rfl
  · rw [hchan] at hp ⊢
    exact h.quota c p hp

theorem State.PoolSound.swap {s : State} (h : s.PoolSound) {c : Chan} {k : Scout} {w : Window} {b : BlockNo}
    (hk : (s.chan c).scout = some k) (hopen : (s.chan c).life ≠ .closed) (hw : w ∈ (s.chan c).windows)
    (hkind : w.kind = .found) (hb : w.block = some b) :
    (s.carryOut c k (.swap w b)).PoolSound := by
  have hnear := h.nearly c
  have hplaced := hnear.placed c
  have hlost := Channel.lost_found hplaced hw hkind hb
  have hless : ((s.chan c).windows.filter fun v => v.pos != w.pos).length + 1 = (s.chan c).windows.length := by
    have hasc := hplaced.ascending
    have heq : ((s.chan c).windows.filter fun v => v.pos != w.pos) = (s.chan c).windows.filter fun v => v ≠ w :=
      List.filter_congr fun v hv => by
        by_cases hvw : v = w
        · simp [hvw]
        · have : v.pos ≠ w.pos := fun hp =>
            hvw (List.inj_on_of_nodup_map (List.pairwise_map.mpr (hasc.imp ne_of_lt)) hv hw hp)
          simp [hvw, this]
    rw [heq]
    exact length_filter_ne_found (Window.nodup_of_ascending hasc) hw
  have hremoved := hlost.placed hplaced
  have hroom : ((s.chan c).windows.filter fun v => v.pos != w.pos).length ≤ 6 := by
    have := hplaced.room
    omega
  have hpromoted := placedWell_promote (ch := { s.chan c with windows := (s.chan c).windows.filter fun v => v.pos != w.pos })
    hremoved hk hroom hopen
  have hgiven := Channel.given_placeScoutAfter
    (ch := ({ s.chan c with windows := (s.chan c).windows.filter fun v => v.pos != w.pos } : Channel).promote k) hopen
    hpromoted.room rfl k.pos b
  have hchan : (s.carryOut c k (.swap w b)).chan c =
      ((({ s.chan c with windows := (s.chan c).windows.filter fun v => v.pos != w.pos } : Channel).promote k).placeScoutAfter
        k.pos b).countScoutSwap := by
    rw [State.carryOut, State.onChan_chan_self]; rfl
  have hmoved := State.PlacesTidied.swapScout s c k w b
  refine (hnear.rearrange (t := s.carryOut c k (.swap w b)) (fun d hd => State.onChan_chan_of_ne _ _ hd) rfl (fun j => ?_) ?_ ?_ ?_
    ?_ ?_ fun claim => ?_).sound fun p hp => ?_
  · rw [State.carryOut, State.onChan_block, State.zeroBlock, State.writeTaps_block]
    split
    · next hj => rw [hj]
    · rfl
  · exact hmoved.life c
  · exact hmoved.profile c
  · exact hmoved.staged c
  · rw [hchan]
    refine (List.Perm.of_eq (Channel.coveredBlocks_countScoutSwap _)).trans ?_
    have hpromote := coveredBlocks_promote
      (ch := { s.chan c with windows := (s.chan c).windows.filter fun v => v.pos != w.pos }) hk
    exact hgiven.covered.trans ((hpromote.cons b).trans hlost.covered.symm)
  · rw [hchan]
    have hwell := hgiven.placed hpromoted
    exact ⟨hwell.ascending, hwell.apart, hwell.blocked, hwell.pins, hwell.closed, hwell.room⟩
  · rw [hchan]
    rw [Channel.wants_countScoutSwap, hgiven.wants, wants_promote]
    have hold := hlost.wants claim
    rw [or_iff_left (Option.not_mem_none claim)] at hold
    rw [hold]
    cases claim with
    | scout => simp [Channel.Wants, hk]
    | pin q => simp
  · rw [hchan] at hp ⊢
    refine le_trans ?_ (h.quota c p hp)
    show ((({ s.chan c with windows := (s.chan c).windows.filter fun v => v.pos != w.pos } : Channel).promote k).placeScoutAfter
        k.pos b).windows.length + 1 ≤ (s.chan c).windows.length + 1
    rw [hgiven.windows, Channel.promote, length_insertWindow, hless]

/-- What a swap is decided on (R53). -/
theorem State.verdict_swap {s : State} {c : Chan} {quota : Nat} {tookPart : List BlockNo} {k : Scout} {w : Window}
    {b : BlockNo} (h : s.verdict c quota tookPart k = .swap w b) :
    w ∈ (s.chan c).windows ∧ w.kind = .found ∧ w.block = some b := by
  unfold State.verdict at h
  split at h
  · split at h
    · cases h
    · split at h
      · next v hv =>
        split at h
        · next hkind =>
          cases hb : v.block with
          | none => rw [hb] at h; cases h
          | some j =>
            rw [hb] at h
            cases h
            rw [Channel.weighedWindows_eq] at hv
            exact ⟨(List.mem_filter.mp (weakest_least hv).1).1, hkind, hb⟩
        · cases h
      · cases h
  · cases h

theorem State.verdict_add {s : State} {c : Chan} {quota : Nat} {tookPart : List BlockNo} {k : Scout}
    (h : s.verdict c quota tookPart k = .add) : (s.chan c).quotaCount < quota := by
  unfold State.verdict at h
  split at h
  · split at h
    · next hlt => exact hlt
    · split at h
      · next v _ =>
        split at h
        · cases hb : v.block with
          | none => rw [hb] at h; cases h
          | some j => rw [hb] at h; cases h
        · cases h
      · cases h
  · cases h

/-- An evaluation keeps the laws of the pool (R50 to R54). -/
theorem State.PoolSound.carryOut {s : State} (h : s.PoolSound) {c : Chan} {k : Scout} {p : Profile} (tookPart : List BlockNo)
    (hk : (s.chan c).scout = some k) (hp : (s.chan c).profile = some p) :
    (s.carryOut c k (s.verdict c p.quota tookPart k)).PoolSound := by
  have hopen : (s.chan c).life ≠ .closed := fun hclosed => by
    have := (h.profilesHeld c).mp hclosed
    rw [hp] at this
    cases this
  cases hv : s.verdict c p.quota tookPart k with
  | add => exact h.add hk hp (State.verdict_add hv)
  | swap w b =>
    obtain ⟨hw, hkind, hb⟩ := State.verdict_swap hv
    exact h.swap hk hopen hw hkind hb
  | discard => exact h.discard hk hopen

theorem State.PoolSound.evaluate {s : State} (h : s.PoolSound) {c : Chan} {k : Scout} {p : Profile} (tookPart : List BlockNo)
    (hk : (s.chan c).scout = some k) (hp : (s.chan c).profile = some p) : (s.evaluate c p.quota tookPart k).PoolSound := by
  rw [State.evaluate_eq_outcome, State.outcome_eq]
  split
  · exact (h.carryOut tookPart hk hp).raiseNotice _ _
  · exact h.carryOut tookPart hk hp

theorem State.PoolSound.endDwell {s : State} (h : s.PoolSound) {c : Chan} {p : Profile} (hp : (s.chan c).profile = some p) :
    (s.endDwell c p.quota).PoolSound := by
  unfold State.endDwell
  split
  · next k hk =>
    split
    · exact h.evaluate _ hk hp
    · exact h
  · exact h

/-! ## The quota reduction, and an apply -/

/-- One window leaves (R61). -/
theorem State.PoolNearly.returnWindow {s : State} {c : Chan} (h : s.PoolNearly c [] none) {w : Window}
    (hw : w ∈ (s.chan c).windows) (hkind : w.kind = .found) : (s.returnWindow c w).PoolNearly c [] none := by
  have hplaced := h.placed c
  obtain ⟨b, hb⟩ := Option.isSome_iff_exists.mp (hplaced.blocked w hw hkind)
  have hopen : (s.chan c).life ≠ .closed := fun hclosed => by
    rw [(hplaced.closed hclosed).1] at hw
    cases hw
  rw [State.returnWindow_eq s c hb]
  refine State.PoolNearly.returnBlocks (h.lose (lack := none) (b := b) ?_ (fun d hd => State.onChan_chan_of_ne _ _ hd) rfl hopen
    (fun _ _ => rfl) (.inr ⟨rfl, rfl⟩))
  rw [State.onChan_chan_self]
  exact Channel.lost_found hplaced hw hkind hb

theorem State.PoolNearly.reduceQuota {s : State} {c : Chan} (h : s.PoolNearly c [] none) (quota fuel : Nat) :
    (s.reduceQuota c quota fuel).PoolNearly c [] none := by
  induction fuel generalizing s with
  | zero => exact h
  | succ fuel ih =>
    unfold State.reduceQuota
    split
    · split
      · next w hw =>
        obtain ⟨hmem, hkind⟩ := List.mem_filter.mp (weakest_least hw).1
        exact ih (h.returnWindow hmem (by simpa using hkind))
      · exact h
    · exact h

/-- An apply that takes effect keeps the laws of the pool (R61, R135). -/
theorem State.PoolSound.applyTakesEffect {s : State} (h : s.PoolSound) {c : Chan} {old new : Profile}
    (hlife : (s.chan c).life = .active) (hp : (s.chan c).profile = some old)
    (hstaged : (s.chan c).staged = .staged new ∨ (s.chan c).staged = .pending new) (hpins : new.pins = old.pins) :
    (s.applyTakesEffect c new).PoolSound := by
  obtain ⟨hfields, hrecords, hpending⟩ := h.profilesSound c
  have hmem : new ∈ (s.chan c).staged.records := by
    obtain hs | hs := hstaged <;> rw [hs] <;> exact List.mem_singleton_self new
  have hfollows : new.Follows old := ⟨hpins, hrecords new hmem⟩
  have hclosed : ¬(s.chan c).life = .closed := by rw [hlife]; nofun
  have htaken : (s.onChan c fun ch => ch.takeProfile old new).chan c = (s.chan c).takeProfile old new :=
    State.onChan_chan_self s c _
  have hstart : (s.onChan c fun ch => ch.takeProfile old new).PoolNearly c [] none := by
    refine (h.nearly c).same (fun d => ?_) (fun _ => rfl) rfl (fun d => ?_) (fun d => ?_) fun d q hq => ?_
    · by_cases hd : d = c
      · rw [hd, htaken]; exact ⟨Iff.rfl, rfl, rfl⟩
      · rw [State.onChan_chan_of_ne _ _ hd]; exact .refl _
    · by_cases hd : d = c
      · rw [hd, htaken]
        exact ⟨fun hc => absurd hc hclosed, nofun⟩
      · rw [State.onChan_chan_of_ne _ _ hd]; exact h.profilesHeld d
    · by_cases hd : d = c
      · rw [hd, htaken]
        refine ⟨fun q hq => ?_, hrecords, fun q hq => ⟨hlife, fun r hr => ?_⟩⟩
        · cases hq; exact hrecords new hmem
        · cases hr
          obtain hs | hs := hstaged
          · rw [Channel.takeProfile_eq] at hq
            rw [show (s.chan c).staged.pendingRecord = none by rw [hs]; rfl] at hq
            cases hq
          · rw [show ((s.chan c).takeProfile old new).staged.pendingRecord = some new by
              show (s.chan c).staged.pendingRecord = _
              rw [hs]; rfl] at hq
            cases hq
            exact ⟨rfl, rfl⟩
      · rw [State.onChan_chan_of_ne _ _ hd]; exact h.profilesSound d
    · by_cases hd : d = c
      · rw [hd, htaken] at hq
        cases hq
        exact ⟨old, hd ▸ hp, hpins, fun hne => absurd hd hne⟩
      · rw [State.onChan_chan_of_ne _ _ hd] at hq
        exact ⟨q, hq, rfl, fun _ => le_refl _⟩
  have hshed := h.sheddable hp hfollows
  rw [State.applyTakesEffect_eq new hp]
  refine State.PoolSound.raiseNotice ?_ _ _
  rw [State.applied]
  have hreduced := hstart.reduceQuota new.quota (s.chan c).windows.length
  have hmoved := State.PlacesTidied.reduceQuota (s.onChan c fun ch => ch.takeProfile old new) c new.quota (s.chan c).windows.length
  obtain ⟨gone, hgone⟩ := State.reduceQuota_shed hshed (s.chan c).windows.length
    (by rw [State.onChan_chan_self, Channel.takeProfile_windows])
  obtain ⟨hquota, -⟩ := hgone.weakest_gone hshed (by have := hfollows.fields.1; omega)
  have hprofile : (((s.onChan c fun ch => ch.takeProfile old new).reduceQuota c new.quota (s.chan c).windows.length).chan
      c).profile = some new := by
    rw [hmoved.profile, htaken]; rfl
  have hsound := hreduced.sound fun q hq => by
    rw [hprofile] at hq
    cases hq
    exact hquota
  refine hsound.same (fun d => ?_) (fun _ => rfl) rfl (fun d => ?_) fun d => ?_
  · by_cases hd : d = c
    · rw [hd, State.onChan_chan_self]; exact ⟨Iff.rfl, rfl, rfl⟩
    · rw [State.onChan_chan_of_ne _ _ hd]; exact .refl _
  · by_cases hd : d = c
    · rw [hd, State.onChan_chan_self]
      exact ⟨(hsound.profilesSound c).1, nofun, nofun⟩
    · rw [State.onChan_chan_of_ne _ _ hd]; exact hsound.profilesSound d
  · by_cases hd : d = c
    · rw [hd, State.onChan_chan_self]
    · rw [State.onChan_chan_of_ne _ _ hd]

end Sys2Proof.Machine
end

section
/-!
PROOFS. The laws of the pool through OPEN (R45, R130), CLOSE (R136) and RETRAIN (R59).
-/

namespace Sys2Proof.Machine

/-! ## OPEN -/

theorem length_freeBlocks_take {s : State} {p : Profile} (h : firstBlocks p ≤ s.freeBlocks.length) :
    (s.freeBlocks.take (firstBlocks p)).length = firstBlocks p := by
  rw [List.length_take, Nat.min_eq_left h]

/-- The first windows hold all the blocks taken but the last (R45). -/
theorem windowBlocks_firstWindows {p : Profile} {bs : List BlockNo} (h : bs.length = firstBlocks p) :
    (firstWindows p bs).filterMap Window.block = bs.dropLast := by
  unfold firstBlocks at h
  unfold firstWindows
  split at h
  · next hp =>
    rw [if_pos hp]
    obtain ⟨a, b, rfl⟩ := List.length_eq_two.mp h
    rfl
  · next hp =>
    rw [if_neg hp, List.dropLast_eq_take, h, Nat.add_sub_cancel]
    have hlen : p.pins.length ≤ bs.length := by omega
    clear hp h
    generalize p.pins = pins at *
    induction pins generalizing bs with
    | nil => rfl
    | cons q qs ih =>
      cases bs with
      | nil => simp at hlen
      | cons b bs =>
        exact congrArg (b :: ·) (ih (by simpa using hlen))

theorem firstWindows_pos {p : Profile} {bs : List BlockNo} (hp : p.pins ≠ []) (h : bs.length = firstBlocks p) :
    (firstWindows p bs).map Window.pos = p.pins ∧ ∀ w ∈ firstWindows p bs, w.kind = .pinned ∧ w.block ≠ none := by
  rw [firstBlocks, if_neg hp] at h
  rw [firstWindows, if_neg hp]
  have hlen : p.pins.length ≤ bs.length := by omega
  clear hp h
  generalize p.pins = pins at *
  induction pins generalizing bs with
  | nil => exact ⟨rfl, nofun⟩
  | cons q qs ih =>
    cases bs with
    | nil => simp at hlen
    | cons b bs =>
      obtain ⟨hpos, hall⟩ := ih (by simpa using hlen)
      rw [List.zipWith_cons_cons]
      refine ⟨by rw [List.map_cons, hpos], fun w hw => ?_⟩
      rcases List.mem_cons.mp hw with rfl | hw
      · exact ⟨rfl, Option.some_ne_none b⟩
      · exact hall w hw

theorem firstWindows_bare {p : Profile} {bs : List BlockNo} (hp : p.pins = []) (h : bs.length = firstBlocks p) :
    ∃ b, firstWindows p bs = [{ pos := p.initialPos, kind := .found, block := some b }] := by
  rw [firstBlocks, if_pos hp] at h
  obtain ⟨a, b, rfl⟩ := List.length_eq_two.mp h
  exact ⟨a, by rw [firstWindows, if_pos hp]; rfl⟩

/-- The windows of a channel just opened (R41, R43, R45). -/
theorem firstWindows_placed {p : Profile} {bs : List BlockNo} (hp : p.FieldsSound) (h : bs.length = firstBlocks p) :
    (firstWindows p bs).Pairwise (fun v w => v.pos < w.pos) ∧ (∀ w ∈ firstWindows p bs, w.block ≠ none) ∧
      ((firstWindows p bs).filter fun w => w.kind == .pinned).map Window.pos = p.pins ∧
      (firstWindows p bs).length + 1 ≤ p.quota := by
  obtain ⟨htwo, -, hasc, -, hfew, -⟩ := hp
  by_cases hpins : p.pins = []
  · obtain ⟨b, hb⟩ := firstWindows_bare hpins h
    rw [hb, hpins]
    refine ⟨List.pairwise_singleton _ _, fun w hw => ?_, rfl, by simpa using htwo⟩
    rw [List.mem_singleton.mp hw]
    exact Option.some_ne_none b
  · obtain ⟨hpos, hall⟩ := firstWindows_pos hpins h
    refine ⟨?_, fun w hw => (hall w hw).2, ?_, ?_⟩
    · rw [← hpos, List.pairwise_map] at hasc
      exact hasc
    · rw [List.filter_eq_self.mpr fun w hw => by simpa using (hall w hw).1, hpos]
    · rw [← List.length_map (f := Window.pos), hpos]
      omega

/-- An accepted OPEN keeps the laws of the pool (R45, R130). -/
theorem State.PoolSound.opened {s : State} (h : s.PoolSound) {c : Chan} {p : Profile} (hclosed : (s.chan c).life = .closed)
    (hstaged : (s.chan c).staged = .staged p) (hfree : firstBlocks p ≤ s.freeBlocks.length) : (s.opened c p).PoolSound := by
  have htaken := length_freeBlocks_take hfree
  have hself := s.opened_chan_self c p
  have hothers : ∀ d : Chan, d ≠ c → (s.opened c p).chan d = s.chan d := fun d hd => s.opened_chan_of_ne p hd
  have hblock : ∀ b : BlockNo, (s.opened c p).block b = if b ∈ s.freeBlocks.take (firstBlocks p) then
      { taps := List.replicate 32 0, condition := .held c, altered := false } else s.block b := fun b => by
    rw [State.opened, State.onChan_block, State.handoverAll_block]
  have hwait : (s.opened c p).wait = s.wait := by rw [State.opened, State.handoverAll_eq]; rfl
  generalize htk : s.freeBlocks.take (firstBlocks p) = taken at *
  have hmemFree : ∀ b ∈ taken, (s.block b).condition = .free := fun b hb =>
    (s.mem_freeBlocks b).mp (List.mem_of_mem_take (htk ▸ hb))
  have hpos : 0 < taken.length := by rw [htaken]; exact firstBlocks_pos p
  obtain ⟨last, hlast⟩ : ∃ b, taken.getLast? = some b :=
    ⟨_, List.getLast?_eq_some_getLast (List.ne_nil_of_length_pos hpos)⟩
  have hfields : p.FieldsSound := (h.profilesSound c).2.1 p (by rw [hstaged]; exact List.mem_singleton_self p)
  obtain ⟨hasc, hblocks, hpinned, hquota⟩ := firstWindows_placed hfields htaken
  have hwindows : ((s.opened c p).chan c).windows = firstWindows p taken := by rw [hself]; rfl
  have hscout : ((s.opened c p).chan c).scout =
      some { pos := lowestUnoccupied ((firstWindows p taken).map Window.pos), block := last, dwell := 0 } := by
    rw [hself]
    simp only [Channel.placeFirst, Channel.openValues, hlast, Option.map_some]
  have hlife : ((s.opened c p).chan c).life = .opening := by rw [hself]
  have hprofile : ((s.opened c p).chan c).profile = some p := by rw [hself]; rfl
  have hempty : ((s.opened c p).chan c).staged = .empty := by rw [hself]; rfl
  have hcovered : ((s.opened c p).chan c).coveredBlocks = taken := by
    rw [Channel.coveredBlocks_eq, Channel.windowBlocks, hwindows, hscout, windowBlocks_firstWindows htaken]
    exact List.dropLast_append_getLast? last hlast
  have hquiet : s.wait = [] := by
    by_contra hne
    have := h.waitMeansEmpty hne
    rw [this] at hfree
    exact absurd hfree (by have := firstBlocks_pos p; simp; omega)
  obtain ⟨hnone, -⟩ := (h.waits.2 c)
  have holdEmpty : (s.chan c).coveredBlocks = [] := by
    obtain ⟨-, -, -, -, hcl⟩ := h.placement c
    obtain ⟨hw, hk⟩ := hcl hclosed
    rw [Channel.coveredBlocks_eq, Channel.windowBlocks, hw, hk]
    rfl
  refine ⟨fun d => ?_, fun d => ?_, fun d => ⟨?_, fun b => ?_⟩, fun hne => absurd (hwait.trans hquiet) hne,
    h.pinsFirst.sublist (hwait ▸ List.Sublist.refl _), fun d => ?_, by rw [hwait]; exact h.waits.1, fun d => ?_⟩
  · by_cases hd : d = c
    · rw [hd, hlife, hprofile]
      exact ⟨nofun, nofun⟩
    · rw [hothers d hd]; exact h.profilesHeld d
  · by_cases hd : d = c
    · rw [hd, hprofile, Channel.PendingSound, hempty]
      exact ⟨fun q hq => by cases hq; exact hfields, nofun, nofun⟩
    · rw [hothers d hd]; exact h.profilesSound d
  · by_cases hd : d = c
    · rw [hd]
      show ((s.opened c p).chan c).coveredBlocks.Nodup
      rw [hcovered, ← htk]
      exact ((List.nodup_finRange 192).filter _).sublist (List.take_sublist _ _)
    · rw [hothers d hd]; exact (h.holders d).1
  · have hs := (h.holders d).2 b
    by_cases hd : d = c
    · subst hd
      show _ ↔ b ∈ ((s.opened d p).chan d).coveredBlocks
      rw [hcovered, hblock]
      by_cases hb : b ∈ taken
      · simp [hb]
      · rw [if_neg hb, hs]
        show b ∈ (s.chan d).coveredBlocks ↔ _
        simp [holdEmpty, hb]
    · rw [hothers d hd, ← hs, hblock]
      by_cases hb : b ∈ taken
      · rw [if_pos hb, hmemFree b hb]
        exact ⟨fun heq => absurd (BlockCondition.held.inj heq).symm hd, nofun⟩
      · rw [if_neg hb]
  · by_cases hd : d = c
    · subst hd
      refine ⟨by rw [hwindows]; exact hasc, fun k hk => ?_, fun w hw _ => ?_, fun q hq => ?_, fun hcl => ?_⟩
      · rw [hscout] at hk
        cases hk
        rw [Channel.windowPositions, hwindows]
        refine (lowestUnoccupied_spec (exists_unoccupied ?_)).1
        have := hfields.2.1
        rw [List.length_map]
        omega
      · rw [hwindows] at hw
        exact Option.isSome_iff_ne_none.mpr (hblocks w hw)
      · rw [hprofile] at hq
        cases hq
        rw [Channel.quotaCount, hwindows]
        exact ⟨hpinned, hquota⟩
      · rw [hlife] at hcl
        cases hcl
    · rw [hothers d hd]; exact h.placement d
  · rw [hwait]
    by_cases hd : d = c
    · subst hd
      refine ⟨fun _ e he => (by rw [hquiet] at he; cases he), fun _ => ⟨?_, fun q => ?_⟩⟩
      · rw [hquiet, hscout]
        exact ⟨nofun, nofun⟩
      · rw [hquiet, hwindows]
        exact ⟨nofun, fun ⟨w, hw, _, _, hb⟩ => absurd hb (hblocks w hw)⟩
    · rw [hothers d hd]; exact h.waits.2 d

/-! ## CLOSE -/

theorem State.onChan_comm (s : State) {c d : Chan} (h : c ≠ d) (f g : Channel → Channel) :
    (s.onChan c f).onChan d g = (s.onChan d g).onChan c f := by
  have hval : c.val ≠ d.val := fun hv => h (Fin.ext hv)
  unfold State.onChan
  rw [State.setChan_chan_of_ne _ _ h.symm, State.setChan_chan_of_ne _ _ h]
  unfold State.setChan
  congr 1
  exact Vector.set_comm _ _ hval

/-- What is written of a channel without an entry in the wait list commutes with the return of blocks. -/
theorem State.returnBlock_onChan (s : State) {c : Chan} (h : ∀ e ∈ s.wait, e.chan ≠ c) (f : Channel → Channel) (b : BlockNo) :
    (s.onChan c f).returnBlock b = (s.returnBlock b).onChan c f := by
  cases hw : s.wait with
  | nil =>
    have hwf : (s.onChan c f).wait = [] := hw
    rw [(s.onChan c f).returnBlock_free b hwf, s.returnBlock_free b hw]
    rfl
  | cons e rest =>
    have he : e.chan ≠ c := h e (by rw [hw]; exact List.mem_cons_self)
    rw [State.returnBlock_served b hw, State.returnBlock_served (s := s.onChan c f) b hw]
    exact State.onChan_comm ((s.withWait rest).handover b e.chan) he.symm f (e.place b)

theorem State.returnBlocks_onChan (s : State) {c : Chan} (h : ∀ e ∈ s.wait, e.chan ≠ c) (f : Channel → Channel)
    (bs : List BlockNo) : (s.onChan c f).returnBlocks bs = (s.returnBlocks bs).onChan c f := by
  induction bs generalizing s with
  | nil => rfl
  | cons b bs ih =>
    rw [State.returnBlocks_cons, State.returnBlocks_cons, s.returnBlock_onChan h f b]
    refine ih (s.returnBlock b) fun e he => h e ?_
    rw [State.returnBlock_wait] at he
    exact List.mem_of_mem_tail he

/-- A channel taken out of service (R136). -/
def Channel.retire (ch : Channel) : Channel := { ch with frozen := false, profile := none, life := .closed }

/-- A channel without windows, scout and profile is placed well. -/
theorem Channel.PlacedWell.bare {ch : Channel} (hwindows : ch.windows = []) (hscout : ch.scout = none)
    (hprofile : ch.profile = none) : ch.PlacedWell where
  ascending := by simp [hwindows]
  apart := by simp [hscout]
  blocked := by simp [hwindows]
  pins := by simp [hprofile]
  closed _ := ⟨hwindows, hscout⟩
  room := by simp [hwindows]

theorem State.cleared_nearly {s : State} (h : s.PoolSound) (c : Chan) :
    ((s.cleared c).onChan c Channel.retire).PoolNearly c (s.heldBlocks c) none := by
  have hself := ((s.cleared c).onChan_chan_self c Channel.retire).trans (congrArg Channel.retire (s.cleared_chan_self c))
  have hothers : ∀ d : Chan, d ≠ c → ((s.cleared c).onChan c Channel.retire).chan d = s.chan d := fun d hd => by
    rw [State.onChan_chan_of_ne _ _ hd, State.cleared_chan_of_ne s hd]
  have hwait : ((s.cleared c).onChan c Channel.retire).wait = s.wait.filter fun e => e.chan ≠ c := rfl
  have hblock : ∀ b : BlockNo, ((s.cleared c).onChan c Channel.retire).block b = s.block b := fun b => rfl
  generalize (s.cleared c).onChan c Channel.retire = t at *
  have hlife : (t.chan c).life = .closed := by rw [hself]; rfl
  have hprofile : (t.chan c).profile = none := by rw [hself]; rfl
  have hstaged : (t.chan c).staged = .empty := by rw [hself]; rfl
  have hwindows : (t.chan c).windows = [] := by rw [hself]; rfl
  have hscout : (t.chan c).scout = none := by rw [hself]; rfl
  have hempty : (t.chan c).coveredBlocks = [] := by
    rw [Channel.coveredBlocks_eq, Channel.windowBlocks, hwindows, hscout]; rfl
  have hnear := h.nearly c
  have hfilter : (s.wait.filter fun e => e.chan ≠ c).Sublist s.wait := List.filter_sublist
  refine ⟨fun d => ?_, fun d => ?_, fun d => ?_, fun d b => ?_, s.heldBlocks_nodup c, fun b _ => ?_, fun hne => ?_,
    h.pinsFirst.sublist (hwait ▸ hfilter), fun d => ?_, fun d hd => ?_, hwait ▸ hnear.waitNodup.sublist hfilter, nofun,
    fun e he => ?_, fun e he => ?_⟩
  · by_cases hd : d = c
    · rw [hd, hlife, hprofile]; exact ⟨fun _ => rfl, fun _ => rfl⟩
    · rw [hothers d hd]; exact h.profilesHeld d
  · by_cases hd : d = c
    · rw [hd, hprofile, Channel.PendingSound, hstaged]; exact ⟨nofun, nofun, nofun⟩
    · rw [hothers d hd]; exact h.profilesSound d
  · by_cases hd : d = c
    · rw [hd, hempty]; exact .nil
    · rw [hothers d hd]; exact hnear.distinct d
  · rw [hblock]
    by_cases hd : d = c
    · subst hd
      rw [hempty, State.mem_heldBlocks]
      simp
    · rw [hothers d hd, hnear.holders d b]
      simp [hd]
  · rw [hempty]; exact List.not_mem_nil
  · have hfree : t.freeBlocks = s.freeBlocks := List.filter_congr fun b _ => by rw [hblock]
    rw [hfree]
    exact h.waitMeansEmpty fun hnil => hne (by rw [hwait, hnil]; rfl)
  · by_cases hd : d = c
    · rw [hd]; exact Channel.PlacedWell.bare hwindows hscout hprofile
    · rw [hothers d hd]; exact hnear.placed d
  · rw [hothers d hd]; exact hnear.quota d hd
  · rw [hwait] at he
    obtain ⟨hmem, hne⟩ := List.mem_filter.mp he
    rw [hothers _ (by simpa using hne)]
    exact hnear.closedQuiet e hmem
  · by_cases hd : e.chan = c
    · rw [hd] at he
      exact absurd hlife he
    · rw [hothers _ hd] at he ⊢
      rw [← hnear.claims e he, hwait]
      simp [hd]

/-- A CLOSE keeps the laws of the pool (R68, R69, R136). -/
theorem State.PoolSound.closeSteps {s : State} (h : s.PoolSound) (c : Chan) : (s.closeSteps c).PoolSound := by
  have hquiet : ∀ e ∈ (s.cleared c).wait, e.chan ≠ c := fun e he => by
    rw [State.cleared_wait] at he
    simpa using (List.mem_filter.mp he).2
  have hreturned := (State.cleared_nearly h c).returnBlocks
  rw [State.returnBlocks_onChan _ hquiet] at hreturned
  have hsound : ((s.vacated c).onChan c Channel.retire).PoolSound := hreturned.sound fun p hp => by
    rw [State.onChan_chan_self] at hp
    cases hp
  refine hsound.ofBlocks (fun d => ?_) (fun b => ?_) ?_
  · rw [State.closeSteps_eq]
    by_cases hd : d = c
    · rw [hd, State.onChan_chan_self, State.onChan_chan_self, State.abortSignature_chan]; rfl
    · rw [State.onChan_chan_of_ne _ _ hd, State.onChan_chan_of_ne _ _ hd, State.abortSignature_chan]; rfl
  · rw [State.closeSteps_eq, State.onChan_block, State.abortSignature_block]; rfl
  · rw [State.closeSteps_eq, State.onChan_wait, State.abortSignature_wait]; rfl

end Sys2Proof.Machine
end

section
/-!
PROOFS. The laws of the pool through RETRAIN (R59, R95).
-/

namespace Sys2Proof.Machine

/-! ## The scout moved before the blocks are returned -/

/-- A pin filled does not matter to a scout that is moved afterwards. -/
theorem WaitEntry.place_rewindScout {e : WaitEntry} (b : BlockNo) {ch : Channel} (h : e.claim = .scout → ch.scout = none) :
    (e.place b ch.rewindScout).rewindScout = (e.place b ch).rewindScout := by
  cases hclaim : e.claim with
  | scout => rw [Channel.rewindScout_none (h hclaim)]
  | pin p =>
    rw [WaitEntry.place_pin hclaim, WaitEntry.place_pin hclaim]
    cases hk : ch.scout with
    | none => rw [Channel.rewindScout_none hk]
    | some k => simp only [Channel.rewindScout, hk, Channel.fillPin, Channel.windowPositions]

theorem Channel.rewindScout_twice (ch : Channel) : ch.rewindScout.rewindScout = ch.rewindScout := by
  cases hk : ch.scout with
  | none => rw [Channel.rewindScout_none hk, Channel.rewindScout_none hk]
  | some k => simp only [Channel.rewindScout, hk, Channel.windowPositions]

theorem State.rewindScout_twice (s : State) (c : Chan) :
    (s.onChan c Channel.rewindScout).onChan c Channel.rewindScout = s.onChan c Channel.rewindScout :=
  (State.onChan_onChan s c _ _).trans (congrArg (s.setChan c) (s.chan c).rewindScout_twice)

theorem WaitEntry.eq_scoutEntry {e : WaitEntry} (h : e.claim = .scout) : e = scoutEntry e.chan := by
  obtain ⟨d, k⟩ := e
  exact congrArg (WaitEntry.mk d) h

/-- The wait list holds a SCOUT entry of a channel only while the channel has no scout (R66). -/
structure State.ScoutWaits (s : State) (c : Chan) : Prop where
  nodup : s.wait.Nodup
  absent : scoutEntry c ∈ s.wait → (s.chan c).scout = none

theorem Channel.rewindScout_scout_none {ch : Channel} (h : ch.scout = none) : ch.rewindScout.scout = none := by
  rw [Channel.rewindScout_none h, h]

theorem State.ScoutWaits.rewind {s : State} {c : Chan} (h : s.ScoutWaits c) :
    (s.onChan c Channel.rewindScout).ScoutWaits c :=
  ⟨h.nodup, fun hin => by
    rw [State.onChan_chan_self]
    exact Channel.rewindScout_scout_none (h.absent hin)⟩

theorem State.ScoutWaits.returnBlock {s : State} {c : Chan} (h : s.ScoutWaits c) (b : BlockNo) :
    (s.returnBlock b).ScoutWaits c := by
  cases hw : s.wait with
  | nil =>
    have hnil : (s.returnBlock b).wait = [] := by rw [State.returnBlock_wait, hw]; rfl
    refine ⟨by rw [hnil]; exact .nil, fun hin => ?_⟩
    rw [hnil] at hin
    cases hin
  | cons e rest =>
    have hnodup := h.nodup
    rw [hw] at hnodup
    obtain ⟨hne, hrest⟩ := List.nodup_cons.mp hnodup
    have hwait : (s.returnBlock b).wait = rest := by rw [State.returnBlock_wait, hw]; rfl
    refine ⟨by rw [hwait]; exact hrest, fun hin => ?_⟩
    rw [hwait] at hin
    have hold := h.absent (hw ▸ List.mem_cons_of_mem e hin)
    rw [State.returnBlock_served b hw]
    by_cases hc : c = e.chan
    · rw [hc, State.onChan_chan_self]
      cases hclaim : e.claim with
      | scout =>
        rw [hc, ← WaitEntry.eq_scoutEntry hclaim] at hin
        exact absurd hin hne
      | pin p =>
        rw [WaitEntry.place_pin hclaim]
        exact hc ▸ hold
    · rw [State.onChan_chan_of_ne _ _ hc]
      exact hold

theorem State.returnBlock_rewind {s : State} {c : Chan} (h : s.ScoutWaits c) (b : BlockNo) :
    ((s.onChan c Channel.rewindScout).returnBlock b).onChan c Channel.rewindScout =
      (s.returnBlock b).onChan c Channel.rewindScout := by
  cases hw : s.wait with
  | nil =>
    have hwait : (s.onChan c Channel.rewindScout).wait = [] := hw
    rw [State.returnBlock_free _ b hwait, s.returnBlock_free b hw]
    exact State.rewindScout_twice (s.setBlock b { s.block b with condition := .free }) c
  | cons e rest =>
    have hwait : (s.onChan c Channel.rewindScout).wait = e :: rest := hw
    rw [State.returnBlock_served b hwait, State.returnBlock_served b hw]
    show ((((s.withWait rest).handover b e.chan).onChan c Channel.rewindScout).onChan e.chan (e.place b)).onChan c _ = _
    by_cases hc : e.chan = c
    · rw [hc, State.onChan_onChan, State.onChan_onChan, State.onChan_onChan, State.onChan, State.onChan]
      congr 1
      refine WaitEntry.place_rewindScout b fun hclaim => h.absent ?_
      rw [hw, ← hc, ← WaitEntry.eq_scoutEntry hclaim]
      exact List.mem_cons_self
    · rw [State.onChan_comm _ (Ne.symm hc), State.rewindScout_twice]

/-- A scout moved before the return of blocks, and again after it, is where it is when it is moved after it alone (R59). -/
theorem State.returnBlocks_rewind {s : State} {c : Chan} (h : s.ScoutWaits c) (bs : List BlockNo) :
    ((s.onChan c Channel.rewindScout).returnBlocks bs).onChan c Channel.rewindScout =
      (s.returnBlocks bs).onChan c Channel.rewindScout := by
  induction bs generalizing s with
  | nil => exact s.rewindScout_twice c
  | cons b bs ih =>
    rw [State.returnBlocks_cons, State.returnBlocks_cons, ← ih (h.rewind.returnBlock b), s.returnBlock_rewind h b,
      ih (h.returnBlock b)]

/-! ## The blocks of a RETRAIN -/

/-- The blocks of the FOUND windows are the ones a RETRAIN frees, in another order. -/
theorem State.PoolSound.foundBlocks_perm {s : State} (h : s.PoolSound) (c : Chan) :
    (((s.chan c).windows.filter fun w => !(w.kind == .pinned)).filterMap Window.block).Perm (s.foundBlocks c) := by
  have hnodup := (h.windowBlocks_nodup c).sublist
    ((List.filter_sublist (p := fun w : Window => !(w.kind == .pinned)) (l := (s.chan c).windows)).filterMap Window.block)
  refine (List.perm_ext_iff_of_nodup hnodup (s.foundBlocks_nodup c)).mpr fun b => ?_
  rw [State.mem_foundBlocks, List.mem_filterMap]
  refine exists_congr fun w => ?_
  rw [List.mem_filter, and_assoc]
  cases w.kind <;> simp

/-- The windows of a RETRAIN and the blocks it returns have the blocks the windows had, and a free block that stands in
(R59). -/
theorem State.PoolSound.retrain_perm {s : State} (h : s.PoolSound) {c : Chan} {p : Profile}
    (hp : (s.chan c).profile = some p) :
    ((s.retrainWindows c p).filterMap Window.block ++ s.retrainReturned c p).Perm
      ((s.chan c).windowBlocks ++ (s.retrainRebuilt c p).toList) := by
  have hsplit : (((s.chan c).windows.filter fun w => w.kind == .pinned).filterMap Window.block ++ s.foundBlocks c).Perm
      (s.chan c).windowBlocks := by
    have := (List.filter_append_perm (fun w : Window => w.kind == .pinned) (s.chan c).windows).filterMap Window.block
    rw [List.filterMap_append] at this
    exact ((h.foundBlocks_perm c).symm.append_left _).trans this
  by_cases hpins : p.pins = []
  · obtain ⟨-, -, -, hplace, -⟩ := h.placement c
    obtain ⟨hpinned, -⟩ := hplace p hp
    rw [hpins, List.map_eq_nil_iff] at hpinned
    rw [hpinned, List.filterMap_nil, List.nil_append] at hsplit
    refine List.Perm.trans (List.Perm.of_eq ?_) (hsplit.append_right _)
    unfold State.retrainWindows State.retrainReturned State.retrainRebuilt
    rw [if_pos hpins, if_pos hpins]
    cases hf : s.foundBlocks c with
    | cons b rest => rw [if_neg (by simp)]; simp
    | nil => rw [if_pos ⟨hpins, rfl⟩]; cases s.freeBlocks.head? <;> rfl
  · rw [State.retrainWindows_pinned hpins, State.retrainReturned, if_neg hpins, State.retrainRebuilt,
      if_neg fun hboth => hpins hboth.1, Option.toList_none, List.append_nil]
    exact hsplit

/-- A free block is taken in hand while nobody waits. -/
theorem State.PoolNearly.take {s : State} {c : Chan} {hand : List BlockNo} (h : s.PoolNearly c hand none) {f : BlockNo}
    (hfree : (s.block f).condition = .free) (hwait : s.wait = []) : (s.handover f c).PoolNearly c (f :: hand) none := by
  have hunheld : ∀ d : Chan, ¬((s.block f).condition = .held d) := fun d => by rw [hfree]; nofun
  have hcond : ∀ b : BlockNo, ((s.handover f c).block b).condition = if b = f then .held c else (s.block b).condition :=
    fun b => by
      rw [State.handover_block]
      split <;> rfl
  refine { h with
    holders := fun d b => ?_
    handNodup := List.nodup_cons.mpr ⟨fun hin => hunheld c ((h.holders c f).mpr (.inr ⟨rfl, hin⟩)), h.handNodup⟩
    handApart := fun b hb => ?_
    waitMeansEmpty := fun hne => absurd hwait hne }
  · rw [hcond, List.mem_cons]
    have hs := h.holders d b
    rw [State.handover_chan]
    by_cases hb : b = f
    · subst hb
      have hnot : b ∉ (s.chan d).coveredBlocks := fun hin => hunheld d (hs.mpr (.inl hin))
      simp [hnot, eq_comm]
    · simp [hb, hs]
  · rw [State.handover_chan]
    rcases List.mem_cons.mp hb with rfl | hb
    · exact fun hin => hunheld c ((h.holders c b).mpr (.inl hin))
    · exact h.handApart b hb

/-- The state in which the free block that stands in is in hand (R59). -/
def State.retrainTaken (s : State) (c : Chan) (p : Profile) : State :=
  match s.retrainRebuilt c p with
  | some f => s.handover f c
  | none => s

theorem State.PoolSound.retrainTaken_nearly {s : State} (h : s.PoolSound) (c : Chan) (p : Profile) :
    (s.retrainTaken c p).PoolNearly c (s.retrainRebuilt c p).toList none := by
  unfold State.retrainTaken
  cases hf : s.retrainRebuilt c p with
  | none => exact h.nearly c
  | some f =>
    have hfree := State.retrainRebuilt_free hf
    refine (h.nearly c).take ((s.mem_freeBlocks f).mp hfree) ?_
    by_contra hne
    rw [h.waitMeansEmpty hne] at hfree
    cases hfree

theorem State.retrainTaken_chan (s : State) (c : Chan) (p : Profile) (d : Chan) :
    (s.retrainTaken c p).chan d = s.chan d := by
  unfold State.retrainTaken
  cases s.retrainRebuilt c p <;> rfl

theorem State.retrainTaken_wait (s : State) (c : Chan) (p : Profile) : (s.retrainTaken c p).wait = s.wait := by
  unfold State.retrainTaken
  cases s.retrainRebuilt c p <;> rfl

theorem State.RetrainBase.condition {s t : State} {c : Chan} {p : Profile} (h : s.RetrainBase t c p) (b : BlockNo) :
    (t.block b).condition = ((s.retrainTaken c p).block b).condition := by
  rw [h.block b, State.zeroedFor_block, State.retrainTaken]
  cases s.retrainRebuilt c p with
  | none => rw [if_neg (by simp)]; split <;> rfl
  | some f =>
    rw [State.handover_block]
    by_cases hb : b = f
    · rw [hb, if_pos rfl, if_pos rfl]
    · rw [if_neg fun heq => hb (Option.some.inj heq).symm, if_neg hb]
      split <;> rfl

/-- The windows of a RETRAIN, with the scout moved, are placed well (R41 to R44). -/
theorem State.PoolSound.retrainPlaced {s : State} (h : s.PoolSound) {c : Chan} {p : Profile}
    (hp : (s.chan c).profile = some p) (hopen : (s.chan c).life ≠ .closed) :
    (({ s.chan c with windows := s.retrainWindows c p } : Channel).rewindScout).PlacedWell := by
  have hplaced := (h.nearly c).placed c
  have hroom := h.length_retrainWindows c p
  have hasc : (s.retrainWindows c p).Pairwise fun v w => v.pos < w.pos := by
    unfold State.retrainWindows
    split
    · cases (s.foundBlocks c).head?.or (s.retrainRebuilt c p) <;> simp
    · exact hplaced.ascending.filter _
  have hblocked : ∀ w ∈ s.retrainWindows c p, w.kind = .found → w.block.isSome = true := fun w hw hkind => by
    unfold State.retrainWindows at hw
    split at hw
    · rw [Option.mem_toList, Option.map_eq_some_iff] at hw
      obtain ⟨b, -, rfl⟩ := hw
      rfl
    · have := (List.mem_filter.mp hw).2
      rw [hkind] at this
      cases this
  have hpins : (((s.retrainWindows c p).filter fun w => w.kind == .pinned).map Window.pos) = p.pins := by
    by_cases hbare : p.pins = []
    · rw [hbare, List.map_eq_nil_iff, List.filter_eq_nil_iff]
      intro w hw
      simp [(State.retrainWindows_bare hbare w hw).2]
    · rw [State.retrainWindows_pinned hbare, List.filter_filter]
      simpa using hplaced.pins p hp
  rw [Channel.rewindScout_eq]
  refine ⟨hasc, fun k hk => ?_, hblocked, fun q hq => ?_, fun hclosed => absurd hclosed hopen, hroom⟩
  · cases hold : (s.chan c).scout with
    | none =>
      rw [Channel.rewindScout_none (ch := { s.chan c with windows := s.retrainWindows c p }) hold] at hk
      rw [hold] at hk
      cases hk
    | some j =>
      obtain ⟨q, hq, hscout, -⟩ :=
        Channel.rewindScout_some (ch := { s.chan c with windows := s.retrainWindows c p }) hold (by show (s.retrainWindows c p).length < 32; omega)
      rw [hscout] at hk
      cases hk
      exact hq.1
  · cases hp.symm.trans hq
    exact hpins

/-- A RETRAIN before its blocks are returned, with the scout moved: what is left over is in hand (R59). -/
theorem State.RetrainBase.nearly {s base : State} (h : s.PoolSound) {c : Chan} {p : Profile}
    (hbase : s.RetrainBase base c p) (hp : (s.chan c).profile = some p) (hopen : (s.chan c).life ≠ .closed) :
    (base.onChan c Channel.rewindScout).PoolNearly c (s.retrainReturned c p) none := by
  have hnear := h.retrainTaken_nearly c p
  have hself : (base.onChan c Channel.rewindScout).chan c =
      ({ s.chan c with windows := s.retrainWindows c p } : Channel).rewindScout := by
    rw [State.onChan_chan_self, hbase.self]
  have hscoutBlock : (({ s.chan c with windows := s.retrainWindows c p } : Channel).rewindScout).scout.map Scout.block =
      (s.chan c).scout.map Scout.block := by
    cases hk : (s.chan c).scout with
    | none =>
      rw [Channel.rewindScout_none (ch := { s.chan c with windows := s.retrainWindows c p }) hk]
      exact congrArg _ hk
    | some k => simp only [Channel.rewindScout, hk, Option.map_some]
  have hcovered : (({ s.chan c with windows := s.retrainWindows c p } : Channel).rewindScout).coveredBlocks =
      (s.retrainWindows c p).filterMap Window.block ++ ((s.chan c).scout.map Scout.block).toList := by
    rw [Channel.coveredBlocks_eq, hscoutBlock, Channel.windowBlocks, Channel.rewindScout_eq]
  have hperm : ((({ s.chan c with windows := s.retrainWindows c p } : Channel).rewindScout).coveredBlocks ++
      s.retrainReturned c p).Perm ((s.chan c).coveredBlocks ++ (s.retrainRebuilt c p).toList) := by
    rw [hcovered, Channel.coveredBlocks_eq, List.append_assoc, List.append_assoc]
    refine (List.perm_append_comm.append_left _).trans ?_
    rw [← List.append_assoc]
    refine ((h.retrain_perm hp).append_right _).trans ?_
    rw [List.append_assoc]
    exact List.perm_append_comm.append_left _
  have hwhole : ((s.chan c).coveredBlocks ++ (s.retrainRebuilt c p).toList).Nodup := by
    have hd := hnear.distinct c
    have ha := hnear.handApart
    rw [State.retrainTaken_chan] at hd ha
    exact List.nodup_append.mpr ⟨hd, hnear.handNodup, fun a hin b hb hab => ha b hb (hab ▸ hin)⟩
  obtain ⟨hdistinct, hnodup, hapart⟩ := List.nodup_append.mp (hperm.nodup_iff.mpr hwhole)
  refine hnear.change (fun d hd => ?_) ?_ ?_ ?_ ?_ (fun b => .inl ?_) (fun b => ?_) ?_ hnodup (fun b hb => ?_) ?_ nofun fun k => ?_
  · rw [State.onChan_chan_of_ne _ _ hd, hbase.others d hd, State.retrainTaken_chan]
  · rw [State.onChan_wait, hbase.frame, State.retrainTaken_wait]
  · rw [hself, State.retrainTaken_chan, Channel.rewindScout_eq]
  · rw [hself, State.retrainTaken_chan, Channel.rewindScout_eq]
  · rw [hself, State.retrainTaken_chan, Channel.rewindScout_eq]
  · rw [State.onChan_block, hbase.condition]
  · have hheld := hnear.holders c b
    rw [State.retrainTaken_chan] at hheld
    rw [State.onChan_block, hbase.condition, hheld, hself, ← List.mem_append, hperm.mem_iff, List.mem_append]
    simp
  · rw [hself]; exact hdistinct
  · rw [hself]; exact fun hin => hapart b hin b hb rfl
  · rw [hself]; exact h.retrainPlaced hp hopen
  · rw [hself, State.retrainTaken_chan, or_iff_left (Option.not_mem_none _)]
    cases k with
    | scout =>
      show _ = none ↔ _ = none
      rw [← Option.map_eq_none_iff (f := Scout.block), hscoutBlock, Option.map_eq_none_iff]
    | pin q =>
      show (∃ w ∈ (Channel.rewindScout _).windows, _) ↔ _
      rw [Channel.rewindScout_eq]
      obtain ⟨-, -, -, hplace, -⟩ := h.placement c
      obtain ⟨hpinned, -⟩ := hplace p hp
      by_cases hbare : p.pins = []
      · rw [hbare, List.map_eq_nil_iff, List.filter_eq_nil_iff] at hpinned
        constructor
        · rintro ⟨w, hw, -, hkind, -⟩
          rw [(State.retrainWindows_bare hbare w hw).2] at hkind
          cases hkind
        · rintro ⟨w, hw, -, hkind, -⟩
          exact absurd (by simp [hkind]) (hpinned w hw)
      · refine exists_congr fun w => ?_
        show w ∈ s.retrainWindows c p ∧ _ ↔ _
        rw [State.retrainWindows_pinned hbare, List.mem_filter]
        constructor
        · rintro ⟨⟨hw, -⟩, hrest⟩
          exact ⟨hw, hrest⟩
        · rintro ⟨hw, hpos, hkind, hblock⟩
          exact ⟨⟨hw, by simp [hkind]⟩, hpos, hkind, hblock⟩

/-- The windows of a RETRAIN are within the quota (R43). -/
theorem State.PoolSound.retrain_quota {s : State} (h : s.PoolSound) {c : Chan} {p : Profile}
    (hp : (s.chan c).profile = some p) : (s.retrainWindows c p).length + 1 ≤ p.quota := by
  obtain ⟨htwo, -⟩ := (h.profilesSound c).1 p hp
  unfold State.retrainWindows
  split
  · refine le_trans ?_ htwo
    cases (s.foundBlocks c).head?.or (s.retrainRebuilt c p) <;> simp
  · exact le_trans (Nat.succ_le_succ (List.length_filter_le _ _)) (h.quota c p hp)

/-- The placement's part of a RETRAIN keeps the laws of the pool (R59). -/
theorem State.PoolSound.retrainPlacement {s : State} (h : s.PoolSound) {c : Chan} {p : Profile}
    (hp : (s.chan c).profile = some p) (hopen : (s.chan c).life ≠ .closed) : (s.retrainPlacement c p).PoolSound := by
  obtain ⟨base, hbase, heq⟩ := h.retrainPlacement_eq hp
  have hwait : base.wait = s.wait := by rw [hbase.frame]
  have hwaits : base.ScoutWaits c := ⟨hwait ▸ h.waits.1, fun hin => by
    rw [hbase.self]
    exact (((h.waits.2 c).2 hopen).1).mp (hwait ▸ hin)⟩
  rw [heq, ← State.returnBlocks_rewind hwaits]
  have hnear := hbase.nearly h hp hopen
  have hbackMoved := State.PlacesTidied.returnBlocks (base.onChan c Channel.rewindScout) (s.retrainReturned c p)
  have hserved := (base.onChan c Channel.rewindScout).returnBlocks_servedBy (s.retrainReturned c p) (d := c) hnear.waitNodup
    (by have := (hnear.placed c).room; omega)
  have hback := hnear.returnBlocks
  generalize (base.onChan c Channel.rewindScout).returnBlocks (s.retrainReturned c p) = t at *
  have hself : (base.onChan c Channel.rewindScout).chan c =
      ({ s.chan c with windows := s.retrainWindows c p } : Channel).rewindScout := by
    rw [State.onChan_chan_self, hbase.self]
  have hprofile : (t.chan c).profile = some p := by
    rw [hbackMoved.profile, hself, Channel.rewindScout_eq]; exact hp
  have hlife : (t.chan c).life ≠ .closed := by
    rw [hbackMoved.life, hself, Channel.rewindScout_eq]; exact hopen
  have hlen : (t.chan c).windows.length = (s.retrainWindows c p).length := by
    rw [hserved.length_windows, hself, Channel.rewindScout_eq]
  have hchan : (t.onChan c Channel.rewindScout).chan c = (t.chan c).rewindScout := State.onChan_chan_self t c _
  have hplaced := hback.placed c
  have hscoutBlock : (t.chan c).rewindScout.scout.map Scout.block = (t.chan c).scout.map Scout.block := by
    cases hk : (t.chan c).scout with
    | none => rw [Channel.rewindScout_none hk, hk]
    | some k => simp only [Channel.rewindScout, hk, Option.map_some]
  refine (hback.rearrange (t := t.onChan c Channel.rewindScout) (fun d hd => State.onChan_chan_of_ne _ _ hd) rfl (fun _ => rfl)
    ?_ ?_ ?_ ?_ ?_ fun k => ?_).sound fun q hq => ?_
  · rw [hchan, Channel.rewindScout_eq]
  · rw [hchan, Channel.rewindScout_eq]
  · rw [hchan, Channel.rewindScout_eq]
  · rw [hchan, Channel.coveredBlocks_eq, Channel.coveredBlocks_eq, hscoutBlock, Channel.windowBlocks, Channel.rewindScout_eq]
    rfl
  · rw [hchan]
    cases hk : (t.chan c).scout with
    | none => rw [Channel.rewindScout_none hk]; exact hplaced
    | some k =>
      obtain ⟨q, hq, hscout, -⟩ := Channel.rewindScout_some hk (by have := hplaced.room; omega)
      rw [Channel.rewindScout_eq]
      exact ⟨hplaced.ascending, fun j hj => by rw [hscout] at hj; cases hj; exact hq.1, hplaced.blocked, hplaced.pins,
        fun hclosed => absurd hclosed hlife, hplaced.room⟩
  · rw [hchan]
    cases k with
    | scout =>
      show _ = none ↔ _ = none
      rw [← Option.map_eq_none_iff (f := Scout.block), hscoutBlock, Option.map_eq_none_iff]
    | pin q => rw [Channel.rewindScout_eq]; exact Iff.rfl
  · rw [hchan, Channel.rewindScout_eq] at hq ⊢
    cases hprofile.symm.trans hq
    show (t.chan c).windows.length + 1 ≤ _
    rw [hlen]
    exact h.retrain_quota hp

end Sys2Proof.Machine
end

section
/-!
PROOFS. What it is for an act to keep the laws of the model's states (R177, R116, R1, R16, R24, R154, R144 to R148, R179),
and the acts that keep them for one reason.
-/

namespace Sys2Proof.Machine

/-! ## One channel -/

/-- The profiles of one channel are sound. -/
abbrev Channel.ProfilesSound (ch : Channel) : Prop :=
  (∀ p ∈ ch.profile, p.FieldsSound) ∧ (∀ p ∈ ch.staged.records, p.FieldsSound) ∧ ch.PendingSound

/-- A channel has a profile exactly while it is open (R130, R136). -/
abbrev Channel.ProfileHeld (ch : Channel) : Prop := ch.life = .closed ↔ ch.profile = none

/-- What an act keeps of one channel: its counters bytes, its profiles and its signal and gain in their ranges. -/
structure Channel.Keeps (a b : Channel) : Prop where
  counters : a.counters.bounded → b.counters.bounded
  held : a.ProfileHeld → b.ProfileHeld
  profiles : a.ProfilesSound → b.ProfilesSound
  signal : a.SignalSound → b.SignalSound
  gain : a.GainSound → b.GainSound

theorem Channel.Keeps.refl (ch : Channel) : ch.Keeps ch := ⟨id, id, id, id, id⟩

theorem Channel.Keeps.trans {a b c : Channel} (h : a.Keeps b) (h' : b.Keeps c) : a.Keeps c :=
  ⟨h'.counters ∘ h.counters, h'.held ∘ h.held, h'.profiles ∘ h.profiles, h'.signal ∘ h.signal, h'.gain ∘ h.gain⟩

/-- Two contexts alike in life, profile, staged slot, gain and pad. -/
structure Channel.SameService (a b : Channel) : Prop where
  life : b.life = a.life
  profile : b.profile = a.profile
  staged : b.staged = a.staged
  gain : b.gain = a.gain
  padIndex : b.padIndex = a.padIndex

theorem Channel.SameService.held {a b : Channel} (h : a.SameService b) (ha : a.ProfileHeld) : b.ProfileHeld := by
  rw [Channel.ProfileHeld, h.life, h.profile]
  exact ha

theorem Channel.SameService.profilesSound {a b : Channel} (h : a.SameService b) (ha : a.ProfilesSound) : b.ProfilesSound := by
  rw [Channel.ProfilesSound, Channel.PendingSound, h.profile, h.staged, h.life]
  exact ha

theorem Channel.SameService.gainSound {a b : Channel} (h : a.SameService b) (ha : a.GainSound) : b.GainSound := by
  rw [Channel.GainSound, h.profile, h.staged, h.gain, h.padIndex]
  exact ha

/-- An act that leaves the service of a channel alone keeps what it keeps of the counters and the signal. -/
theorem Channel.SameService.keeps {a b : Channel} (h : a.SameService b) (hcounters : a.counters.bounded → b.counters.bounded)
    (hsignal : a.SignalSound → b.SignalSound) : a.Keeps b :=
  ⟨hcounters, h.held, h.profilesSound, hsignal, h.gainSound⟩

/-- The placing of a channel is none of what an act keeps, but for the count of swaps. -/
theorem Channel.keeps_replant {ch : Channel} {x : Placing} (h : ch.placing.Tends x) : ch.Keeps (ch.replant x) :=
  Channel.SameService.keeps ⟨rfl, rfl, rfl, rfl, rfl⟩
    (fun ⟨hdt, hpath, hdiv, hswaps, htone, hclip⟩ => ⟨hdt, hpath, hdiv, h.swaps hswaps, htone, hclip⟩) id

/-- The counts of a channel with another placing. -/
theorem Channel.countsSound_replant {ch : Channel} {x : Placing} (h : ch.placing.Tends x) (hc : ch.CountsSound) :
    (ch.replant x).CountsSound := by
  obtain ⟨h1, h2, h3, h4, h5, h6, h7, h8, h9, h10, h11, h12, hscout, h14, h15⟩ := hc
  refine ⟨h1, h2, h3, h4, h5, h6, h7, h8, h9, h10, h11, h12, fun k hk => ?_, h14, h15⟩
  obtain ⟨hd, hdue⟩ | ⟨j, hj, hd, hdue⟩ := h.scout k hk
  · rw [hd, hdue]; exact ⟨Nat.zero_le _, rfl⟩
  · rw [hd, hdue]; exact hscout j hj

/-! ## The state -/

/-- An act keeps the laws of the states but for the running counts and the pool. -/
structure State.Keeps (s t : State) : Prop where
  counters : s.CountersBounded → t.CountersBounded
  held : s.ProfilesHeld → t.ProfilesHeld
  profiles : s.ProfilesSound → t.ProfilesSound
  signal : s.SignalSound → t.SignalSound
  taps : s.SignalSound → s.ProfilesSound → s.TapsSound → t.TapsSound
  gain : s.GainSound → t.GainSound
  maps : s.MapsSound → t.MapsSound
  port : s.PortSound → t.PortSound
  signature : s.SignatureSound → t.SignatureSound

theorem State.Keeps.refl (s : State) : s.Keeps s := ⟨id, id, id, id, fun _ _ => id, id, id, id, id⟩

theorem State.Keeps.trans {s t u : State} (h : s.Keeps t) (h' : t.Keeps u) : s.Keeps u :=
  ⟨h'.counters ∘ h.counters, h'.held ∘ h.held, h'.profiles ∘ h.profiles, h'.signal ∘ h.signal,
    fun hs hp ht => h'.taps (h.signal hs) (h.profiles hp) (h.taps hs hp ht), h'.gain ∘ h.gain, h'.maps ∘ h.maps,
    h'.port ∘ h.port, h'.signature ∘ h.signature⟩

/-- An act on the channels and the blocks: no channel opens, and a running signature's channel stays ACTIVE. -/
theorem State.Keeps.of_chans {s t : State} (hchan : ∀ d : Chan, (s.chan d).Keeps (t.chan d))
    (hopen : ∀ d : Chan, (t.chan d).life ≠ .closed → (s.chan d).life ≠ .closed)
    (hactive : s.sig.state = .running → (s.chan s.sig.channel).life = .active → (t.chan s.sig.channel).life = .active)
    (htaps : s.SignalSound → s.ProfilesSound → s.TapsSound → t.TapsSound)
    (hframe : t.law = s.law ∧ t.port = s.port ∧ t.sig = s.sig) : s.Keeps t := by
  obtain ⟨hlaw, hport, hsig⟩ := hframe
  refine ⟨fun ⟨hc, hp⟩ => ⟨fun d => (hchan d).counters (hc d), hport ▸ hp⟩, fun h d => (hchan d).held (h d),
    fun h d => (hchan d).profiles (h d), fun ⟨hl, hc⟩ => ⟨hlaw ▸ hl, fun d => (hchan d).signal (hc d)⟩, htaps,
    fun h d => (hchan d).gain (h d), fun ⟨hline, hexchange, hc⟩ => ?_, fun h => ?_, fun ⟨hr, hv, hrun⟩ => ?_⟩
  · rw [State.MapsSound, hport]
    exact ⟨hline, hexchange, fun c hc' => hc c (hopen c hc')⟩
  · rw [State.PortSound, hport]
    exact h
  · rw [State.SignatureSound, hsig]
    refine ⟨hr, hv, fun h => ?_⟩
    obtain ⟨hpos, hact⟩ := hrun h
    exact ⟨hpos, hactive h hact⟩

/-- The link and the queue of commands are none of these laws. -/
theorem State.Keeps.relinked {s t : State} (hchannels : t.channels = s.channels) (hblocks : t.blocks = s.blocks)
    (hframe : t.law = s.law ∧ t.port = s.port ∧ t.sig = s.sig) : s.Keeps t := by
  have hchan : ∀ d : Chan, t.chan d = s.chan d := fun d => by rw [State.chan, State.chan, hchannels]
  refine .of_chans (fun d => by rw [hchan]; exact .refl _) (fun d h => by rwa [hchan] at h) (fun _ h => by rwa [hchan])
    (fun _ _ h b => ?_) hframe
  have hblock : t.block b = s.block b := by rw [State.block, State.block, hblocks]
  rw [hblock]
  exact h b

/-- One channel changed, its life kept. -/
theorem State.Keeps.onChan {s : State} {c : Chan} {g : Channel → Channel} (hg : (s.chan c).Keeps (g (s.chan c)))
    (hlife : (g (s.chan c)).life = (s.chan c).life) : s.Keeps (s.onChan c g) := by
  have hlives : ∀ d : Chan, ((s.onChan c g).chan d).life = (s.chan d).life := fun d => by
    by_cases hd : d = c
    · rw [hd, State.onChan_chan_self, hlife]
    · rw [State.onChan_chan_of_ne _ _ hd]
  refine .of_chans (fun d => ?_) (fun d h => by rwa [hlives] at h) (fun _ h => by rwa [hlives]) (fun _ _ h => h) ⟨rfl, rfl, rfl⟩
  by_cases hd : d = c
  · rw [hd, State.onChan_chan_self]; exact hg
  · rw [State.onChan_chan_of_ne _ _ hd]; exact .refl _

theorem tapValue_zero : TapValue 0 := by decide

theorem tapsSound_zero : (List.replicate 32 (0 : Int)).length = 32 ∧ ∀ t ∈ List.replicate 32 (0 : Int), TapValue t :=
  ⟨List.length_replicate, fun t ht => by rw [List.eq_of_mem_replicate ht]; exact tapValue_zero⟩

/-- An act of placement and the pool keeps these laws. -/
theorem State.PlacesTidied.keeps {s t : State} (h : s.PlacesTidied t) : s.Keeps t := by
  refine .of_chans (fun d => ?_) (fun d hd => by rwa [h.life] at hd) (fun _ hd => by rwa [h.life]) (fun _ _ hs b => ?_)
    ⟨h.law, h.port, h.sig⟩
  · rw [h.chan d]
    exact Channel.keeps_replant (h.tends d)
  · obtain hb | hb := h.taps b
    · rw [hb]; exact hs b
    · rw [hb]; exact tapsSound_zero

theorem State.PlacesTidied.counts {s t : State} (h : s.PlacesTidied t) (hs : s.CountsSound) : t.CountsSound := fun d => by
  rw [h.chan d]
  exact Channel.countsSound_replant (h.tends d) (hs d)

theorem State.Keeps.raiseNotice (s : State) (u : Source) (k : NoticeKind) : s.Keeps (s.raiseNotice u k) :=
  (State.PlacesTidied.raiseNotice s u k).keeps

/-- The port changed, its maps kept. -/
theorem State.Keeps.onPort {s : State} {f : Port → Port} (hsound : s.port.Sound → (f s.port).Sound)
    (hcounters : s.port.countersBounded → (f s.port).countersBounded)
    (hline : (f s.port).lineMap = s.port.lineMap) (hexchange : (f s.port).exchangeMap = s.port.exchangeMap) :
    s.Keeps (s.onPort f) :=
  ⟨fun ⟨hc, hp⟩ => ⟨hc, hcounters hp⟩, id, id, id, fun _ _ => id, id, fun ⟨hl, he, hc⟩ => by
    rw [State.MapsSound]
    show (f s.port).lineMap.NamesOnce ∧ (f s.port).exchangeMap.NamesOnce ∧ ∀ c : Chan, (s.chan c).life ≠ .closed →
      (∃ n : Slot, (f s.port).lineMap[n.val] = some c) ∧ ∃ n : Slot, (f s.port).exchangeMap[n.val] = some c
    rw [hline, hexchange]
    exact ⟨hl, he, hc⟩, hsound, id⟩

/-- The law store changed. -/
theorem State.Keeps.onLaw {s : State} {f : LawStore → LawStore} (h : s.law.Linear → (f s.law).Linear) : s.Keeps (s.onLaw f) :=
  ⟨id, id, id, fun ⟨hl, hc⟩ => ⟨h hl, hc⟩, fun _ _ => id, id, id, id, id⟩

/-- The signature changed. -/
theorem State.Keeps.onSig {s : State} {f : Signature → Signature}
    (h : s.SignatureSound → (s.onSig f).SignatureSound) : s.Keeps (s.onSig f) :=
  ⟨id, id, id, id, fun _ _ => id, id, id, id, h⟩

/-! ## All the laws -/

/-- An act keeps all the laws of the states. -/
structure State.KeepsAll (s t : State) : Prop extends s.Keeps t where
  counts : s.CountsSound → t.CountsSound
  pool : s.PoolSound → t.PoolSound

theorem State.KeepsAll.refl (s : State) : s.KeepsAll s := ⟨.refl s, id, id⟩

theorem State.KeepsAll.trans {s t u : State} (h : s.KeepsAll t) (h' : t.KeepsAll u) : s.KeepsAll u :=
  ⟨h.toKeeps.trans h'.toKeeps, h'.counts ∘ h.counts, h'.pool ∘ h.pool⟩

/-- An act that touches neither channel nor block nor the wait list. -/
theorem State.Keeps.all {s t : State} (h : s.Keeps t) (hchan : ∀ d : Chan, t.chan d = s.chan d)
    (hblock : ∀ b : BlockNo, t.block b = s.block b) (hwait : t.wait = s.wait) : s.KeepsAll t :=
  ⟨h, fun hc d => by rw [hchan]; exact hc d, fun hp => hp.ofBlocks hchan (fun b => by rw [hblock]) hwait⟩

theorem State.KeepsAll.raiseNotice (s : State) (u : Source) (k : NoticeKind) : s.KeepsAll (s.raiseNotice u k) :=
  (State.Keeps.raiseNotice s u k).all (fun d => s.raiseNotice_chan u k d) (fun b => s.raiseNotice_block u k b)
    (s.raiseNotice_wait u k)

/-- The link and the queue of commands are none of these laws. -/
theorem State.KeepsAll.relinked {s t : State} (hchannels : t.channels = s.channels) (hblocks : t.blocks = s.blocks)
    (hwait : t.wait = s.wait) (hframe : t.law = s.law ∧ t.port = s.port ∧ t.sig = s.sig) : s.KeepsAll t :=
  (State.Keeps.relinked hchannels hblocks hframe).all (fun d => by rw [State.chan, State.chan, hchannels])
    (fun b => by rw [State.block, State.block, hblocks]) hwait

theorem State.KeepsAll.onPort {s : State} {f : Port → Port} (hsound : s.port.Sound → (f s.port).Sound)
    (hcounters : s.port.countersBounded → (f s.port).countersBounded)
    (hline : (f s.port).lineMap = s.port.lineMap) (hexchange : (f s.port).exchangeMap = s.port.exchangeMap) :
    s.KeepsAll (s.onPort f) :=
  (State.Keeps.onPort hsound hcounters hline hexchange).all (fun _ => rfl) (fun _ => rfl) rfl

/-- One channel changed, its places kept. -/
theorem State.KeepsAll.onChan {s : State} {c : Chan} {g : Channel → Channel} (hg : (s.chan c).Keeps (g (s.chan c)))
    (hroles : (s.chan c).SameRoles (g (s.chan c))) (hcounts : (s.chan c).CountsSound → (g (s.chan c)).CountsSound) :
    s.KeepsAll (s.onChan c g) :=
  ⟨.onChan hg hroles.life, fun h d => by
    by_cases hd : d = c
    · rw [hd, State.onChan_chan_self]; exact hcounts (h c)
    · rw [State.onChan_chan_of_ne _ _ hd]; exact h d, fun h => h.onChan hroles⟩

end Sys2Proof.Machine
end

section
/-!
PROOFS. The laws of the port (R144 to R151) and of the slot maps (R154) through the requests and the events of the port.
-/

namespace Sys2Proof.Machine

/-! ## The port's laws -/

/-- A port that is not clocked has neither a frame nor a pulse to await. -/
theorem Port.Sound.still {p : Port} (h : p.Sound) (hclocked : ¬(p.runState = .run ∧ p.clock = .ok)) :
    p.awaiting = false ∧ p.frame = none := by
  obtain ⟨-, -, hawaiting, hframe⟩ := h
  rw [← p.clocked_iff] at hclocked
  constructor
  · cases ha : p.awaiting with
    | false => rfl
    | true => exact absurd (hawaiting ha).2 hclocked
  · cases hf : p.frame with
    | none => rfl
    | some f =>
      obtain ⟨hr, hc, -⟩ := p.framing_iff.mp (hframe (by rw [hf]; rfl))
      exact absurd (p.clocked_iff.mpr ⟨hr, hc⟩) hclocked

/-- A port without a frame and without a pulse to await. -/
theorem Port.sound_of_still {p : Port} (hmode : p.mode = .master → p.sync = .locked) (hmissed : p.missed ≤ 4)
    (hawaiting : p.awaiting = false) (hframe : p.frame = none) : p.Sound :=
  ⟨hmode, hmissed, fun h => absurd (hawaiting.symm.trans h) Bool.false_ne_true, fun h => by simp [hframe] at h⟩

/-- A port that has just started to frame (R146). -/
theorem Port.sound_startFraming {p : Port} (hmode : p.mode = .master → p.sync = .locked) (hframe : p.frame = none)
    (hclocked : p.runState = .run ∧ p.clock = .ok) : p.startFraming.Sound :=
  ⟨hmode, Nat.zero_le 4, fun h => ⟨by simpa [Port.startFraming] using h, (Port.clocked_iff p).mpr hclocked⟩,
    fun h => by rw [show p.startFraming.frame = none from hframe] at h; cases h⟩

theorem sync_locked_of_ne {y : SyncState} (h : y ≠ .lost) : y = .locked := by
  cases y with
  | locked => rfl
  | lost => exact absurd rfl h

/-- Framing stops on a port changed in no more than its states (R145, R151). -/
theorem State.KeepsAll.stopFraming {s t : State} (hchannels : t.channels = s.channels) (hblocks : t.blocks = s.blocks)
    (hwait : t.wait = s.wait)
    (hlaw : t.law = s.law) (hsig : t.sig = s.sig)
    (hport : s.PortSound → (t.port.mode = .master → t.port.sync = .locked) ∧ t.port.missed ≤ 4)
    (hcounters : s.port.countersBounded → t.port.countersBounded)
    (hmaps : t.port.lineMap = s.port.lineMap ∧ t.port.exchangeMap = s.port.exchangeMap) : s.KeepsAll t.stopFraming := by
  obtain ⟨hline, hexchange⟩ := hmaps
  have hchan : ∀ d : Chan, t.stopFraming.chan d = (s.chan d).clearFresh := fun d => by
    show (t.channels.map Channel.clearFresh)[d.val] = _
    rw [Vector.getElem_map, hchannels]
    rfl
  have hblock : ∀ b : BlockNo, t.stopFraming.block b = s.block b := fun b => by
    show t.blocks[b.val] = _
    rw [hblocks]; rfl
  refine ⟨⟨fun ⟨hc, hp⟩ => ⟨fun d => ?_, hcounters hp⟩, fun h d => ?_, fun h d => ?_, fun ⟨hl, hc⟩ => ⟨hlaw ▸ hl, fun d => ?_⟩,
    fun _ _ h b => ?_, fun h d => ?_, fun ⟨hl, he, hc⟩ => ⟨?_, ?_, fun c hopen => ?_⟩, fun h => ?_, fun ⟨hr, hv, hrun⟩ => ?_⟩,
    fun h d => ?_, fun h => ?_⟩
  · rw [hchan]; exact hc d
  · rw [hchan]; exact h d
  · rw [hchan]; exact h d
  · rw [hchan]; exact hc d
  · rw [hblock]; exact h b
  · rw [hchan]; exact h d
  · show t.port.lineMap.NamesOnce
    rw [hline]; exact hl
  · show t.port.exchangeMap.NamesOnce
    rw [hexchange]; exact he
  · rw [hchan] at hopen
    show (∃ n : Slot, t.port.lineMap[n.val] = some c) ∧ ∃ n : Slot, t.port.exchangeMap[n.val] = some c
    rw [hline, hexchange]
    exact hc c hopen
  · obtain ⟨hmode, hmissed⟩ := hport h
    exact Port.sound_of_still hmode hmissed rfl rfl
  · rw [State.SignatureSound, show t.stopFraming.sig = s.sig from hsig]
    refine ⟨hr, hv, fun h => ?_⟩
    rw [hchan]
    exact hrun h
  · rw [hchan]; exact h d
  · exact h.sameRoles (fun d => by rw [hchan]; exact ⟨rfl, rfl, rfl, rfl, rfl⟩) (fun b => by rw [hblock]) hwait

/-! ## The events of the port -/

theorem bitClock_keeps (s : State) : s.KeepsAll (bitClock s) := by
  unfold bitClock
  split
  · exact .onPort id id rfl rfl
  · exact .refl s

/-- A channel whose fresh mark is cleared (R18). -/
theorem Channel.markSent_keeps (ch : Channel) (st : SigStream) : ch.Keeps (ch.markSent st) := by
  cases st <;> exact Channel.SameService.keeps ⟨rfl, rfl, rfl, rfl, rfl⟩ id id

theorem Channel.markSent_roles (ch : Channel) (st : SigStream) : ch.SameRoles (ch.markSent st) := by
  cases st <;> exact ⟨rfl, rfl, rfl, rfl, rfl⟩

theorem Channel.markSent_counts (ch : Channel) (st : SigStream) : ch.CountsSound → (ch.markSent st).CountsSound := by
  cases st <;> exact id

theorem Port.beginSlot_sound {p : Port} {f : Frame} (h : p.Sound) (hframing : p.framing = true) (hw : Highway) (n : Slot)
    (code : Option Byte) : (p.beginSlot f hw n code).Sound := by
  obtain ⟨hmode, hmissed, hawaiting, -⟩ := h
  cases hw <;> exact ⟨hmode, hmissed, hawaiting, fun _ => hframing⟩

theorem State.KeepsAll.beginSlot {s : State} (f : Frame) (hframing : s.port.framing = true) (h : Highway) (n : Slot)
    (code : Option Byte) : s.KeepsAll (s.onPort fun p => p.beginSlot f h n code) := by
  cases h <;> exact .onPort (fun hp => Port.beginSlot_sound hp hframing _ n code) id rfl rfl

theorem foldCode_lt (value : Nat) (code : Byte) : foldCode value code ≤ 65535 :=
  Nat.le_of_lt_succ (Nat.mod_lt _ (by decide))

/-- An act on the signature record and the link alone. -/
theorem State.KeepsAll.resigned {s t : State} (hchannels : t.channels = s.channels) (hblocks : t.blocks = s.blocks)
    (hwait : t.wait = s.wait) (hlaw : t.law = s.law) (hport : t.port = s.port)
    (hsig : s.SignatureSound → t.SignatureSound) : s.KeepsAll t := by
  have hchan : ∀ d : Chan, t.chan d = s.chan d := fun d => by rw [State.chan, State.chan, hchannels]
  have hblock : ∀ b : BlockNo, t.block b = s.block b := fun b => by rw [State.block, State.block, hblocks]
  refine State.Keeps.all ⟨fun ⟨hc, hp⟩ => ⟨fun d => ?_, hport ▸ hp⟩, fun h d => ?_, fun h d => ?_,
    fun ⟨hl, hc⟩ => ⟨hlaw ▸ hl, fun d => ?_⟩, fun _ _ h b => ?_, fun h d => ?_, fun ⟨hl, he, hc⟩ => ?_, fun h => ?_, hsig⟩
    hchan hblock hwait
  · rw [hchan]; exact hc d
  · rw [hchan]; exact h d
  · rw [hchan]; exact h d
  · rw [hchan]; exact hc d
  · rw [hblock]; exact h b
  · rw [hchan]; exact h d
  · rw [State.MapsSound, hport]
    exact ⟨hl, he, fun c hopen => hc c (by rwa [hchan] at hopen)⟩
  · rw [State.PortSound, hport]; exact h

/-- The signature's law but for a remaining count of 0 (R180). -/
structure State.SignatureNearly (s : State) : Prop where
  remaining : s.sig.remaining ≤ 65535
  value : s.sig.value ≤ 65535
  watches : s.sig.state = .running → (s.chan s.sig.channel).life = .active

/-- A run at remaining count 0 is DONE, and any other goes on (R180). -/
theorem State.SignatureNearly.complete {s : State} (h : s.SignatureNearly) : s.completeSignature.SignatureSound := by
  unfold State.completeSignature
  split
  · rw [State.portNotice_eq_raiseNotice]
    exact (State.KeepsAll.raiseNotice _ _ _).signature ⟨h.remaining, h.value, nofun⟩
  · next hno =>
    exact ⟨h.remaining, h.value, fun hrun => ⟨Nat.pos_of_ne_zero fun hzero => hno ⟨hrun, hzero⟩, h.watches hrun⟩⟩

theorem State.SignatureSound.nearly {s : State} (h : s.SignatureSound) : s.SignatureNearly :=
  ⟨h.1, h.2.1, fun hrun => (h.2.2 hrun).2⟩

theorem State.completeSignature_eq (s : State) :
    s.completeSignature = { s with link := s.completeSignature.link, sig := s.completeSignature.sig } := by
  unfold State.completeSignature
  split
  · rw [State.portNotice_eq_raiseNotice, State.raiseNotice_eq]; rfl
  · rfl

theorem State.completeSignature_keeps (s : State) : s.KeepsAll s.completeSignature := by
  refine .resigned ?_ ?_ ?_ ?_ ?_ fun h => h.nearly.complete
  all_goals rw [State.completeSignature_eq]

theorem State.watchSlot_keeps (s : State) (c : Chan) (st : SigStream) (fresh : Bool) (code : Byte) :
    s.KeepsAll (s.watchSlot c st fresh code) := by
  unfold State.watchSlot
  split
  · refine .resigned ?_ ?_ ?_ ?_ ?_ fun h => State.SignatureNearly.complete ?_
    · rw [State.completeSignature_eq]; rfl
    · rw [State.completeSignature_eq]; rfl
    · rw [State.completeSignature_eq]; rfl
    · rw [State.completeSignature_eq]; rfl
    · rw [State.completeSignature_eq]; rfl
    · exact ⟨le_trans (Nat.sub_le _ _) h.1, foldCode_lt _ _, fun hrun => (h.2.2 hrun).2⟩
  · exact .refl s

/-! ## The rows of the port -/

theorem frameBegin_keeps {s t : State} (h : execFrameBegin s = .next t) : s.KeepsAll t := by
  unfold execFrameBegin at h
  split at h
  · next hbegin =>
    cases h
    exact .onPort (fun ⟨hmode, hmissed, hawaiting, _⟩ => ⟨hmode, hmissed, hawaiting, fun _ => hbegin.1⟩) id rfl rfl
  · cases h; exact .refl s

theorem slotSent_keeps {s t : State} {h : Highway} {n : Slot} (he : execSlotSent h n s = .next t) : s.KeepsAll t := by
  unfold execSlotSent at he
  split at he
  · next f hframing _ =>
    split at he
    · cases he; exact .refl s
    · split at he
      · cases he; exact .beginSlot f hframing h n none
      · cases he
        exact ((State.KeepsAll.beginSlot f hframing h n _).trans
          (.onChan (Channel.markSent_keeps _ _) (Channel.markSent_roles _ _) (Channel.markSent_counts _ _))).trans (State.watchSlot_keeps _ _ _ _ _)
  · cases he; exact .refl s

theorem frameComplete_keeps {s t : State} (h : execFrameComplete s = .next t) : s.KeepsAll t := by
  unfold execFrameComplete at h
  split at h
  · cases h
    exact .onPort (fun ⟨hmode, hmissed, hawaiting, _⟩ => ⟨hmode, hmissed, hawaiting, nofun⟩) id rfl rfl
  · cases h; exact .refl s

theorem masterFramePulse_keeps {s t : State} (h : execMasterFramePulse s = .next t) : s.KeepsAll t := by
  unfold execMasterFramePulse at h
  split at h
  · cases h; exact .onPort id id rfl rfl
  · cases h; exact .refl s

/-- A clocked port aligned by a pulse (R146, R148). -/
theorem Port.align_sound {p : Port} (h : p.Sound) (hclocked : p.clocked = true) : p.align.Sound := by
  obtain ⟨hmode, -, -, -⟩ := h
  refine ⟨hmode, Nat.zero_le 4, nofun, fun _ => ?_⟩
  obtain ⟨hrun, hclock⟩ := p.clocked_iff.mp hclocked
  exact (p.align).framing_iff.mpr ⟨hrun, hclock, rfl⟩

theorem Port.cutFrame_sound {p : Port} (h : p.Sound) : p.cutFrame.Sound := by
  obtain ⟨hmode, hmissed, hawaiting, -⟩ := h
  exact ⟨hmode, hmissed, hawaiting, nofun⟩

theorem bump_le (n : Nat) : bump n ≤ 255 := Nat.min_le_left _ _

theorem framePulse_keeps {s t : State} {position : Byte} (h : execFramePulse position s = .next t) : s.KeepsAll t := by
  unfold execFramePulse at h
  split at h
  · next hclocked =>
    obtain ⟨hclocked, hslave⟩ := hclocked
    split at h
    · cases h
      unfold State.regain
      rw [State.portNotice_eq_raiseNotice]
      refine State.KeepsAll.trans (.onPort (fun hp => ?_) (fun hc => ?_) ?_ ?_) (.raiseNotice _ _ _)
      · split
        · obtain ⟨-, hmissed, hawaiting, hframe⟩ := Port.align_sound hp hclocked
          exact ⟨fun _ => rfl, hmissed, hawaiting, hframe⟩
        · obtain ⟨-, hmissed, hawaiting, hframe⟩ := Port.align_sound (Port.cutFrame_sound hp) hclocked
          exact ⟨fun _ => rfl, hmissed, hawaiting, hframe⟩
      · split <;> exact hc
      · split <;> rfl
      · split <;> rfl
    · split at h
      · cases h; exact .onPort (fun hp => Port.align_sound hp hclocked) id rfl rfl
      · cases h
        exact .onPort (fun hp => show s.port.cutFrame.align.Sound from Port.align_sound (Port.cutFrame_sound hp) hclocked)
          (fun ⟨_, hlosses, hbad, hgap, hover⟩ => ⟨bump_le _, hlosses, hbad, hgap, hover⟩) rfl rfl
  · cases h; exact .refl s

/-- A SLAVE port that loses sync (R149). -/
theorem State.loseSync_keeps {s : State} (hclocked : s.port.clocked = true) (hslave : s.port.mode = .slave) :
    s.KeepsAll s.loseSync := by
  unfold State.loseSync
  rw [State.portNotice_eq_raiseNotice]
  refine State.KeepsAll.trans (.onPort (f := fun p => { p.recordSyncLoss with sync := .lost, awaiting := false })
    (fun ⟨_, hmissed, _, _⟩ => ⟨fun hmaster => ?_, hmissed, nofun, fun _ => ?_⟩)
    (fun ⟨hslips, _, hbad, hgap, hover⟩ => ⟨hslips, bump_le _, hbad, hgap, hover⟩) rfl rfl) (.raiseNotice _ _ _)
  · rw [show s.port.mode = .master from hmaster] at hslave
    cases hslave
  · obtain ⟨hrun, hclock⟩ := s.port.clocked_iff.mp hclocked
    exact (Port.framing_iff _).mpr ⟨hrun, hclock, rfl⟩

theorem missedPulse_keeps {s t : State} (h : execMissedPulse s = .next t) : s.KeepsAll t := by
  unfold execMissedPulse at h
  split at h
  · next hclocked =>
    obtain ⟨hclocked, hslave⟩ := hclocked
    cases h
    refine State.KeepsAll.trans (.onPort (f := fun p => { p with position := 0x00#8, missed := min 4 (p.missed + 1) })
      (fun ⟨hmode, _, hawaiting, hframe⟩ => ⟨hmode, Nat.min_le_left _ _, hawaiting, hframe⟩) id rfl rfl) ?_
    unfold State.endMissedRun
    split
    · split
      · exact State.loseSync_keeps hclocked hslave
      · refine .onPort (fun ⟨hmode, hmissed, _, _⟩ => ⟨hmode, hmissed, nofun, fun _ => ?_⟩) id rfl rfl
        obtain ⟨hrun, hclock⟩ := s.port.clocked_iff.mp hclocked
        exact (Port.framing_iff _).mpr ⟨hrun, hclock, rfl⟩
    · exact .refl _
  · cases h; exact .refl s

theorem syncLoss_keeps {s t : State} (h : execSyncLoss s = .next t) : s.KeepsAll t := by
  unfold execSyncLoss at h
  split at h
  · next hclocked =>
    cases h
    exact State.loseSync_keeps hclocked.1 hclocked.2.1
  · cases h; exact .refl s

theorem clockLoss_keeps {s t : State} (h : execClockLoss s = .next t) : s.KeepsAll t := by
  unfold execClockLoss at h
  split at h
  · cases h
    rw [State.portNotice_eq_raiseNotice]
    split
    · refine .stopFraming ?_ ?_ ?_ ?_ ?_ (fun ⟨hmode, hmissed, _, _⟩ => ?_) (fun hc => ?_) ?_ <;> rw [State.raiseNotice_eq]
      · rfl
      · rfl
      · rfl
      · rfl
      · rfl
      · exact ⟨hmode, hmissed⟩
      · exact hc
      · exact ⟨rfl, rfl⟩
    · next hrun =>
      refine State.KeepsAll.trans (.onPort (fun hp => ?_) id rfl rfl) (.raiseNotice _ _ _)
      have hhold : s.port.runState ≠ .run := hrun
      obtain ⟨hawaiting, hframe⟩ := hp.still fun hboth => hhold hboth.1
      exact Port.sound_of_still hp.1 hp.2.1 hawaiting hframe
  · cases h; exact .refl s

theorem clockReturn_keeps {s t : State} (h : execClockReturn s = .next t) : s.KeepsAll t := by
  unfold execClockReturn at h
  split at h
  · next hlost =>
    cases h
    rw [State.portNotice_eq_raiseNotice]
    have hstill : ¬(s.port.runState = .run ∧ s.port.clock = .ok) := fun hboth => by
      rw [hlost] at hboth
      cases hboth.2
    split
    · next hrun =>
      rw [State.raiseNotice_eq]
      refine State.KeepsAll.trans (t := (s.onPort fun p => { p with clock := .ok }).onPort Port.startFraming) ?_
        (.relinked rfl rfl rfl ⟨rfl, rfl, rfl⟩)
      show s.KeepsAll (s.onPort fun p => Port.startFraming { p with clock := .ok })
      refine .onPort (fun hp => ?_) id rfl rfl
      obtain ⟨-, hframe⟩ := hp.still hstill
      exact Port.sound_startFraming hp.1 hframe ⟨hrun, rfl⟩
    · refine State.KeepsAll.trans (.onPort (fun hp => ?_) id rfl rfl) (.raiseNotice _ _ _)
      obtain ⟨hawaiting, hframe⟩ := hp.still hstill
      exact Port.sound_of_still hp.1 hp.2.1 hawaiting hframe
  · cases h; exact .refl s

end Sys2Proof.Machine
end

section
/-!
PROOFS. The laws of the states through the owners of the catalogue's requests (section 10.5) and RESTART (R168).
-/

namespace Sys2Proof.Machine

/-! ## The law store -/

theorem Vector.forall_mem_set {α : Type} {n : Nat} {P : α → Prop} {v : Vector α n} (h : ∀ a ∈ v.toList, P a) {i : Nat}
    (hi : i < n) {a : α} (ha : P a) : ∀ b ∈ (v.set i a).toList, P b := by
  intro b hb
  rw [Vector.toList_set] at hb
  obtain hb | rfl := List.mem_or_eq_of_mem_set hb
  · exact h b hb
  · exact ha

theorem LoadBuffer.store_linear {b : LoadBuffer} (h : ∀ q ∈ b.quarters.toList, ∀ vs ∈ q, ∀ v ∈ vs, Linear v)
    (t : TableName) (q : Fin 4) {values : List Int} (hv : ∀ v ∈ values, Linear v) :
    ∀ q' ∈ (b.store t q values).quarters.toList, ∀ vs ∈ q', ∀ v ∈ vs, Linear v := by
  unfold LoadBuffer.store
  refine Vector.forall_mem_set ?_ q.isLt fun vs hvs => ?_
  · split
    · exact h
    · exact LoadBuffer.empty_linear
  · cases hvs; exact hv

theorem LoadBuffer.complete_linear {b : LoadBuffer} (h : ∀ q ∈ b.quarters.toList, ∀ vs ∈ q, ∀ v ∈ vs, Linear v)
    {entries : List Int} (hc : b.complete = some entries) : ∀ v ∈ entries, Linear v := by
  have hquarter : ∀ (i : Nat) (hi : i < 4) (vs : List Int), b.quarters[i] = some vs → ∀ v ∈ vs, Linear v :=
    fun i hi vs hvs => h _ (Vector.mem_toList_iff.mpr (Vector.getElem_mem hi)) vs hvs
  unfold LoadBuffer.complete at hc
  split at hc
  · next h0 h1 h2 h3 =>
    cases hc
    intro v hv
    simp only [List.mem_append] at hv
    obtain ((hv | hv) | hv) | hv := hv
    · exact hquarter 0 _ _ h0 v hv
    · exact hquarter 1 _ _ h1 v hv
    · exact hquarter 2 _ _ h2 v hv
    · exact hquarter 3 _ _ h3 v hv
  · cases hc

theorem LawStore.setTable_linear {l : LawStore} (h : l.Linear) (t : TableName) {k : LawTable} (hk : ∀ v ∈ k.entries, Machine.Linear v) :
    ({ l.setTable t k with buffer := .empty } : LawStore).Linear := by
  obtain ⟨ha, hb, -⟩ := h
  cases t with
  | a => exact ⟨hk, hb, LoadBuffer.empty_linear⟩
  | b => exact ⟨ha, hk, LoadBuffer.empty_linear⟩

/-! ## OPEN -/

theorem openGain_bounds {p : Profile} (h : p.LevelsSound) :
    openGain p ≤ 48 ∧ (p.alcOn = true → p.gmin ≤ openGain p ∧ openGain p ≤ p.gmax) := by
  obtain ⟨hlimits, hmax, hfixed, -⟩ := h
  unfold openGain clampNat
  split
  · refine ⟨by omega, fun _ => by omega⟩
  · next hoff => exact ⟨hfixed, fun hon => absurd hon hoff⟩

theorem ring_zero_linear : ∀ v ∈ List.replicate 2048 (0 : Int), Linear v := fun v hv => by
  rw [List.eq_of_mem_replicate hv]; decide

theorem Staged.not_mem_empty {st : Staged} (h : st = .empty) (p : Profile) : p ∉ st.records := by
  rw [h]; exact List.not_mem_nil

/-- With an EMPTY slot the profile alone is to be sound. -/
theorem Channel.profilesSound_of_empty {ch : Channel} (hempty : ch.staged = .empty) (h : ∀ p ∈ ch.profile, p.FieldsSound) :
    ch.ProfilesSound := by
  refine ⟨h, fun p hp => absurd hp (Staged.not_mem_empty hempty p), fun p hp => ?_⟩
  rw [hempty] at hp
  exact absurd hp (Option.not_mem_none p)

theorem Channel.gainSound_of_empty {ch : Channel} (hempty : ch.staged = .empty) (hgain : ch.gain ≤ 48) (hpad : ch.padIndex ≤ 48)
    (h : ∀ p ∈ ch.profile, p.LevelsSound ∧ (p.alcOn = true → p.gmin ≤ ch.gain ∧ ch.gain ≤ p.gmax)) : ch.GainSound :=
  ⟨hgain, hpad, h, fun p hp => absurd hp (Staged.not_mem_empty hempty p)⟩

/-- A context that takes a staged record as its profile, with the open values of gain and pad (R116, R130). -/
theorem Channel.Keeps.takes {a b : Channel} {p : Profile} (hstaged : p ∈ a.staged.records) (hlife : b.life ≠ .closed)
    (hprofile : b.profile = some p) (hempty : b.staged = .empty) (hcounters : b.counters = a.counters) (hsignal : b.SignalSound)
    (hgain : b.gain = openGain p) (hpad : b.padIndex = p.padIndex) : a.Keeps b where
  counters h := hcounters ▸ h
  held _ := ⟨fun h => absurd h hlife, fun h => by rw [hprofile] at h; cases h⟩
  profiles h := Channel.profilesSound_of_empty hempty fun q hq => by
    rw [hprofile] at hq
    exact Option.some.inj hq ▸ h.2.1 p hstaged
  signal _ := hsignal
  gain h := by
    have hp := h.2.2.2 p hstaged
    obtain ⟨hle, hwithin⟩ := openGain_bounds hp
    refine Channel.gainSound_of_empty hempty (hgain ▸ hle) (hpad ▸ hp.2.2.2) fun q hq => ?_
    rw [hprofile] at hq
    rw [hgain]
    exact Option.some.inj hq ▸ ⟨hp, hwithin⟩

/-- The signal values a channel opens with (R130). -/
theorem Channel.openValues_signalSound (ch : Channel) (c : Chan) (p : Profile) (lineIdle exchangeIdle : Byte) :
    (ch.openValues c p lineIdle exchangeIdle).SignalSound := by
  unfold Channel.openValues
  refine ⟨List.length_replicate, ring_zero_linear, Nat.zero_le _, Nat.zero_le _, Nat.zero_le _, Nat.zero_le _, Nat.zero_le _,
    Nat.le_add_left 1 _, ?_⟩
  show c.val + 1 ≤ 32767
  omega

theorem State.opened_keeps {s : State} {c : Chan} {p : Profile} (hclosed : (s.chan c).life = .closed)
    (hstaged : (s.chan c).staged = .staged p) (hmapped : s.Mapped c) : s.Keeps (s.opened c p) := by
  have hself := s.opened_chan_self c p
  have hothers : ∀ d : Chan, d ≠ c → (s.opened c p).chan d = s.chan d := fun d hd => s.opened_chan_of_ne p hd
  have hkeeps : (s.chan c).Keeps ((s.opened c p).chan c) := by
    have hsignal := Channel.openValues_signalSound (({ s.chan c with profile := some p, staged := .empty } : Channel).placeFirst p
      (s.freeBlocks.take (firstBlocks p))) c p (s.law.table p.lineLaw).idleCode (s.law.table p.exchangeLaw).idleCode
    refine .takes (p := p) ?_ ?_ ?_ ?_ ?_ ?_ ?_ ?_
    · rw [hstaged]; exact List.mem_singleton_self p
    all_goals rw [hself]
    · nofun
    · rfl
    · rfl
    · rfl
    · exact hsignal
    · rfl
    · rfl
  have hchan : ∀ d : Chan, (s.chan d).Keeps ((s.opened c p).chan d) := fun d => by
    by_cases hd : d = c
    · rw [hd]; exact hkeeps
    · rw [hothers d hd]; exact .refl _
  have hframe : (s.opened c p).law = s.law ∧ (s.opened c p).port = s.port ∧ (s.opened c p).sig = s.sig := by
    rw [State.opened, State.handoverAll_eq]; exact ⟨rfl, rfl, rfl⟩
  obtain ⟨hlaw, hport, hsig⟩ := hframe
  refine ⟨fun ⟨hc, hp⟩ => ⟨fun d => (hchan d).counters (hc d), hport ▸ hp⟩, fun h d => (hchan d).held (h d),
    fun h d => (hchan d).profiles (h d), fun ⟨hl, hc⟩ => ⟨hlaw ▸ hl, fun d => (hchan d).signal (hc d)⟩, fun _ _ h b => ?_,
    fun h d => (hchan d).gain (h d), fun ⟨hl, he, hc⟩ => ?_, fun h => ?_, fun ⟨hr, hv, hrun⟩ => ?_⟩
  · rw [State.opened, State.onChan_block, State.handoverAll_block]
    split
    · exact tapsSound_zero
    · exact h b
  · rw [State.MapsSound, hport]
    refine ⟨hl, he, fun d hopen => ?_⟩
    by_cases hd : d = c
    · rw [hd]; exact hmapped
    · rw [hothers d hd] at hopen; exact hc d hopen
  · rw [State.PortSound, hport]; exact h
  · rw [State.SignatureSound, hsig]
    refine ⟨hr, hv, fun h => ?_⟩
    obtain ⟨hpos, hactive⟩ := hrun h
    refine ⟨hpos, ?_⟩
    rw [hothers _ fun heq => by rw [heq, hclosed] at hactive; cases hactive]
    exact hactive

/-! ## CLOSE -/

/-- A channel that no running signature watches is taken out of service (R136). -/
theorem State.retire_keeps {s : State} {c : Chan} (hempty : (s.chan c).staged = .empty)
    (hunwatched : ¬(s.sig.state = .running ∧ s.sig.channel = c)) : s.Keeps (s.onChan c Channel.retire) := by
  have hself : (s.chan c).Keeps (s.chan c).retire := by
    have hnone : ∀ p : Profile, p ∉ (s.chan c).retire.profile := fun p => Option.not_mem_none p
    exact ⟨id, fun _ => ⟨fun _ => rfl, fun _ => rfl⟩,
      fun _ => Channel.profilesSound_of_empty hempty fun p hp => absurd hp (hnone p), id,
      fun ⟨hgain, hpad, _, _⟩ => Channel.gainSound_of_empty hempty hgain hpad fun p hp => absurd hp (hnone p)⟩
  refine .of_chans (fun d => ?_) (fun d h => ?_) (fun hrun h => ?_) (fun _ _ h => h) ⟨rfl, rfl, rfl⟩
  · by_cases hd : d = c
    · rw [hd, State.onChan_chan_self]; exact hself
    · rw [State.onChan_chan_of_ne _ _ hd]; exact .refl _
  · by_cases hd : d = c
    · rw [hd, State.onChan_chan_self] at h; exact absurd rfl h
    · rwa [State.onChan_chan_of_ne _ _ hd] at h
  · rwa [State.onChan_chan_of_ne _ _ fun hd => hunwatched ⟨hrun, hd⟩]

theorem State.abortSignature_keeps (s : State) (c : Chan) : s.KeepsAll (s.abortSignature c) := by
  have heq := s.abortSignature_eq c
  refine .resigned (by rw [heq]) (by rw [heq]) (by rw [heq]) (by rw [heq]) (by rw [heq]) fun ⟨hr, hv, hrun⟩ => ?_
  unfold State.abortSignature
  split
  · rw [State.portNotice_eq_raiseNotice]
    exact (State.KeepsAll.raiseNotice _ _ _).signature ⟨hr, hv, nofun⟩
  · exact ⟨hr, hv, hrun⟩

theorem State.abortSignature_unwatches (s : State) (c : Chan) :
    ¬((s.abortSignature c).sig.state = .running ∧ (s.abortSignature c).sig.channel = c) := by
  unfold State.abortSignature
  split
  · rw [State.portNotice_eq_raiseNotice, State.raiseNotice_sig]
    rintro ⟨hrun, -⟩
    cases hrun
  · next h => exact h

theorem State.closeSteps_keeps (s : State) (c : Chan) : s.Keeps (s.closeSteps c) := by
  rw [State.closeSteps_eq]
  have hcleared : s.Keeps (s.cleared c) := by
    refine State.Keeps.trans (.onChan (g := fun ch => { ch with staged := .empty, windows := [], scout := none }) ?_ rfl)
      (State.PlacesTidied.withWait _ _).keeps
    exact ⟨id, id, fun ⟨hp, _, _⟩ => Channel.profilesSound_of_empty rfl hp, id,
      fun ⟨hg, hpad, hp, _⟩ => Channel.gainSound_of_empty rfl hg hpad hp⟩
  refine ((hcleared.trans (State.PlacesTidied.returnBlocks (s.cleared c) (s.heldBlocks c)).keeps).trans
    (State.abortSignature_keeps (s.vacated c) c).toKeeps).trans ?_
  refine State.retire_keeps ?_ (State.abortSignature_unwatches _ c)
  rw [State.abortSignature_chan]
  exact congrArg Channel.staged (s.vacated_chan_self c)

/-! ## RETRAIN -/

theorem Channel.rewindScout_tends (ch : Channel) : ch.placing.Tends ch.rewindScout.placing := by
  cases hk : ch.scout with
  | none => rw [Channel.rewindScout_none hk]; exact .kept rfl rfl
  | some k => simp only [Channel.rewindScout, hk]; exact .fresh rfl id

theorem State.PlacesTidied.retrainPlacement (s : State) (c : Chan) (p : Profile) :
    s.PlacesTidied (s.retrainPlacement c p) := by
  unfold State.retrainPlacement
  extract_lets s1 freed s2 s3
  have h1 : s.PlacesTidied s1 := .zeroHeldTaps s c
  have h2 : s.PlacesTidied s2 := h1.trans (.onChan s1 c (fun ch => rfl) fun ch => .kept rfl rfl)
  have hreplace : ∀ (t : State) (b : BlockNo), t.PlacesTidied (t.onChan c fun ch => ch.replaceFound p b) := fun t b =>
    .onChan t c (fun ch => rfl) fun ch => .kept rfl rfl
  have h3 : s.PlacesTidied s3 := by
    show s.PlacesTidied (if p.pins = [] then _ else _)
    split
    · cases freed with
      | cons b rest => exact (h2.trans (hreplace s2 b)).trans (.returnBlocks _ rest)
      | nil =>
        cases hfree : s2.freeBlocks with
        | cons b rest => exact (h2.trans (.handover s2 b c)).trans (hreplace _ b)
        | nil => exact h2
    · exact h2.trans (.returnBlocks s2 freed)
  exact h3.trans (.onChan s3 c (fun ch => by rw [Channel.rewindScout_eq]; rfl) Channel.rewindScout_tends)

/-! ## APPLY -/

/-- The gain a new profile gives is within its limits (R121). -/
theorem Channel.takeProfile_gain {ch : Channel} (old : Profile) {new : Profile} (hgain : ch.gain ≤ 48) (h : new.LevelsSound) :
    (ch.takeProfile old new).gain ≤ 48 ∧
      (new.alcOn = true → new.gmin ≤ (ch.takeProfile old new).gain ∧ (ch.takeProfile old new).gain ≤ new.gmax) := by
  obtain ⟨hlimits, hmax, hfixed, -⟩ := h
  rw [Channel.takeProfile_eq]
  dsimp only
  split
  · exact ⟨by omega, fun _ => by omega⟩
  · next hoff => exact ⟨hfixed, fun hon => absurd hon hoff⟩

theorem Channel.takeProfile_keeps {ch : Channel} {old new : Profile} (hactive : ch.life = .active)
    (hstaged : ch.staged = .staged new ∨ ch.staged = .pending new) : ch.Keeps (ch.takeProfile old new) := by
  have hmem : new ∈ ch.staged.records := by
    obtain hs | hs := hstaged <;> rw [hs] <;> exact List.mem_singleton_self new
  refine ⟨id, fun _ => ⟨fun hc => ?_, nofun⟩, fun ⟨_, hrecords, _⟩ => ⟨fun q hq => ?_, hrecords, fun q hq => ⟨hactive, fun p hp => ?_⟩⟩,
    id, fun ⟨hg, _, _, hlevels⟩ => ?_⟩
  · have : ch.life = .closed := hc
    rw [hactive] at this
    cases this
  · exact Option.some.inj hq ▸ hrecords new hmem
  · obtain rfl := Option.some.inj hp
    obtain hs | hs := hstaged
    · rw [show (ch.takeProfile old new).staged = .staged new from hs] at hq
      cases hq
    · rw [show (ch.takeProfile old new).staged = .pending new from hs] at hq
      cases hq
      exact ⟨rfl, rfl⟩
  · obtain ⟨hle, hwithin⟩ := Channel.takeProfile_gain old hg (hlevels new hmem)
    exact ⟨hle, (hlevels new hmem).2.2.2, fun q hq => Option.some.inj hq ▸ ⟨hlevels new hmem, hwithin⟩, hlevels⟩

theorem Channel.clearStaged_keeps (ch : Channel) : ch.Keeps { ch with staged := .empty } :=
  ⟨id, id, fun ⟨hp, _, _⟩ => Channel.profilesSound_of_empty rfl hp, id,
    fun ⟨hg, hpad, hp, _⟩ => Channel.gainSound_of_empty rfl hg hpad hp⟩

/-- An apply that takes effect on an ACTIVE channel (R135). -/
theorem State.applyTakesEffect_keeps {s : State} {c : Chan} {new : Profile} (hactive : (s.chan c).life = .active)
    (hstaged : (s.chan c).staged = .staged new ∨ (s.chan c).staged = .pending new) : s.Keeps (s.applyTakesEffect c new) := by
  unfold State.applyTakesEffect
  dsimp only
  rw [State.chanNotice_eq_raiseNotice]
  refine (((State.Keeps.onChan (Channel.takeProfile_keeps (old := ((s.chan c).profile).getD new) hactive hstaged) rfl).trans
    (State.PlacesTidied.reduceQuota _ c _ _).keeps).trans (.onChan (Channel.clearStaged_keeps _) rfl)).trans (.raiseNotice _ _ _)

/-! ## The running counts -/

theorem Channel.opened_counts (ch : Channel) (c : Chan) (p : Profile) (bs : List BlockNo) (lineIdle exchangeIdle : Byte)
    (h : ch.CountsSound) :
    Channel.CountsSound { ((({ ch with profile := some p, staged := .empty } : Channel)).placeFirst p bs).openValues c p lineIdle
      exchangeIdle with life := .opening, openingCount := 0 } := by
  obtain ⟨-, -, -, -, -, -, -, -, -, -, -, -, -, -, hsample⟩ := h
  refine ⟨Nat.zero_le _, ⟨nofun, nofun⟩, Nat.zero_le _, Nat.succ_pos 2047, Nat.succ_pos 511, Nat.succ_pos 1023, Nat.zero_le _,
    ⟨Nat.le_add_left 1 _, ?_⟩, Nat.succ_pos 3199, Nat.succ_pos 3199, Nat.zero_le _, Nat.zero_le _, fun k hk => ?_, fun _ q _ => ?_, hsample⟩
  · show c.val + 1 ≤ 32767
    omega
  · obtain ⟨b, -, rfl⟩ := Option.map_eq_some_iff.mp hk
    exact ⟨Nat.zero_le _, rfl⟩
  · show 0 < 32 * q.bulk + 1024
    omega

theorem State.opened_counts {s : State} (c : Chan) (p : Profile) (h : s.CountsSound) : (s.opened c p).CountsSound := fun d => by
  by_cases hd : d = c
  · rw [hd, s.opened_chan_self]
    exact Channel.opened_counts _ c p _ _ _ (h c)
  · rw [s.opened_chan_of_ne p hd]
    exact h d

/-- The counts of a channel that is not OPENING, with its scout kept. -/
theorem Channel.CountsSound.settled {a b : Channel} (h : a.CountsSound) (hopening : b.life ≠ .opening)
    (hsame : b = { a with
      life := b.life, profile := b.profile, staged := b.staged, frozen := b.frozen, padIndex := b.padIndex, gain := b.gain
      periodCount := b.periodCount, releaseCount := b.releaseCount })
    (hperiod : b.periodCount ≤ 127) (hrelease : b.releaseCount ≤ 3) : b.CountsSound := by
  obtain ⟨h1, h2, h3, h4, h5, h6, h7, h8, h9, h10, -, -, h13, -, h15⟩ := h
  have hvacuous : b.life = .opening → ∀ p ∈ b.profile, b.openingCount < 32 * p.bulk + 1024 := fun hl => absurd hl hopening
  rw [hsame] at hperiod hrelease hvacuous ⊢
  exact ⟨h1, h2, h3, h4, h5, h6, h7, h8, h9, h10, hperiod, hrelease, h13, hvacuous, h15⟩

theorem Channel.CountsSound.alc {ch : Channel} (h : ch.CountsSound) : ch.periodCount ≤ 127 ∧ ch.releaseCount ≤ 3 := by
  obtain ⟨-, -, -, -, -, -, -, -, -, -, hperiod, hrelease, -⟩ := h
  exact ⟨hperiod, hrelease⟩

theorem Channel.retire_counts {ch : Channel} (h : ch.CountsSound) : ch.retire.CountsSound :=
  h.settled nofun rfl h.alc.1 h.alc.2

theorem Channel.takeProfile_counts {ch : Channel} (old new : Profile) (hactive : ch.life = .active) (h : ch.CountsSound) :
    (ch.takeProfile old new).CountsSound := by
  obtain ⟨hperiod, hrelease⟩ := h.alc
  have hlife : (ch.takeProfile old new).life = .active := hactive
  refine h.settled (by rw [hlife]; nofun) rfl ?_ ?_
  · rw [Channel.takeProfile_eq]
    dsimp only
    split
    · exact hperiod
    · exact Nat.zero_le _
  · rw [Channel.takeProfile_eq]
    dsimp only
    split
    · exact hrelease
    · exact Nat.zero_le _

theorem State.counts_onChan {s : State} {c : Chan} {g : Channel → Channel}
    (hg : (s.chan c).CountsSound → (g (s.chan c)).CountsSound) (h : s.CountsSound) : (s.onChan c g).CountsSound := fun d => by
  by_cases hd : d = c
  · rw [hd, State.onChan_chan_self]; exact hg (h c)
  · rw [State.onChan_chan_of_ne _ _ hd]; exact h d

theorem State.closeSteps_counts (s : State) (c : Chan) (h : s.CountsSound) : (s.closeSteps c).CountsSound := by
  have hcleared : (s.cleared c).CountsSound := State.counts_onChan (s := s) (c := c)
    (g := fun ch => { ch with staged := .empty, windows := [], scout := none })
    (fun ⟨h1, h2, h3, h4, h5, h6, h7, h8, h9, h10, h11, h12, _, h14, h15⟩ =>
      ⟨h1, h2, h3, h4, h5, h6, h7, h8, h9, h10, h11, h12, fun k hk => absurd hk (Option.not_mem_none k), h14, h15⟩) h
  rw [State.closeSteps_eq]
  exact State.counts_onChan Channel.retire_counts ((State.abortSignature_keeps _ c).counts
    ((State.PlacesTidied.returnBlocks (s.cleared c) (s.heldBlocks c)).counts hcleared))

theorem Channel.acquire_counts {ch : Channel} (h : ch.CountsSound) : ch.acquire.CountsSound := by
  obtain ⟨h1, h2, h3, -, -, -, h7, h8, h9, h10, h11, h12, h13, h14, h15⟩ := h
  exact ⟨h1, h2, h3, Nat.succ_pos 2047, Nat.succ_pos 511, Nat.succ_pos 1023, h7, h8, h9, h10, h11, h12, h13, h14, h15⟩

theorem State.applyTakesEffect_counts {s : State} {c : Chan} (new : Profile) (hactive : (s.chan c).life = .active)
    (h : s.CountsSound) : (s.applyTakesEffect c new).CountsSound := by
  unfold State.applyTakesEffect
  dsimp only
  rw [State.chanNotice_eq_raiseNotice]
  refine (State.KeepsAll.raiseNotice _ _ _).counts (State.counts_onChan id ?_)
  exact (State.PlacesTidied.reduceQuota _ c _ _).counts
    (State.counts_onChan (Channel.takeProfile_counts (((s.chan c).profile).getD new) new hactive) h)

/-! ## All the laws -/

theorem State.opened_keepsAll {s : State} {c : Chan} {p : Profile} (hclosed : (s.chan c).life = .closed)
    (hstaged : (s.chan c).staged = .staged p) (hmapped : s.Mapped c) (hfree : firstBlocks p ≤ s.freeBlocks.length) :
    s.KeepsAll (s.openWith c p) :=
  State.KeepsAll.trans ⟨State.opened_keeps hclosed hstaged hmapped, State.opened_counts c p,
    fun h => h.opened hclosed hstaged hfree⟩ (.raiseNotice _ _ _)

theorem State.closeSteps_keepsAll (s : State) (c : Chan) : s.KeepsAll (s.closeSteps c) :=
  ⟨s.closeSteps_keeps c, s.closeSteps_counts c, fun h => h.closeSteps c⟩

theorem State.retrained_keepsAll {s : State} {c : Chan} {p : Profile} (hactive : (s.chan c).life = .active)
    (hprofile : (s.chan c).profile = some p) : s.KeepsAll (s.retrained c p) := by
  have hopen : (s.chan c).life ≠ .closed := by rw [hactive]; nofun
  have hplaced : s.KeepsAll ((s.retrainPlacement c p).onChan c Channel.acquire) :=
    State.KeepsAll.trans ⟨(State.PlacesTidied.retrainPlacement s c p).keeps, (State.PlacesTidied.retrainPlacement s c p).counts,
      fun h => h.retrainPlacement hprofile hopen⟩
      (.onChan (Channel.SameService.keeps ⟨rfl, rfl, rfl, rfl, rfl⟩ id id) ⟨rfl, rfl, rfl, rfl, rfl⟩ Channel.acquire_counts)
  unfold State.retrained
  split
  · exact hplaced.trans (.raiseNotice _ _ _)
  · exact hplaced

theorem State.applyTakesEffect_keepsAll {s : State} {c : Chan} {old new : Profile} (hactive : (s.chan c).life = .active)
    (hprofile : (s.chan c).profile = some old) (hstaged : (s.chan c).staged = .staged new ∨ (s.chan c).staged = .pending new)
    (hpins : s.PoolSound → new.pins = old.pins) : s.KeepsAll (s.applyTakesEffect c new) :=
  ⟨State.applyTakesEffect_keeps hactive hstaged, State.applyTakesEffect_counts new hactive,
    fun h => h.applyTakesEffect hactive hprofile hstaged (hpins h)⟩

/-- A staged slot changed: the places are kept (R127, R133). -/
theorem State.restaged_keepsAll {s : State} {c : Chan} {st : Staged}
    (hkeeps : (s.chan c).Keeps { s.chan c with staged := st }) : s.KeepsAll (s.onChan c fun ch => { ch with staged := st }) := by
  refine ⟨.onChan hkeeps rfl, State.counts_onChan id, fun h => ?_⟩
  have hkeep : s.Keeps (s.onChan c fun ch => { ch with staged := st }) := .onChan hkeeps rfl
  refine h.same (fun d => ?_) (fun _ => rfl) rfl (hkeep.profiles h.profilesSound) fun d => ?_
  · by_cases hd : d = c
    · rw [hd, State.onChan_chan_self]; exact ⟨Iff.rfl, rfl, rfl⟩
    · rw [State.onChan_chan_of_ne _ _ hd]; exact .refl _
  · by_cases hd : d = c
    · rw [hd, State.onChan_chan_self]
    · rw [State.onChan_chan_of_ne _ _ hd]

/-- The tests of blocks that a channel holds (R26, R71). -/
theorem State.testBlocks_keepsAll {s : State} {c : Chan} {ks : List (Pos × BlockNo)}
    (hheld : s.PoolSound → (ks.map Prod.snd).Nodup ∧ ∀ k ∈ ks, (s.block k.2).condition = .held c) :
    s.KeepsAll (s.testBlocks c ks) :=
  ⟨(State.PlacesTidied.testBlocks s c ks).keeps, (State.PlacesTidied.testBlocks s c ks).counts,
    fun h => h.testBlocks (hheld h).1 (hheld h).2⟩

theorem State.testCovered_keepsAll (s : State) (c : Chan) : s.KeepsAll (s.testBlocks c (s.chan c).covered) :=
  State.testBlocks_keepsAll fun h => ⟨(h.holders c).1, fun k hk => ((h.holders c).2 k.2).mpr (List.mem_map_of_mem hk)⟩

end Sys2Proof.Machine
end

section
/-!
PROOFS. The owners of the catalogue's requests keep the laws of the states (section 10.5).
-/

namespace Sys2Proof.Machine

/-! ## The slot maps -/

theorem SlotMap.getElem_set (m : SlotMap) (n k : Slot) (entry : Option Chan) :
    (m.set n.val entry)[k.val] = if k = n then entry else m[k.val] := by
  rw [Vector.getElem_set]
  exact if_congr (by rw [Fin.ext_iff, eq_comm]) rfl rfl

theorem SlotMap.NamesOnce.set_some {m : SlotMap} (h : m.NamesOnce) {c : Chan} (n : Slot) (hnone : slotOf m c = none) :
    SlotMap.NamesOnce (m.set n.val (some c)) := by
  intro i j d hi hj
  rw [SlotMap.getElem_set] at hi hj
  have hnot : ∀ k : Slot, m[k.val] ≠ some c := slotOf_eq_none.mp hnone
  split_ifs at hi hj with h1 h2 h2
  · rw [h1, h2]
  · cases hi; exact absurd hj (hnot j)
  · cases hj; exact absurd hi (hnot i)
  · exact h i j d hi hj

theorem SlotMap.NamesOnce.set_none {m : SlotMap} (h : m.NamesOnce) (n : Slot) : SlotMap.NamesOnce (m.set n.val none) := by
  intro i j d hi hj
  rw [SlotMap.getElem_set] at hi hj
  split_ifs at hi hj with h1 h2
  exact h i j d hi hj

/-- An entry of a map that named no open channel is written: an open channel's slots stay. -/
theorem SlotMap.set_keeps_slot {m : SlotMap} {n k : Slot} {d : Chan} (hk : m[k.val] = some d) (hn : m[n.val] ≠ some d)
    (entry : Option Chan) : ∃ i : Slot, (m.set n.val entry)[i.val] = some d := by
  refine ⟨k, ?_⟩
  have hne : k ≠ n := fun heq => hn (heq ▸ hk)
  rw [SlotMap.getElem_set, if_neg hne]
  exact hk

/-- One entry of a map written (R154, R155). -/
theorem State.setEntry_keeps {s : State} {h : Highway} {n : Slot} (entry : Option Chan)
    (hnames : (s.port.mapOf h).NamesOnce → SlotMap.NamesOnce ((s.port.mapOf h).set n.val entry))
    (hopen : ∀ d : Chan, (s.chan d).life ≠ .closed → (s.port.mapOf h)[n.val] ≠ some d) :
    s.KeepsAll (s.onPort fun p => p.setEntry h n entry) := by
  refine State.Keeps.all ⟨fun ⟨hc, hp⟩ => ⟨hc, ?_⟩, id, id, id, fun _ _ => id, id, fun ⟨hl, he, hc⟩ => ?_, fun hp => ?_, id⟩
    (fun _ => rfl) (fun _ => rfl) rfl
  · cases h <;> exact hp
  · cases h with
    | line =>
      refine ⟨hnames hl, he, fun d hd => ?_⟩
      obtain ⟨⟨k, hk⟩, hexchange⟩ := hc d hd
      exact ⟨SlotMap.set_keeps_slot hk (hopen d hd) entry, hexchange⟩
    | exchange =>
      refine ⟨hl, hnames he, fun d hd => ?_⟩
      obtain ⟨hline, k, hk⟩ := hc d hd
      exact ⟨hline, SlotMap.set_keeps_slot hk (hopen d hd) entry⟩
  · cases h <;> exact hp

/-! ## The channel requests that move no block -/

theorem Channel.stage_keeps {ch : Channel} {p : Profile} (hfields : p.FieldsSound) (hlevels : p.LevelsSound) :
    ch.Keeps { ch with staged := .staged p } :=
  ⟨id, id, fun ⟨hp, _, _⟩ => ⟨hp, fun _ hq => List.mem_singleton.mp hq ▸ hfields, fun q hq => absurd hq (Option.not_mem_none q)⟩,
    id, fun ⟨hg, hpad, hp, _⟩ => ⟨hg, hpad, hp, fun _ hq => List.mem_singleton.mp hq ▸ hlevels⟩⟩

theorem Channel.markPending_keeps {ch : Channel} {p active : Profile} (hactive : ch.life = .active) (hstaged : ch.staged = .staged p)
    (hprofile : ch.profile = some active) (hbulk : p.bulk = active.bulk) (hpins : p.pins = active.pins) :
    ch.Keeps { ch with staged := .pending p } := by
  have hmem : p ∈ ch.staged.records := by rw [hstaged]; exact List.mem_singleton_self p
  refine ⟨id, id, fun ⟨hp, hrecords, _⟩ => ⟨hp, fun q hq => List.mem_singleton.mp hq ▸ hrecords p hmem, fun q hq => ?_⟩, id,
    fun ⟨hg, hpad, hp, hlevels⟩ => ⟨hg, hpad, hp, fun q hq => List.mem_singleton.mp hq ▸ hlevels p hmem⟩⟩
  obtain rfl := Option.some.inj hq
  refine ⟨hactive, fun r hr => ?_⟩
  obtain rfl := Option.some.inj (hprofile.symm.trans hr)
  exact ⟨hbulk, hpins⟩

/-! ## The owners -/

/-- An owner that has passed its checks keeps the laws of the states. -/
theorem State.Acts.keeps {s t : State} {a : Answer} (h : s.Acts (t, a)) : s.KeepsAll t := by
  cases h with
  | kept => exact .refl s
  | configured m offset e fields hhold hmode =>
    refine .onPort (fun hp => ?_) id rfl rfl
    obtain ⟨hawaiting, hframe⟩ := hp.still fun hboth => hhold hboth.1
    refine Port.sound_of_still (fun hmaster => ?_) hp.2.1 hawaiting hframe
    exact sync_locked_of_ne fun hlost => hmode ⟨hmaster, hlost⟩
  | regained offset e fields hhold =>
    refine State.KeepsAll.trans (t := s.onPort fun p => { p with mode := .master, offset := offset, edge := e, sync := .locked })
      (.onPort (fun hp => ?_) id rfl rfl) (.raiseNotice _ _ _)
    obtain ⟨hawaiting, hframe⟩ := hp.still fun hboth => hhold hboth.1
    exact Port.sound_of_still (fun _ => rfl) hp.2.1 hawaiting hframe
  | halted => exact .stopFraming rfl rfl rfl rfl rfl (fun hp => ⟨hp.1, hp.2.1⟩) id ⟨rfl, rfl⟩
  | started fields hhold hclock =>
    show s.KeepsAll (s.onPort fun p => Port.startFraming { p with runState := .run })
    refine .onPort (fun hp => ?_) id rfl rfl
    obtain ⟨-, hframe⟩ := hp.still fun hboth => hhold hboth.1
    exact Port.sound_startFraming hp.1 hframe ⟨rfl, hclock⟩
  | unclocked fields hhold hclock =>
    refine .onPort (fun hp => ?_) id rfl rfl
    obtain ⟨hawaiting, hframe⟩ := hp.still fun hboth => hhold hboth.1
    exact Port.sound_of_still hp.1 hp.2.1 hawaiting hframe
  | mapped h n c fields hclosed hfree hunnamed =>
    exact State.setEntry_keeps (some c) (fun hnames => hnames.set_some n hunnamed) fun d _ hd => by
      rw [hfree] at hd; cases hd
  | unmapped h n c fields hclosed hentry =>
    refine State.setEntry_keeps none (fun hnames => hnames.set_none n) fun d hopen hd => hopen ?_
    rw [hentry] at hd
    exact Option.some.inj hd ▸ hclosed
  | loaded t q values fields hv =>
    exact (State.Keeps.onLaw fun ⟨ha, hb, hbuffer⟩ => ⟨ha, hb, LoadBuffer.store_linear hbuffer t q hv⟩).all (fun _ => rfl)
      (fun _ => rfl) rfl
  | committed t entries fields hcomplete =>
    exact (State.Keeps.onLaw fun hl => LawStore.setTable_linear hl t (LoadBuffer.complete_linear hl.2.2 hcomplete)).all
      (fun _ => rfl) (fun _ => rfl) rfl
  | staged c record k fields hcheck hpending =>
    have hchecked := checkProfile_eq_some_iff.mp hcheck
    exact State.restaged_keepsAll (Channel.stage_keeps hchecked.fieldsSound hchecked.levelsSound)
  | opened c p fields hclosed hstaged hmapped hfree => exact State.opened_keepsAll hclosed hstaged hmapped hfree
  | marked c p active fields hactive hstaged hprofile hbulk hpins =>
    exact State.restaged_keepsAll (Channel.markPending_keeps hactive hstaged hprofile hbulk hpins)
  | applied c p active fields hactive hstaged hprofile hbulk hpins =>
    exact State.applyTakesEffect_keepsAll hactive hprofile (.inl hstaged) fun _ => hpins
  | closed c fields hopen => exact (s.closeSteps_keepsAll c).trans (.raiseNotice _ _ _)
  | retrained c p fields hactive hprofile => exact State.retrained_keepsAll hactive hprofile
  | frozen c want fields =>
    exact State.KeepsAll.trans (t := s.onChan c fun ch => { ch with frozen := want })
      (.onChan (Channel.SameService.keeps ⟨rfl, rfl, rfl, rfl, rfl⟩ id id) ⟨rfl, rfl, rfl, rfl, rfl⟩ id) (.raiseNotice _ _ _)
  | tested c fields => exact s.testCovered_keepsAll c
  | conditionsRead c fields =>
    exact .onChan (Channel.SameService.keeps ⟨rfl, rfl, rfl, rfl, rfl⟩ id id) ⟨rfl, rfl, rfl, rfl, rfl⟩ id
  | portConditionsRead fields => exact .onPort id id rfl rfl
  | countersRead c fields =>
    exact .onChan (Channel.SameService.keeps ⟨rfl, rfl, rfl, rfl, rfl⟩ (fun _ => (by decide : ChanCounters.zero.bounded)) id)
      ⟨rfl, rfl, rfl, rfl, rfl⟩ id
  | portCountersRead fields =>
    exact .onPort id (fun _ => ⟨Nat.zero_le _, Nat.zero_le _, Nat.zero_le _, Nat.zero_le _, Nat.zero_le _⟩) rfl rfl
  | channelMasked c m fields =>
    exact .onChan (Channel.SameService.keeps ⟨rfl, rfl, rfl, rfl, rfl⟩ id id) ⟨rfl, rfl, rfl, rfl, rfl⟩ id
  | portMasked m fields => exact .onPort id id rfl rfl
  | enabled on fields => exact .relinked rfl rfl rfl ⟨rfl, rfl, rfl⟩
  | signed c st count fields hcount hactive =>
    refine .resigned rfl rfl rfl rfl rfl fun _ => ⟨Nat.le_of_lt_succ count.isLt, Nat.zero_le _, fun _ => ⟨?_, hactive⟩⟩
    exact Nat.pos_of_ne_zero fun hzero => hcount (BitVec.eq_of_toNat_eq hzero)

end Sys2Proof.Machine
end

section
/-!
PROOFS. The laws of the states through the request rows, RESTART (R168) and the receive framer (R161, R162).
-/

namespace Sys2Proof.Machine

/-! ## A request served -/

theorem State.countOverrun_keeps (s : State) : s.KeepsAll (s.onPort Port.countOverrun) :=
  .onPort id (fun ⟨hslips, hlosses, hbad, hgap, _⟩ => ⟨hslips, hlosses, hbad, hgap, bump_le _⟩) rfl rfl

theorem State.answered_keeps (s : State) (r : Record) : s.KeepsAll (s.answered r) := .relinked rfl rfl rfl ⟨rfl, rfl, rfl⟩

theorem serve_keeps {s : State} (tag kind : Byte) {act : Request} (h : s.KeepsAll (act s).1) :
    s.KeepsAll (serve tag kind act s) := by
  by_cases hfull : 4 ≤ s.link.replies.length
  · rw [serve_of_full s tag kind act hfull]
    exact s.countOverrun_keeps
  · rw [serve_of_room s tag kind act (Nat.lt_of_not_le hfull)]
    exact h.trans (State.answered_keeps _ _)

theorem Request.Owned.keeps {act : Request} (h : act.Owned) (s : State) : s.KeepsAll (act s).1 :=
  State.Acts.keeps (a := (act s).2) (h s)

/-- What a tap selector finds is a block that the channel covers (R36). -/
theorem Channel.tapPlace_covered {ch : Channel} {t : TapSelector} {k : TapPlace} (h : ch.tapPlace t = some k) :
    k.block ∈ ch.coveredBlocks := by
  have hscout : ∀ {j : TapPlace}, ch.scoutPlace = some j → j.block ∈ ch.coveredBlocks := fun {j} hj => by
    obtain ⟨i, hi, rfl⟩ := Option.map_eq_some_iff.mp hj
    exact Channel.mem_covered_blocks.mpr (.inr ⟨i, hi, rfl⟩)
  cases t with
  | scout => exact hscout h
  | position p =>
    simp only [Channel.tapPlace] at h
    split at h
    · next w hw =>
      obtain ⟨b, hb, rfl⟩ := Option.map_eq_some_iff.mp h
      exact Channel.mem_covered_blocks.mpr (.inl ⟨w, List.mem_of_find?_eq_some hw, hb⟩)
    · exact hscout (Option.filter_eq_some_iff.mp h).1

theorem readTapsRequest_keeps (channel selector : Byte) (s : State) : s.KeepsAll (readTapsRequest channel selector s).1 := by
  obtain h | ⟨c, t, k, -, hplace, h⟩ := readTapsRequest_tests channel selector s
  · rw [h]; exact .refl s
  · rw [h]
    refine State.testBlocks_keepsAll fun hpool => ⟨List.nodup_singleton _, fun j hj => ?_⟩
    rw [List.mem_singleton.mp hj]
    exact ((hpool.holders c).2 k.block).mpr (Channel.tapPlace_covered hplace)

/-! ## RESTART -/

/-- Channels all closed, with no blocks held and nobody waiting, make a sound pool. -/
theorem State.poolSound_of_closed {s : State}
    (hchan : ∀ c : Chan, (s.chan c).life = .closed ∧ (s.chan c).profile = none ∧ (s.chan c).staged = .empty ∧
      (s.chan c).windows = [] ∧ (s.chan c).scout = none)
    (hblock : ∀ (b : BlockNo) (c : Chan), (s.block b).condition ≠ .held c) (hwait : s.wait = []) : s.PoolSound := by
  have hcovered : ∀ c : Chan, (s.chan c).covered = [] := fun c => by
    obtain ⟨-, -, -, hwindows, hscout⟩ := hchan c
    rw [Channel.covered, hwindows, hscout]; rfl
  refine ⟨fun c => ?_, fun c => ?_, fun c => ⟨?_, fun b => ?_⟩, fun h => absurd hwait h, ?_, fun c => ?_, ?_⟩
  · obtain ⟨hlife, hprofile, -⟩ := hchan c
    exact ⟨fun _ => hprofile, fun _ => hlife⟩
  · obtain ⟨-, hprofile, hempty, -⟩ := hchan c
    exact Channel.profilesSound_of_empty hempty fun p hp => by simp [hprofile] at hp
  · rw [hcovered]; exact .nil
  · rw [hcovered]
    exact ⟨fun h => absurd h (hblock b c), nofun⟩
  · rw [State.PinsFirst, hwait]; rfl
  · obtain ⟨-, hprofile, -, hwindows, hscout⟩ := hchan c
    have hplaced := Channel.PlacedWell.bare hwindows hscout hprofile
    exact ⟨hplaced.ascending, hplaced.apart, hplaced.blocked, fun p hp => by simp [hprofile] at hp, hplaced.closed⟩
  · rw [State.WaitSound, hwait]
    exact ⟨.nil, fun c => ⟨nofun, fun hopen => absurd (hchan c).1 hopen⟩⟩

/-- A channel that RESTART leaves. -/
def Channel.restarted (ch : Channel) : Channel :=
  { (if ch.life = .closed then ch else ch.shut) with staged := .empty, conditions := .clear, counters := .zero }

theorem Channel.restarted_open {ch : Channel} (h : ch.life ≠ .closed) :
    ch.restarted = { ch.shut with conditions := .clear, counters := .zero } := by
  rw [Channel.restarted, if_neg h]; rfl

theorem Channel.restarted_closed {ch : Channel} (h : ch.life = .closed) :
    ch.restarted = { ch with staged := .empty, conditions := .clear, counters := .zero } := by
  rw [Channel.restarted, if_pos h]

theorem Channel.restarted_life (ch : Channel) : ch.restarted.life = .closed := by
  by_cases h : ch.life = .closed
  · rw [Channel.restarted_closed h]; exact h
  · rw [Channel.restarted_open h]; rfl

theorem Channel.restarted_keeps (ch : Channel) : ch.Keeps ch.restarted := by
  by_cases h : ch.life = .closed
  · rw [Channel.restarted_closed h]
    exact ⟨fun _ => (by decide : ChanCounters.zero.bounded), id, fun hp => Channel.profilesSound_of_empty rfl hp.1, id,
      fun hg => Channel.gainSound_of_empty rfl hg.1 hg.2.1 hg.2.2.1⟩
  · rw [Channel.restarted_open h]
    exact ⟨fun _ => (by decide : ChanCounters.zero.bounded), fun _ => ⟨fun _ => rfl, fun _ => rfl⟩,
      fun _ => Channel.profilesSound_of_empty rfl fun p hp => absurd hp (Option.not_mem_none p), id,
      fun hg => Channel.gainSound_of_empty rfl hg.1 hg.2.1 fun p hp => absurd hp (Option.not_mem_none p)⟩

theorem Channel.restarted_counts {ch : Channel} (hc : ch.CountsSound) : ch.restarted.CountsSound := by
  obtain ⟨h1, h2, h3, h4, h5, h6, h7, h8, h9, h10, h11, h12, h13, -, h15⟩ := hc
  by_cases h : ch.life = .closed
  · rw [Channel.restarted_closed h]
    refine ⟨h1, h2, h3, h4, h5, h6, h7, h8, h9, h10, h11, h12, h13, fun hopening => ?_, h15⟩
    rw [show ch.life = .opening from hopening] at h
    cases h
  · rw [Channel.restarted_open h]
    exact ⟨h1, h2, h3, h4, h5, h6, h7, h8, h9, h10, h11, h12, fun k hk => absurd hk (Option.not_mem_none k), nofun, h15⟩

theorem State.restartBlocks_keepsAll {s : State} (hoff : s.link.enable = false) : s.KeepsAll s.restartBlocks := by
  obtain ⟨t, ⟨hlaw, hwait, hport, -, -, hchan, hblock⟩, hu⟩ := s.restartBlocks_shut hoff
  have hself : ∀ c : Chan, s.restartBlocks.chan c = (s.chan c).restarted := fun c => by
    rw [hu]
    show (t.channels.map _)[c.val] = _
    rw [Vector.getElem_map, show t.channels[c.val] = t.chan c from rfl, hchan, State.withWait_chan]
    by_cases hl : (s.chan c).life = .closed
    · rw [if_neg fun h => h.2 hl, Channel.restarted_closed hl]
    · rw [if_pos ⟨List.mem_finRange c, hl⟩, Channel.restarted_open hl]; rfl
  have hblocks : ∀ b : BlockNo, s.restartBlocks.block b = t.block b := fun b => by rw [hu]; rfl
  have hclosed : ∀ c : Chan, (s.restartBlocks.chan c).life = .closed := fun c => by
    rw [hself]; exact (s.chan c).restarted_life
  have hlaw' : s.restartBlocks.law = { s.law with buffer := .empty } := by rw [hu, hlaw]; rfl
  have hport' : s.restartBlocks.port = s.port.conditionsRead.countersRead := by rw [hu, hport]; rfl
  refine ⟨⟨fun ⟨hc, _⟩ => ⟨fun d => ?_, ?_⟩, fun h d => ?_, fun h d => ?_, fun ⟨⟨ha, hb, _⟩, hc⟩ => ⟨?_, fun d => ?_⟩,
    fun _ _ h b => ?_, fun h d => ?_, fun ⟨hl, he, _⟩ => ⟨?_, ?_, fun c hopen => absurd (hclosed c) hopen⟩, fun h => ?_, fun _ => ?_⟩,
    fun h d => ?_, fun h => State.poolSound_of_closed (fun c => ?_) (fun b c => ?_) ?_⟩
  · rw [hself]; exact (s.chan d).restarted_keeps.counters (hc d)
  · rw [hport']; exact ⟨Nat.zero_le _, Nat.zero_le _, Nat.zero_le _, Nat.zero_le _, Nat.zero_le _⟩
  · rw [hself]; exact (s.chan d).restarted_keeps.held (h d)
  · rw [hself]; exact (s.chan d).restarted_keeps.profiles (h d)
  · rw [hlaw']; exact ⟨ha, hb, LoadBuffer.empty_linear⟩
  · rw [hself]; exact (s.chan d).restarted_keeps.signal (hc d)
  · rw [hblocks, hblock, State.withWait_block]
    split
    · split <;> exact h b
    · exact h b
  · rw [hself]; exact (s.chan d).restarted_keeps.gain (h d)
  · rw [hport']; exact hl
  · rw [hport']; exact he
  · rw [State.PortSound, hport']; exact h
  · rw [State.SignatureSound, hu]; exact ⟨Nat.zero_le _, Nat.zero_le _, nofun⟩
  · rw [hself]; exact Channel.restarted_counts (h d)
  · rw [hself]
    by_cases hl : (s.chan c).life = .closed
    · obtain ⟨-, -, -, -, hplace⟩ := h.placement c
      obtain ⟨hwindows, hscout⟩ := hplace hl
      rw [Channel.restarted_closed hl]
      exact ⟨hl, (h.profilesHeld c).mp hl, rfl, hwindows, hscout⟩
    · rw [Channel.restarted_open hl]; exact ⟨rfl, rfl, rfl, rfl, rfl⟩
  · rw [hblocks, hblock, State.withWait_block]
    cases hcond : (s.block b).condition with
    | free => simp [hcond]
    | retired => simp [hcond]
    | held d =>
      have hopen := h.open_of_held hcond
      dsimp only
      rw [if_pos ⟨List.mem_finRange d, hopen⟩]
      nofun
  · rw [hu]; exact hwait

theorem State.restartLink_keeps (s : State) : s.KeepsAll s.restartLink := by
  have hchan : ∀ c : Chan, s.restartLink.chan c = { s.chan c with mask := allChannelKinds } := fun c => by
    show (s.channels.map _)[c.val] = _
    rw [Vector.getElem_map]; rfl
  refine ⟨⟨fun ⟨hc, hp⟩ => ⟨fun d => ?_, hp⟩, fun h d => ?_, fun h d => ?_, fun ⟨hl, hc⟩ => ⟨hl, fun d => ?_⟩, fun _ _ h => h,
    fun h d => ?_, fun ⟨hl, he, hc⟩ => ⟨hl, he, fun d hopen => ?_⟩, fun h => h, fun ⟨hr, hv, hrun⟩ => ⟨hr, hv, fun h => ?_⟩⟩,
    fun h d => ?_, fun h => h.sameRoles (fun d => ?_) (fun _ => rfl) rfl⟩
  · rw [hchan]; exact hc d
  · rw [hchan]; exact h d
  · rw [hchan]; exact h d
  · rw [hchan]; exact hc d
  · rw [hchan]; exact h d
  · rw [hchan] at hopen; exact hc d hopen
  · rw [hchan]; exact hrun h
  · rw [hchan]; exact h d
  · rw [hchan]; exact ⟨rfl, rfl, rfl, rfl, rfl⟩

theorem restartRequest_keeps (tag : Byte) (s : State) : s.KeepsAll (restartRequest tag s) := by
  by_cases hfull : 4 ≤ s.link.replies.length
  · rw [restartRequest, if_pos (show Config.replyLimit ≤ s.link.replies.length from hfull)]
    exact s.countOverrun_keeps
  · rw [restartRequest_of_room tag s (Nat.lt_of_not_le hfull)]
    exact (s.restartLink_keeps.trans (State.answered_keeps _ _)).trans (State.restartBlocks_keepsAll (State.answered_enable _ _))

/-! ## The rows -/

theorem RequestRow.keeps {i : Instr} {tag kind : Byte} (h : RequestRow i tag kind) {s t : State} (he : exec i s = .next t) :
    s.KeepsAll t := by
  cases h with
  | restart _ hexec => rw [hexec] at he; cases he; exact restartRequest_keeps tag s
  | readTaps channel selector _ hexec => rw [hexec] at he; cases he; exact serve_keeps tag kind (readTapsRequest_keeps _ _ s)
  | owned act howned hexec => rw [hexec] at he; cases he; exact serve_keeps tag kind (howned.keeps s)

theorem requestArrival_keeps (tag kind : Byte) (body : List Byte) (s : State) : s.KeepsAll (requestArrival tag kind body s) := by
  unfold requestArrival
  split
  · exact restartRequest_keeps tag s
  · obtain howned | ⟨-, hread⟩ := requestOf_owned kind body
    · exact serve_keeps tag kind (howned.keeps s)
    · rw [hread]; exact serve_keeps tag kind (readTapsRequest_keeps _ _ s)

theorem State.withFramer_keeps (s : State) (f : Framer) : s.KeepsAll (s.withFramer f) := .relinked rfl rfl rfl ⟨rfl, rfl, rfl⟩

theorem State.dropFrame_keeps (s : State) : s.KeepsAll s.dropFrame :=
  State.KeepsAll.trans (.onPort (f := Port.countBadFrame) id
    (fun ⟨hslips, hlosses, _, hgap, hover⟩ => ⟨hslips, hlosses, bump_le _, hgap, hover⟩) rfl rfl) (State.withFramer_keeps _ _)

theorem receiveByte_keeps (b : Byte) (framingError : Bool) (s : State) : s.KeepsAll (receiveByte b framingError s) := by
  unfold receiveByte
  split
  · split
    · exact s.withFramer_keeps _
    · exact .refl s
  · split
    · exact s.dropFrame_keeps
    · split
      · exact s.withFramer_keeps _
      · exact s.dropFrame_keeps
  · split
    · exact s.dropFrame_keeps
    · split
      · exact s.withFramer_keeps _
      · unfold State.checkFrame
        dsimp only
        split
        · exact (s.withFramer_keeps _).trans (requestArrival_keeps _ _ _ _)
        · exact s.dropFrame_keeps

theorem gapTimeout_keeps {s t : State} (h : execGapTimeout s = .next t) : s.KeepsAll t := by
  cases h
  split
  · exact State.KeepsAll.trans (.onPort (f := Port.countGapTimeout) id
      (fun ⟨hslips, hlosses, hbad, _, hover⟩ => ⟨hslips, hlosses, hbad, bump_le _, hover⟩) rfl rfl) (State.withFramer_keeps _ _)
  · exact .refl s

theorem State.arbitrate_keeps (s : State) : s.KeepsAll s.arbitrate := by
  rw [State.arbitrate_eq]
  exact .relinked rfl rfl rfl ⟨rfl, rfl, rfl⟩

theorem frameSent_keeps {s t : State} (h : execFrameSent s = .next t) : s.KeepsAll t := by
  cases h
  split
  · exact .refl s
  · exact State.KeepsAll.trans (t := s.onLink fun l => { l with tx := .idle }) (.relinked rfl rfl rfl ⟨rfl, rfl, rfl⟩)
      (State.arbitrate_keeps _)

/-- Power-on leaves the state of reset, but for the line rate and the queue of commands (R138). -/
theorem powerOnReset_keeps {s t : State} {br1 br0 : Bool} (h : execPowerOnReset br1 br0 s = .next t) : s.KeepsAll t := by
  cases h
  obtain ⟨hcounters, -, hgain, hcounts, hsignal, htaps, hmaps, hport, hsig, hpool⟩ := resetSatisfiesTheLaws
  have hkeeps : State.reset.KeepsAll { State.powerOn (rateOf br1 br0) with pending := s.pending } :=
    .relinked rfl rfl rfl ⟨rfl, rfl, rfl⟩
  exact ⟨⟨fun _ => hkeeps.counters hcounters, fun _ => hkeeps.held hpool.profilesHeld,
    fun _ => hkeeps.profiles hpool.profilesSound, fun _ => hkeeps.signal hsignal,
    fun _ _ _ => hkeeps.taps hsignal hpool.profilesSound htaps, fun _ => hkeeps.gain hgain, fun _ => hkeeps.maps hmaps,
    fun _ => hkeeps.port hport, fun _ => hkeeps.signature hsig⟩, fun _ => hkeeps.counts hcounts, fun _ => hkeeps.pool hpool⟩

end Sys2Proof.Machine
end

section
/-!
PROOFS. The steering work of a channel, told of its context alone: what each event and each step of a sample makes of it, and the
laws of the states through it. The running counts are told without the mark of a sample in work (log 23).
-/

namespace Sys2Proof.Machine

/-! ## What an act within a sample keeps -/

/-- The running counts of a channel are sound, a sample in work or not. -/
abbrev Channel.CountsHeld (ch : Channel) : Prop := (ch.setInSample false).CountsSound

theorem Channel.CountsHeld.sound {ch : Channel} (h : ch.CountsHeld) (hmark : ch.inSample = false) : ch.CountsSound := by
  obtain ⟨h1, h2, h3, h4, h5, h6, h7, h8, h9, h10, h11, h12, h13, h14, -⟩ := h
  exact ⟨h1, h2, h3, h4, h5, h6, h7, h8, h9, h10, h11, h12, h13, h14, hmark⟩

theorem Channel.CountsSound.held {ch : Channel} (h : ch.CountsSound) : ch.CountsHeld := by
  obtain ⟨h1, h2, h3, h4, h5, h6, h7, h8, h9, h10, h11, h12, h13, h14, -⟩ := h
  exact ⟨h1, h2, h3, h4, h5, h6, h7, h8, h9, h10, h11, h12, h13, h14, rfl⟩

theorem Channel.CountsSound.mark {ch : Channel} (h : ch.CountsSound) : ch.inSample = false := by
  obtain ⟨-, -, -, -, -, -, -, -, -, -, -, -, -, -, hmark⟩ := h
  exact hmark

/-- The counts of every channel, samples in work or not. -/
abbrev State.CountsHeld (s : State) : Prop := ∀ d : Chan, (s.chan d).CountsHeld

/-- An act, perhaps within the work of a sample, keeps the laws of the states and the marks of samples in work. -/
structure State.Works (s t : State) : Prop extends s.Keeps t where
  law : t.law = s.law
  mark : ∀ d : Chan, (t.chan d).inSample = (s.chan d).inSample
  counts : s.CountsHeld → t.CountsHeld
  pool : s.PoolSound → t.PoolSound

theorem State.Works.refl (s : State) : s.Works s := ⟨.refl s, rfl, fun _ => rfl, id, id⟩

theorem State.Works.trans {s t u : State} (h : s.Works t) (h' : t.Works u) : s.Works u :=
  ⟨h.toKeeps.trans h'.toKeeps, h'.law.trans h.law, fun d => (h'.mark d).trans (h.mark d), h'.counts ∘ h.counts, h'.pool ∘ h.pool⟩

theorem State.Works.keepsAll {s t : State} (h : s.Works t) : s.KeepsAll t :=
  ⟨h.toKeeps, fun hc d => (h.counts (fun d => (hc d).held) d).sound ((h.mark d).trans (hc d).mark), h.pool⟩

/-- An act of placement and the pool. -/
theorem State.PlacesTidied.works {s t : State} (h : s.PlacesTidied t) (hpool : s.PoolSound → t.PoolSound) : s.Works t :=
  ⟨h.keeps, h.law, fun d => by rw [h.chan d]; rfl, fun hc d => by
    rw [h.chan d]
    exact Channel.countsSound_replant (ch := (s.chan d).setInSample false) (x := (t.chan d).placing) (h.tends d) (hc d), hpool⟩

theorem State.Works.raiseNotice (s : State) (u : Source) (k : NoticeKind) : s.Works (s.raiseNotice u k) :=
  (State.PlacesTidied.raiseNotice s u k).works fun h => h.raiseNotice u k

/-! ## An act on one channel's context -/

/-- An act that makes of one channel's context what `f` makes of it, and raises notices at most. -/
structure State.Steered (s t : State) (c : Chan) (f : Channel → Channel) : Prop where
  self : t.chan c = f (s.chan c)
  others : ∀ d : Chan, d ≠ c → t.chan d = s.chan d
  blocks : t.blocks = s.blocks
  wait : t.wait = s.wait
  law : t.law = s.law
  port : t.port = s.port
  sig : t.sig = s.sig
  pending : t.pending = s.pending

theorem State.Steered.block {s t : State} {c : Chan} {f : Channel → Channel} (h : s.Steered t c f) (b : BlockNo) :
    t.block b = s.block b := by rw [State.block, State.block, h.blocks]

theorem State.Steered.onChan (s : State) (c : Chan) (f : Channel → Channel) : s.Steered (s.onChan c f) c f :=
  ⟨s.onChan_chan_self c f, fun _ hd => s.onChan_chan_of_ne f hd, rfl, rfl, rfl, rfl, rfl, rfl⟩

theorem State.Steered.raiseNotice {s t : State} {c : Chan} {f : Channel → Channel} (h : s.Steered t c f) (u : Source)
    (k : NoticeKind) : s.Steered (t.raiseNotice u k) c f := by
  have heq := t.raiseNotice_eq u k
  refine ⟨?_, fun d hd => ?_, ?_, ?_, ?_, ?_, ?_, ?_⟩
  · rw [State.raiseNotice_chan]; exact h.self
  · rw [State.raiseNotice_chan]; exact h.others d hd
  all_goals rw [heq]
  · exact h.blocks
  · exact h.wait
  · exact h.law
  · exact h.port
  · exact h.sig
  · exact h.pending

theorem State.Steered.of_eq {s : State} {c : Chan} {f : Channel → Channel} (h : f (s.chan c) = s.chan c) : s.Steered s c f :=
  ⟨h.symm, fun _ _ => rfl, rfl, rfl, rfl, rfl, rfl, rfl⟩

theorem State.Steered.trans {s t u : State} {c : Chan} {f g : Channel → Channel} (h : s.Steered t c f) (h' : t.Steered u c g) :
    s.Steered u c fun ch => g (f ch) :=
  ⟨by rw [h'.self, h.self], fun d hd => (h'.others d hd).trans (h.others d hd), h'.blocks.trans h.blocks, h'.wait.trans h.wait,
    h'.law.trans h.law, h'.port.trans h.port, h'.sig.trans h.sig, h'.pending.trans h.pending⟩

theorem State.Steered.congr {s t : State} {c : Chan} {f g : Channel → Channel} (h : s.Steered t c f)
    (hfg : f (s.chan c) = g (s.chan c)) : s.Steered t c g :=
  ⟨h.self.trans hfg, h.others, h.blocks, h.wait, h.law, h.port, h.sig, h.pending⟩

/-- What steering leaves of a context: the profile, the staged slot, the places and the mark of a sample; and it may open the
channel for good (R131). -/
structure Channel.Steers (a b : Channel) : Prop where
  life : b.life = a.life ∨ (a.life = .opening ∧ b.life = .active)
  profile : b.profile = a.profile
  staged : b.staged = a.staged
  windows : b.windows = a.windows
  scout : b.scout.map (fun k => (k.pos, k.block)) = a.scout.map fun k => (k.pos, k.block)
  mark : b.inSample = a.inSample
  counters : a.counters.bounded → b.counters.bounded
  gain : a.GainSound → b.GainSound

theorem Channel.Steers.refl (ch : Channel) : ch.Steers ch := ⟨.inl rfl, rfl, rfl, rfl, rfl, rfl, id, id⟩

theorem Channel.Steers.trans {a b d : Channel} (h : a.Steers b) (h' : b.Steers d) : a.Steers d where
  life := by
    obtain hb | ⟨hao, hba⟩ := h.life
    · rw [← hb]; exact h'.life
    · obtain hd | ⟨hbo, -⟩ := h'.life
      · exact .inr ⟨hao, hd.trans hba⟩
      · rw [hba] at hbo; cases hbo
  profile := h'.profile.trans h.profile
  staged := h'.staged.trans h.staged
  windows := h'.windows.trans h.windows
  scout := h'.scout.trans h.scout
  mark := h'.mark.trans h.mark
  counters := h'.counters ∘ h.counters
  gain := h'.gain ∘ h.gain

/-- Steering that leaves life, gain and pad alone. -/
theorem Channel.SameService.steers {a b : Channel} (h : a.SameService b) (hwindows : b.windows = a.windows)
    (hscout : b.scout.map (fun k => (k.pos, k.block)) = a.scout.map fun k => (k.pos, k.block)) (hmark : b.inSample = a.inSample)
    (hcounters : a.counters.bounded → b.counters.bounded) : a.Steers b :=
  ⟨.inl h.life, h.profile, h.staged, hwindows, hscout, hmark, hcounters, h.gainSound⟩

theorem Channel.Steers.closed_iff {a b : Channel} (h : a.Steers b) : b.life = .closed ↔ a.life = .closed := by
  obtain hb | ⟨ha, hb⟩ := h.life
  · rw [hb]
  · rw [ha, hb]; exact ⟨nofun, nofun⟩

theorem Channel.Steers.active {a b : Channel} (h : a.Steers b) (ha : a.life = .active) : b.life = .active := by
  obtain hb | ⟨-, hb⟩ := h.life
  · rw [hb]; exact ha
  · exact hb

theorem Channel.Steers.profilesSound {a b : Channel} (h : a.Steers b) (ha : a.ProfilesSound) : b.ProfilesSound := by
  obtain ⟨hp, hr, hpending⟩ := ha
  rw [Channel.ProfilesSound, Channel.PendingSound, h.profile, h.staged]
  exact ⟨hp, hr, fun q hq => ⟨h.active (hpending q hq).1, (hpending q hq).2⟩⟩

/-- Steering keeps the laws, where it keeps the signal and the counts of its channel. -/
theorem State.Steered.works {s t : State} {c : Chan} {f : Channel → Channel} (h : s.Steered t c f)
    (hsteers : (s.chan c).Steers (f (s.chan c)))
    (hsignal : s.law.Linear → (s.chan c).SignalSound → (f (s.chan c)).SignalSound)
    (hcounts : (s.chan c).CountsHeld → (f (s.chan c)).CountsHeld) : s.Works t := by
  have hsteer : ∀ d : Chan, (s.chan d).Steers (t.chan d) := fun d => by
    by_cases hd : d = c
    · rw [hd, h.self]; exact hsteers
    · rw [h.others d hd]; exact .refl _
  have hself : ∀ {P : Channel → Prop}, (P (s.chan c) → P (f (s.chan c))) → ∀ d : Chan, P (s.chan d) → P (t.chan d) := fun hP d hs => by
    by_cases hd : d = c
    · rw [hd, h.self]; exact hP (hd ▸ hs)
    · rw [h.others d hd]; exact hs
  have hprofiles : s.ProfilesSound → t.ProfilesSound := fun hs d => (hsteer d).profilesSound (hs d)
  refine ⟨⟨fun ⟨hc, hp⟩ => ⟨fun d => (hsteer d).counters (hc d), h.port ▸ hp⟩, fun hs d => ?_, hprofiles,
    fun ⟨hl, hc⟩ => ⟨h.law ▸ hl, fun d => hself (hsignal hl) d (hc d)⟩, fun _ _ hs b => ?_, fun hs d => (hsteer d).gain (hs d),
    fun ⟨hl, he, hc⟩ => ?_, fun hs => ?_, fun ⟨hr, hv, hrun⟩ => ?_⟩, h.law, fun d => (hsteer d).mark, fun hs d => hself hcounts d (hs d),
    fun hs => ?_⟩
  · rw [(hsteer d).closed_iff, (hsteer d).profile]; exact hs d
  · rw [h.block]; exact hs b
  · rw [State.MapsSound, h.port]
    exact ⟨hl, he, fun d hd => hc d fun hclosed => hd ((hsteer d).closed_iff.mpr hclosed)⟩
  · rw [State.PortSound, h.port]; exact hs
  · rw [State.SignatureSound, h.sig]
    exact ⟨hr, hv, fun hrunning => ⟨(hrun hrunning).1, (hsteer _).active (hrun hrunning).2⟩⟩
  · exact hs.same (fun d => ⟨(hsteer d).closed_iff, (hsteer d).windows, (hsteer d).scout⟩) (fun b => by rw [h.block]) h.wait
      (hprofiles hs.profilesSound) fun d => (hsteer d).profile

/-- The settling of a notice in flight changes the link alone. -/
theorem State.settleNotice_works (s t : State) : t.Works (s.settleNotice t) := by
  unfold State.settleNotice
  split
  · exact State.Steered.works (c := 0) (f := id) ⟨rfl, fun _ _ => rfl, rfl, rfl, rfl, rfl, rfl, rfl⟩ (.refl _) (fun _ => id) id
  · exact .refl t

/-- The event of a channel, where its act keeps the laws. -/
theorem channelEvent_keeps {c : Chan} {act : Profile → State → State} {s t : State} (h : channelEvent c act s = .next t)
    (hact : ∀ p : Profile, (s.chan c).life ≠ .closed → (s.chan c).profile = some p → s.Works (act p s)) : s.KeepsAll t := by
  unfold channelEvent at h
  split at h
  · cases h; exact .refl s
  · next hopen =>
    split at h
    · next p hp =>
      cases h
      exact ((hact p hopen hp).trans (State.settleNotice_works s _)).keepsAll
    · cases h

end Sys2Proof.Machine
end

section
/-!
PROOFS. The events of an open channel (log 2) keep the laws of the states.
-/

namespace Sys2Proof.Machine

/-! ## Steering that keeps every law of the channel -/

/-- Steering that keeps the signal and the counts of its channel too. -/
structure Channel.WorksTo (a b : Channel) : Prop extends a.Steers b where
  signal : a.SignalSound → b.SignalSound
  counts : a.CountsHeld → b.CountsHeld

theorem Channel.WorksTo.refl (ch : Channel) : ch.WorksTo ch := ⟨.refl ch, id, id⟩

theorem Channel.WorksTo.trans {a b d : Channel} (h : a.WorksTo b) (h' : b.WorksTo d) : a.WorksTo d :=
  ⟨h.toSteers.trans h'.toSteers, h'.signal ∘ h.signal, h'.counts ∘ h.counts⟩

theorem State.Steered.worksTo {s t : State} {c : Chan} {f : Channel → Channel} (h : s.Steered t c f)
    (hf : (s.chan c).WorksTo (f (s.chan c))) : s.Works t :=
  h.works hf.toSteers (fun _ => hf.signal) hf.counts

theorem State.Works.onChan {s : State} {c : Chan} {f : Channel → Channel} (hf : (s.chan c).WorksTo (f (s.chan c))) :
    s.Works (s.onChan c f) :=
  (State.Steered.onChan s c f).worksTo hf

/-- A channel whose places, service and mark are those of another. -/
theorem Channel.WorksTo.of_same {a b : Channel} (hcounters : a.counters.bounded → b.counters.bounded)
    (hsignal : a.SignalSound → b.SignalSound) (hcounts : a.CountsHeld → b.CountsHeld)
    (hservice : a.SameService b := by exact ⟨rfl, rfl, rfl, rfl, rfl⟩) (hwindows : b.windows = a.windows := by rfl)
    (hscout : b.scout = a.scout := by rfl) (hmark : b.inSample = a.inSample := by rfl) : a.WorksTo b :=
  ⟨hservice.steers hwindows (by rw [hscout]) hmark hcounters, hsignal, hcounts⟩

/-! ## The talk detector -/

theorem Channel.endHangover_works (ch : Channel) : ch.WorksTo ch.endHangover := by
  unfold Channel.endHangover
  split
  · next h =>
    simp only [Bool.and_eq_true, beq_iff_eq] at h
    obtain ⟨-, hzero⟩ := h
    refine .of_same id id fun ⟨h1, _, h3⟩ => ⟨h1, ?_, h3⟩
    show false = true ↔ 0 < ch.dtHangover
    rw [hzero]
    exact ⟨nofun, nofun⟩
  · exact .refl ch

/-! ## The suppressor and the noise floor -/

theorem Channel.releaseSuppressor_works (ch : Channel) : ch.WorksTo ch.releaseSuppressor := by
  unfold Channel.releaseSuppressor
  split
  · exact .of_same id id id
  · exact .refl ch

theorem Channel.updateNoiseFloor_works (ch : Channel) (p : Profile) : ch.WorksTo (ch.updateNoiseFloor p) := by
  unfold Channel.updateNoiseFloor
  split
  · refine .of_same id (fun ⟨h1, h2, h3, h4, h5, h6, _, h8⟩ => ⟨h1, h2, h3, h4, h5, h6, ?_, h8⟩) id
    have hfloor : floorOf p.floor - 1 ≤ 95 := by cases p.floor <;> decide
    exact (Nat.min_le_right _ _).trans hfloor
  · exact .refl ch

/-! ## The service mode -/

/-- What reaching TRACK makes of the context (R88). -/
def Channel.tracked (ch : Channel) : Channel := { ch with service := .track, convRun := 0 }

/-- What a path change makes of the context (R89). -/
def Channel.pathChanged (ch : Channel) : Channel := { ch with service := .acquire, changeRun := 0 }.countPathChange

theorem State.reachTrack_steered (s : State) (c : Chan) : s.Steered (s.reachTrack c) c Channel.tracked :=
  (State.Steered.onChan s c _).raiseNotice _ _

theorem State.pathChange_steered (s : State) (c : Chan) : s.Steered (s.pathChange c) c Channel.pathChanged :=
  (State.Steered.onChan s c _).raiseNotice _ _

theorem Channel.tracked_works (ch : Channel) : ch.WorksTo ch.tracked :=
  .of_same id id fun ⟨h1, h2, h3, _, h5⟩ => ⟨h1, h2, h3, Nat.succ_pos 2047, h5⟩

theorem Channel.pathChanged_works (ch : Channel) : ch.WorksTo ch.pathChanged :=
  .of_same (fun ⟨h1, _, h3⟩ => ⟨h1, bump_le _, h3⟩) id fun ⟨h1, h2, h3, h4, _, h6⟩ => ⟨h1, h2, h3, h4, Nat.succ_pos 511, h6⟩

theorem Channel.diverged_steers (ch : Channel) : ch.Steers ch.diverged := by
  rw [Channel.diverged_eq]
  refine Channel.SameService.steers ⟨rfl, rfl, rfl, rfl, rfl⟩ rfl ?_ rfl fun ⟨h1, h2, _, h4⟩ => ⟨h1, h2, Nat.min_le_left _ _, h4⟩
  cases ch.scout <;> rfl

theorem Channel.diverged_counts {ch : Channel} (h : ch.CountsHeld) : ch.diverged.CountsHeld := by
  obtain ⟨h1, h2, h3, -, -, -, h7, h8, h9, h10, h11, h12, -, h14, h15⟩ := h
  refine ⟨h1, h2, h3, Nat.succ_pos 2047, Nat.succ_pos 511, Nat.succ_pos 1023, h7, h8, h9, h10, h11, h12, fun k hk => ?_, h14, h15⟩
  obtain ⟨j, -, rfl⟩ := Option.map_eq_some_iff.mp hk
  exact ⟨Nat.zero_le _, rfl⟩

theorem Channel.diverged_works (ch : Channel) : ch.WorksTo ch.diverged :=
  ⟨ch.diverged_steers, id, Channel.diverged_counts⟩

theorem State.zeroHeldTaps_works (s : State) (c : Chan) : s.Works (s.zeroHeldTaps c) :=
  (State.PlacesTidied.zeroHeldTaps s c).works fun h => h.ofBlocks (s.zeroHeldTaps_chan c)
    (fun b => by rw [State.zeroHeldTaps_block]; split <;> rfl) (s.zeroHeldTaps_wait c)

/-- A divergence, once the taps are zeroed (R60, R90). -/
theorem State.diverge_steered (s : State) (c : Chan) : (s.zeroHeldTaps c).Steered (s.diverge c) c Channel.diverged := by
  have hstate : (s.zeroHeldTaps c).Steered (s.divergedState c) c Channel.diverged := .onChan _ c _
  rw [State.diverge_eq]
  split
  · exact (hstate.raiseNotice _ _).raiseNotice _ _
  · exact hstate.raiseNotice _ _

theorem State.diverge_works (s : State) (c : Chan) : s.Works (s.diverge c) :=
  (s.zeroHeldTaps_works c).trans ((s.diverge_steered c).worksTo (Channel.diverged_works _))

/-! ## The tone monitor -/

/-- What the exit to NORMAL makes of the context (R110). -/
def Channel.returned (ch : Channel) : Channel :=
  { ch with toneMode := if ch.inSample = true ∧ ch.quietRun = 2000 then .normal else ch.toneMode }

theorem State.returnToNormal_steered (s : State) (c : Chan) : s.Steered (s.returnToNormal c) c Channel.returned := by
  rw [State.returnToNormal_eq]
  split
  · next h =>
    obtain ⟨hin, hquiet, -⟩ := h
    refine ((State.Steered.onChan s c _).raiseNotice _ _).congr ?_
    rw [Channel.returned, if_pos ⟨hin, hquiet⟩]
  · next h =>
    refine .of_eq ?_
    rw [Channel.returned]
    split
    · next hexit =>
      have hnormal : (s.chan c).toneMode = .normal := Decidable.not_not.mp fun hne => h ⟨hexit.1, hexit.2, hne⟩
      rw [← hnormal]
    · rfl

theorem Channel.returned_works (ch : Channel) : ch.WorksTo ch.returned := .of_same id id id

/-- The mode that the policy's table gives a detection event (R107). -/
def Channel.toneTarget (ch : Channel) (p : Profile) : ToneMode := toneModeAfter p.tonePolicy ch.toneMode ch.toneReversal

/-- A detection event changes the tone mode (R106, R107). -/
abbrev Channel.ToneMoves (ch : Channel) (p : Profile) : Prop :=
  (3200 ≤ ch.toneS.count ∨ 3200 ≤ ch.toneX.count) ∧ ch.toneTarget p ≠ ch.toneMode

/-- What a detection makes of the context, where a stream has reported, and nothing where none has (R106, R107). -/
def Channel.detected (ch : Channel) (p : Profile) : Channel :=
  if ch.ToneMoves p then ch.reported.toneChanged (ch.toneTarget p) else ch.reported

theorem Channel.reported_of_none {ch : Channel} (h : ¬(3200 ≤ ch.toneS.count ∨ 3200 ≤ ch.toneX.count)) : ch.reported = ch := by
  obtain ⟨hs, hx⟩ := not_or.mp h
  rw [Channel.reported, ToneRun.restart_eq, ToneRun.restart_eq, if_neg hs, if_neg hx]

theorem State.detectTone_steered (s : State) (c : Chan) (p : Profile) :
    s.Steered (s.detectTone c p) c fun ch => ch.detected p := by
  rw [State.detectTone_eq]
  split
  · next h =>
    split
    · next hsame =>
      refine (State.Steered.onChan s c _).congr ?_
      rw [Channel.detected, if_neg fun hm => hm.2 hsame]
    · next hmoves =>
      refine (((State.Steered.onChan s c _).raiseNotice _ _).raiseNotice _ _).congr ?_
      rw [Channel.detected, if_pos ⟨h, hmoves⟩]
      rfl
  · next h =>
    refine .of_eq ?_
    rw [Channel.detected, if_neg fun hm => h hm.1, Channel.reported_of_none h]

theorem ToneRun.restart_lt (r : ToneRun) : r.restart.count < 3200 := by
  rw [ToneRun.restart_eq]
  split
  · exact Nat.succ_pos 3199
  · next h => exact Nat.lt_of_not_le h

/-- The counts but for the tone runs. -/
theorem Channel.reported_counts {ch : Channel} {r x : ToneRun} (h : ({ ch with toneS := r, toneX := x } : Channel).CountsHeld) :
    ch.reported.CountsHeld := by
  obtain ⟨h1, h2, h3, h4, h5, h6, h7, h8, -, -, h11⟩ := h
  exact ⟨h1, h2, h3, h4, h5, h6, h7, h8, ToneRun.restart_lt _, ToneRun.restart_lt _, h11⟩

theorem Channel.detected_counts {ch : Channel} (p : Profile) {r x : ToneRun}
    (h : ({ ch with toneS := r, toneX := x } : Channel).CountsHeld) : (ch.detected p).CountsHeld := by
  unfold Channel.detected
  split
  · exact Channel.reported_counts h
  · exact Channel.reported_counts h

theorem Channel.reported_steers (ch : Channel) : ch.Steers ch.reported :=
  Channel.SameService.steers ⟨rfl, rfl, rfl, rfl, rfl⟩ rfl rfl rfl id

theorem Channel.detected_steers (ch : Channel) (p : Profile) : ch.Steers (ch.detected p) := by
  unfold Channel.detected
  split
  · exact Channel.SameService.steers ⟨rfl, rfl, rfl, rfl, rfl⟩ rfl rfl rfl fun ⟨h1, h2, h3, h4, _, h6⟩ => ⟨h1, h2, h3, h4, bump_le _, h6⟩
  · exact ch.reported_steers

theorem Channel.detected_signal {ch : Channel} (p : Profile) (h : ch.SignalSound) : (ch.detected p).SignalSound := by
  unfold Channel.detected
  split <;> exact h

theorem Channel.detected_works (ch : Channel) (p : Profile) : ch.WorksTo (ch.detected p) :=
  ⟨ch.detected_steers p, Channel.detected_signal p, Channel.detected_counts p⟩

/-! ## The level controller -/

theorem Channel.clip_works (ch : Channel) : ch.WorksTo ch.clip :=
  .of_same (fun ⟨h1, h2, h3, h4, h5, _⟩ => ⟨h1, h2, h3, h4, h5, Nat.min_le_left _ _⟩) id id

/-- A gain index moved within the limits of the active profile (R116). -/
theorem Channel.gain_works {ch : Channel} {p : Profile} (hp : ch.profile = some p) {g : Nat}
    (hg : p.LevelsSound → (p.alcOn = true → p.gmin ≤ ch.gain ∧ ch.gain ≤ p.gmax) → ch.gain ≤ 48 →
      g ≤ 48 ∧ (p.alcOn = true → p.gmin ≤ g ∧ g ≤ p.gmax)) : ch.WorksTo { ch with gain := g } := by
  refine ⟨⟨.inl rfl, rfl, rfl, rfl, rfl, rfl, id, fun ⟨hle, hpad, hlimits, hrecords⟩ => ?_⟩, id, id⟩
  obtain ⟨hlevels, hwithin⟩ := hlimits p hp
  obtain ⟨hle', hwithin'⟩ := hg hlevels hwithin hle
  refine ⟨hle', hpad, fun q hq => ?_, hrecords⟩
  obtain rfl : p = q := Option.some.inj (hp.symm.trans hq)
  exact ⟨hlevels, hwithin'⟩

theorem Channel.stepDown_works {ch : Channel} {p : Profile} (hp : ch.profile = some p) : ch.WorksTo (ch.stepDown p) := by
  unfold Channel.stepDown
  split
  · next h => exact Channel.gain_works hp fun _ hwithin hle => ⟨by omega, fun hon => by have := hwithin hon; omega⟩
  · exact ch.clip_works

theorem Channel.stepUp_works {ch : Channel} {p : Profile} (hp : ch.profile = some p) : ch.WorksTo (ch.stepUp p) := by
  unfold Channel.stepUp
  split
  · next h => exact Channel.gain_works hp fun hlevels _ _ => ⟨by have := hlevels.2.1; omega, fun _ => by omega⟩
  · exact ch.clip_works

/-- The release count moved (R118). -/
theorem Channel.release_works {ch : Channel} {n : Nat} (hn : n ≤ 3) : ch.WorksTo { ch with releaseCount := n } :=
  .of_same id id fun ⟨h1, h2, h3, h4, h5, h6, h7, h8, h9, h10, h11, _, h13⟩ =>
    ⟨h1, h2, h3, h4, h5, h6, h7, h8, h9, h10, h11, hn, h13⟩

theorem Channel.alcAction_works {ch : Channel} {p : Profile} (hp : ch.profile = some p) : ch.WorksTo (ch.alcAction p) := by
  unfold Channel.alcAction
  split
  · exact (Channel.release_works (Nat.zero_le 3)).trans (Channel.stepDown_works hp)
  · split
    · split
      · exact Channel.release_works (by omega)
      · exact (Channel.release_works (Nat.zero_le 3)).trans (Channel.stepUp_works hp)
    · exact Channel.release_works (Nat.zero_le 3)

/-- A counted sample, or none, and then the end of the period where it has come (R117, R118). -/
theorem Channel.endPeriod_works {ch : Channel} {p : Profile} (hp : ch.profile = some p) (n : Nat) :
    ch.WorksTo ({ ch with periodCount := n }.endPeriod p) := by
  unfold Channel.endPeriod
  split
  · have hzero : ch.WorksTo { ch with periodCount := 0 } :=
      .of_same id id fun ⟨h1, h2, h3, h4, h5, h6, h7, h8, h9, h10, _, h12⟩ =>
        ⟨h1, h2, h3, h4, h5, h6, h7, h8, h9, h10, Nat.zero_le _, h12⟩
    exact hzero.trans (Channel.alcAction_works hp)
  · next h =>
    exact .of_same id id fun ⟨h1, h2, h3, h4, h5, h6, h7, h8, h9, h10, _, h12⟩ =>
      ⟨h1, h2, h3, h4, h5, h6, h7, h8, h9, h10, Nat.le_of_lt_succ (Nat.lt_of_not_le h), h12⟩

/-! ## The life cycle -/

/-- What the end of OPENING makes of the context (R131). -/
def Channel.openingEnded (ch : Channel) (p : Profile) : Channel :=
  { ch with life := if ch.life = .opening ∧ bulkOffset p + 1024 ≤ ch.openingCount then .active else ch.life }

theorem State.endOpening_steered (s : State) (c : Chan) (p : Profile) :
    s.Steered (s.endOpening c p) c fun ch => ch.openingEnded p := by
  unfold State.endOpening
  split
  · next h =>
    refine ((State.Steered.onChan s c _).raiseNotice _ _).congr ?_
    rw [Channel.openingEnded, if_pos h]
  · next h => exact .of_eq (by rw [Channel.openingEnded, if_neg h])

theorem Channel.openingEnded_steers (ch : Channel) (p : Profile) : ch.Steers (ch.openingEnded p) := by
  refine ⟨?_, rfl, rfl, rfl, rfl, rfl, id, id⟩
  by_cases h : ch.life = .opening ∧ bulkOffset p + 1024 ≤ ch.openingCount
  · exact .inr ⟨h.1, if_pos h⟩
  · exact .inl (if_neg h)

/-- The counts once the opening count has been looked at, whatever it was (R131). -/
theorem Channel.openingEnded_counts {ch : Channel} {p : Profile} (hp : ch.profile = some p) {n : Nat}
    (h : ({ ch with openingCount := n } : Channel).CountsHeld) : (ch.openingEnded p).CountsHeld := by
  obtain ⟨h1, h2, h3, h4, h5, h6, h7, h8, h9, h10, h11, h12, h13, -, h15⟩ := h
  refine ⟨h1, h2, h3, h4, h5, h6, h7, h8, h9, h10, h11, h12, h13, fun hopening q hq => ?_, h15⟩
  obtain rfl : p = q := Option.some.inj (hp.symm.trans hq)
  have hlife : (ch.openingEnded p).life = .opening := hopening
  by_cases hend : ch.life = .opening ∧ bulkOffset p + 1024 ≤ ch.openingCount
  · rw [Channel.openingEnded, if_pos hend] at hlife; cases hlife
  · rw [Channel.openingEnded, if_neg hend] at hlife
    exact Nat.lt_of_not_le fun hle => hend ⟨hlife, hle⟩

theorem Channel.openingEnded_works {ch : Channel} {p : Profile} (hp : ch.profile = some p) : ch.WorksTo (ch.openingEnded p) :=
  ⟨ch.openingEnded_steers p, id, Channel.openingEnded_counts hp⟩

/-! ## The evaluation -/

theorem State.endDwell_works {s : State} {c : Chan} {p : Profile} (hp : (s.chan c).profile = some p) :
    s.Works (s.endDwell c p.quota) :=
  (State.PlacesTidied.endDwell s c p.quota).works fun h => h.endDwell hp

/-! ## The rows -/

theorem dtHangoverEnd_keeps {c : Chan} {s t : State} (h : execDtHangoverEnd c s = .next t) : s.KeepsAll t :=
  channelEvent_keeps h fun _ _ _ => .onChan (Channel.endHangover_works _)

theorem dwellEnd_keeps {c : Chan} {s t : State} (h : execDwellEnd c s = .next t) : s.KeepsAll t :=
  channelEvent_keeps h fun p _ hp => by
    split
    · exact State.endDwell_works hp
    · exact .refl s

theorem endOfOpening_keeps {c : Chan} {s t : State} (h : execEndOfOpening c s = .next t) : s.KeepsAll t :=
  channelEvent_keeps h fun p _ hp => (s.endOpening_steered c p).worksTo (Channel.openingEnded_works hp)

theorem reachTrack_keeps {c : Chan} {s t : State} (h : execReachTrack c s = .next t) : s.KeepsAll t :=
  channelEvent_keeps h fun p _ _ => by
    split
    · exact (s.reachTrack_steered c).worksTo (Channel.tracked_works _)
    · exact .refl s

theorem pathChange_keeps {c : Chan} {s t : State} (h : execPathChange c s = .next t) : s.KeepsAll t :=
  channelEvent_keeps h fun p _ _ => by
    split
    · exact (s.pathChange_steered c).worksTo (Channel.pathChanged_works _)
    · exact .refl s

theorem divergence_keeps {c : Chan} {s t : State} (h : execDivergence c s = .next t) : s.KeepsAll t :=
  channelEvent_keeps h fun p _ _ => by
    split
    · exact s.diverge_works c
    · exact .refl s

theorem nlpRelease_keeps {c : Chan} {s t : State} (h : execNlpRelease c s = .next t) : s.KeepsAll t :=
  channelEvent_keeps h fun _ _ _ => .onChan (Channel.releaseSuppressor_works _)

theorem noiseFloorUpdate_keeps {c : Chan} {s t : State} (h : execNoiseFloorUpdate c s = .next t) : s.KeepsAll t :=
  channelEvent_keeps h fun p _ _ => .onChan (f := fun ch => ch.updateNoiseFloor p) (Channel.updateNoiseFloor_works _ p)

theorem toneDetection_keeps {c : Chan} {s t : State} (h : execToneDetection c s = .next t) : s.KeepsAll t :=
  channelEvent_keeps h fun p _ _ => (s.detectTone_steered c p).worksTo (Channel.detected_works _ p)

theorem returnToNormal_keeps {c : Chan} {s t : State} (h : execReturnToNormal c s = .next t) : s.KeepsAll t :=
  channelEvent_keeps h fun _ _ _ => (s.returnToNormal_steered c).worksTo (Channel.returned_works _)

theorem alcPeriodEnd_keeps {c : Chan} {s t : State} (h : execAlcPeriodEnd c s = .next t) : s.KeepsAll t :=
  channelEvent_keeps h fun p _ hp => by
    split
    · exact .onChan (f := fun ch => ch.endPeriod p) (Channel.endPeriod_works (ch := s.chan c) hp _)
    · exact .refl s

/-! ## The quiet point -/

theorem Channel.takeProfile_held {ch : Channel} (old new : Profile) (hactive : ch.life = .active) (h : ch.CountsHeld) :
    (ch.takeProfile old new).CountsHeld := by
  have hcomm : (ch.takeProfile old new).setInSample false = (ch.setInSample false).takeProfile old new := by
    rw [Channel.takeProfile_eq, Channel.takeProfile_eq]; rfl
  rw [Channel.CountsHeld, hcomm]
  exact Channel.takeProfile_counts (ch := ch.setInSample false) old new hactive h

/-- The channels through an apply before its notice: the marks of samples in work, and the counts (R135). -/
theorem State.applied_marks {s : State} {c : Chan} (old new : Profile) (hactive : (s.chan c).life = .active) :
    (∀ d : Chan, ((s.applied c old new).chan d).inSample = (s.chan d).inSample) ∧
      (s.CountsHeld → (s.applied c old new).CountsHeld) := by
  let taken := s.onChan c fun ch => ch.takeProfile old new
  let shed := taken.reduceQuota c new.quota (s.chan c).windows.length
  have htaken : ∀ d : Chan, (taken.chan d).inSample = (s.chan d).inSample ∧
      ((s.chan d).CountsHeld → (taken.chan d).CountsHeld) := fun d => by
    by_cases hd : d = c
    · rw [hd, State.onChan_chan_self]; exact ⟨rfl, Channel.takeProfile_held old new hactive⟩
    · rw [State.onChan_chan_of_ne _ _ hd]; exact ⟨rfl, id⟩
  have hshed : taken.PlacesTidied shed := .reduceQuota _ _ _ _
  have hcleared : ∀ d : Chan, ((s.applied c old new).chan d).inSample = (shed.chan d).inSample ∧
      ((shed.chan d).CountsHeld → ((s.applied c old new).chan d).CountsHeld) := fun d => by
    by_cases hd : d = c
    · rw [State.applied, hd, State.onChan_chan_self]; exact ⟨rfl, id⟩
    · rw [State.applied, State.onChan_chan_of_ne _ _ hd]; exact ⟨rfl, id⟩
  refine ⟨fun d => ?_, fun hc d => (hcleared d).2 ?_⟩
  · rw [(hcleared d).1, hshed.chan d]; exact (htaken d).1
  · rw [hshed.chan d]
    exact Channel.countsSound_replant (ch := (taken.chan d).setInSample false) (hshed.tends d) ((htaken d).2 (hc d))

theorem State.applyTakesEffect_applied (s : State) (c : Chan) (new : Profile) :
    s.applyTakesEffect c new = (s.applied c ((s.chan c).profile.getD new) new).raiseNotice (.channel c) .applied := by
  simp only [State.applyTakesEffect, State.onChan_chan_self]
  rfl

theorem State.applied_law (s : State) (c : Chan) (old new : Profile) : (s.applied c old new).law = s.law :=
  (State.PlacesTidied.reduceQuota (s.onChan c fun ch => ch.takeProfile old new) c new.quota (s.chan c).windows.length).law

theorem State.applyTakesEffect_works {s : State} {c : Chan} {new : Profile} (hactive : (s.chan c).life = .active)
    (hstaged : (s.chan c).staged = .pending new) : s.Works (s.applyTakesEffect c new) := by
  have hkeeps := State.applyTakesEffect_keeps hactive (.inr hstaged)
  have hpool : s.PoolSound → (s.applyTakesEffect c new).PoolSound := fun h => by
    have hopen : (s.chan c).life ≠ .closed := life_ne_closed_of_active hactive
    obtain ⟨old, hp⟩ := Option.ne_none_iff_exists'.mp fun hnone => hopen ((h.profilesHeld c).mpr hnone)
    obtain ⟨-, -, hpending⟩ := h.profilesSound c
    have hmem : new ∈ (s.chan c).staged.pendingRecord := by rw [hstaged]; rfl
    exact h.applyTakesEffect hactive hp (.inr hstaged) ((hpending new hmem).2 old hp).2
  rw [State.applyTakesEffect_applied] at hkeeps hpool ⊢
  obtain ⟨hmark, hcounts⟩ := State.applied_marks (s := s) (c := c) ((s.chan c).profile.getD new) new hactive
  have hraised := State.Works.raiseNotice (s.applied c ((s.chan c).profile.getD new) new) (.channel c) .applied
  exact ⟨hkeeps, hraised.law.trans (State.applied_law ..), fun d => (hraised.mark d).trans (hmark d),
    fun h => hraised.counts (hcounts h), hpool⟩

theorem State.quietPoint_works (s : State) (c : Chan) : s.Works (s.quietPoint c) := by
  unfold State.quietPoint
  split
  · next q hq =>
    split
    · next h => exact State.applyTakesEffect_works h.2.1 hq
    · exact .refl s
  · exact .refl s

theorem quietPoint_keeps {c : Chan} {s t : State} (h : execQuietPoint c s = .next t) : s.KeepsAll t :=
  channelEvent_keeps h fun _ _ _ => s.quietPoint_works c

end Sys2Proof.Machine
end

section
/-!
PROOFS. The work of a sample keeps the laws of the states (section 1.6).
-/

namespace Sys2Proof.Machine

/-! ## Values in their ranges -/

theorem saturate_linear (v : Int) : Linear (saturate v) := by
  rw [saturate, clampInt]; omega

theorem expand_linear {t : LawTable} (h : ∀ v ∈ t.entries, Linear v) (k : Byte) : Linear (expand t k) := by
  unfold expand
  rw [List.getD_eq_getElem?_getD]
  cases hk : t.entries[k.toNat]? with
  | none => exact ⟨by decide, by decide⟩
  | some v => exact h v (List.mem_of_getElem? hk)

theorem LawStore.Linear.table {l : LawStore} (h : l.Linear) (t : TableName) : ∀ v ∈ (l.table t).entries, Machine.Linear v := by
  cases t with
  | a => exact h.1
  | b => exact h.2.1

/-- What an arrival brings lies in the linear range (R1, R4). -/
abbrev Arrival.Linear (a : Arrival) : Prop := Machine.Linear a.x ∧ Machine.Linear a.send

theorem State.receive_linear {s : State} (h : s.law.Linear) (c : Chan) (p : Profile) (rin sin : Byte) :
    (s.receive c p rin sin).Linear :=
  ⟨expand_linear (h.table _) _, expand_linear (h.table _) _⟩

theorem residual_linear {a : Arrival} (h : a.Linear) (estimate : Int) : Linear (residual a estimate) := by
  unfold residual
  split
  · exact h.2
  · exact saturate_linear _

theorem track_le {n : Nat} {u : Int} (hn : n ≤ 1048575) (hu : Linear u) : track n u ≤ 1048575 := by
  rw [track]; omega

theorem nextNoise_bounds {r : Nat} (h : 1 ≤ r ∧ r ≤ 32767) : 1 ≤ nextNoise r ∧ nextNoise r ≤ 32767 := by
  rw [nextNoise]
  obtain ⟨hlo, hhi⟩ := h
  obtain hbit | hbit := Nat.mod_two_eq_zero_or_one r <;> obtain hnext | hnext := Nat.mod_two_eq_zero_or_one (r / 2) <;>
    rw [hbit, hnext] <;> omega

theorem comfortNoise_linear {r n : Nat} (hr : 1 ≤ r ∧ r ≤ 32767) (hn : n ≤ 95) : Linear (comfortNoise r n) := by
  have habs : (((r : Int) - 16384) * n).natAbs ≤ 16384 * 95 := by
    rw [Int.natAbs_mul]
    exact Nat.mul_le_mul (by omega) (by omega)
  have hquotient : (((r : Int) - 16384) * n).tdiv 8192 = comfortNoise r n := rfl
  have hle := Int.natAbs_tdiv (((r : Int) - 16384) * n) 8192
  rw [hquotient] at hle
  have hdiv : (((r : Int) - 16384) * n).natAbs / 8192 ≤ 16384 * 95 / 8192 := Nat.div_le_div_right habs
  change (comfortNoise r n).natAbs = _ / 8192 at hle
  rw [Linear]
  omega

theorem Channel.suppressed_linear {ch : Channel} (h : ch.SignalSound) (p : Profile) {e : Int} (he : Linear e) :
    Linear (ch.suppressed p e) := by
  obtain ⟨-, -, -, -, -, -, hfloor, hreg⟩ := h
  unfold Channel.suppressed
  split
  · split
    · exact he
    · have hquarter : (e.tdiv 4).natAbs = e.natAbs / 4 := Int.natAbs_tdiv e 4
      rw [Linear] at he ⊢
      omega
    · exact comfortNoise_linear hreg hfloor
    · exact ⟨by decide, by decide⟩
  · exact he

/-! ## Steps 1 to 3 within the channel -/

theorem Channel.hear_steers (ch : Channel) (a : Arrival) : ch.Steers (ch.hear a) :=
  Channel.SameService.steers ⟨rfl, rfl, rfl, rfl, rfl⟩ rfl rfl rfl id

theorem Channel.hear_signal {ch : Channel} {a : Arrival} (ha : a.Linear) (h : ch.SignalSound) : (ch.hear a).SignalSound := by
  obtain ⟨hlength, hring, hx, hs, he, hv, hrest⟩ := h
  obtain ⟨hlx, hls⟩ := ha
  refine ⟨?_, fun v hv => ?_, track_le hx hlx, track_le hs hls, he, hv, hrest⟩
  · show ((a.x :: ch.ring).take 2048).length = 2048
    rw [List.length_take, List.length_cons, hlength]; rfl
  · obtain rfl | hv := List.mem_cons.mp (List.mem_of_mem_take hv)
    · exact hlx
    · exact hring v hv

theorem Channel.moveDt_works (ch : Channel) (q : Bool) : ch.WorksTo (ch.moveDt q) := by
  unfold Channel.moveDt
  split
  · split
    · next hflag =>
      refine .of_same id id fun ⟨_, _, h3⟩ => ⟨Nat.le_refl 240, ?_, h3⟩
      exact ⟨fun _ => Nat.succ_pos 239, fun _ => hflag⟩
    · refine .of_same (fun ⟨_, h2⟩ => ⟨bump_le _, h2⟩) id fun ⟨_, _, h3⟩ => ⟨Nat.le_refl 240, ?_, h3⟩
      exact ⟨fun _ => Nat.succ_pos 239, fun _ => rfl⟩
  · split
    · next hflag =>
      unfold Channel.endHangover
      split
      · next hend =>
        simp only [Bool.and_eq_true, beq_iff_eq] at hend
        refine .of_same id id fun ⟨h1, _, h3⟩ => ⟨(Nat.sub_le _ 1).trans h1, ?_, h3⟩
        show false = true ↔ 0 < ch.dtHangover - 1
        rw [hend.2]
        exact ⟨nofun, nofun⟩
      · next hend =>
        simp only [Bool.and_eq_true, beq_iff_eq, not_and] at hend
        refine .of_same id id fun ⟨h1, _, h3⟩ => ⟨(Nat.sub_le _ 1).trans h1, ?_, h3⟩
        exact ⟨fun hf => Nat.pos_of_ne_zero (hend hf), fun _ => hflag⟩
    · exact .refl ch

theorem Channel.setTalk_works (ch : Channel) (k : Talk) : ch.WorksTo (ch.setTalk k) := by
  refine .of_same id id fun ⟨h1, h2, _, h4⟩ => ⟨h1, h2, ?_, h4⟩
  show (if k = .idle then min 65535 (ch.quietRun + 1) else 0) ≤ 65535
  split
  · exact Nat.min_le_left _ _
  · exact Nat.zero_le _

theorem Channel.noteOverload_works (ch : Channel) (a : Arrival) : ch.WorksTo (ch.noteOverload a) := by
  unfold Channel.noteOverload
  split
  · exact .of_same id id id
  · exact .refl ch

/-- The channel once it has heard the sample and the talk detector has judged it (steps 1 to 3 of R15, before the tones). -/
def Channel.judged (ch : Channel) (a : Arrival) : Channel :=
  let moved := (ch.hear a).moveDt ((ch.hear a).qualifies a)
  (moved.setTalk (moved.talkState a.profile)).noteOverload a

/-- The talk detector's work on what the channel has heard. -/
theorem Channel.judged_works (ch : Channel) (a : Arrival) : (ch.hear a).WorksTo (ch.judged a) :=
  ((Channel.moveDt_works _ _).trans (Channel.setTalk_works _ _)).trans (Channel.noteOverload_works _ a)

/-- The channel after steps 1 to 3 of R15. -/
def Channel.sensed (ch : Channel) (a : Arrival) : Channel := ((ch.judged a).moveTones.returned).detected a.profile

theorem State.stepsOneToThree_steered (s : State) (c : Chan) (a : Arrival) :
    s.Steered (s.stepsOneToThree c a) c fun ch => ch.sensed a :=
  ((State.Steered.onChan s c fun ch => (ch.hear a).classify a).trans (State.returnToNormal_steered _ c)).trans
    (State.detectTone_steered _ c a.profile)

theorem Channel.sensed_steers (ch : Channel) (a : Arrival) : ch.Steers (ch.sensed a) :=
  (((ch.hear_steers a).trans (ch.judged_works a).toSteers).trans (d := (ch.judged a).moveTones.returned)
    (Channel.SameService.steers ⟨rfl, rfl, rfl, rfl, rfl⟩ rfl rfl rfl id)).trans (Channel.detected_steers _ _)

theorem Channel.sensed_signal {ch : Channel} {a : Arrival} (ha : a.Linear) (h : ch.SignalSound) : (ch.sensed a).SignalSound :=
  Channel.detected_signal a.profile (ch := (ch.judged a).moveTones.returned) ((ch.judged_works a).signal (Channel.hear_signal ha h))

/-- The tone runs and the exit to NORMAL are the only things that come between the talk detector and a detection. -/
theorem Channel.untoned_counts {ch : Channel} (h : ch.CountsHeld) :
    ({ ch.moveTones.returned with toneS := ch.toneS, toneX := ch.toneX } : Channel).CountsHeld := h

theorem Channel.sensed_counts {ch : Channel} (a : Arrival) (h : ch.CountsHeld) : (ch.sensed a).CountsHeld :=
  Channel.detected_counts a.profile (ch := (ch.judged a).moveTones.returned) (r := (ch.judged a).toneS) (x := (ch.judged a).toneX)
    (Channel.untoned_counts ((ch.judged_works a).counts h))

/-! ## Acts that keep the profile -/

/-- An act within a sample of channel `c`, which keeps its profile. -/
structure State.WorksOn (s t : State) (c : Chan) : Prop extends s.Works t where
  profile : (t.chan c).profile = (s.chan c).profile

theorem State.WorksOn.refl (s : State) (c : Chan) : s.WorksOn s c := ⟨.refl s, rfl⟩

theorem State.WorksOn.trans {s t u : State} {c : Chan} (h : s.WorksOn t c) (h' : t.WorksOn u c) : s.WorksOn u c :=
  ⟨h.toWorks.trans h'.toWorks, h'.profile.trans h.profile⟩

theorem State.Steered.worksOn {s t : State} {c : Chan} {f : Channel → Channel} (h : s.Steered t c f)
    (hsteers : (s.chan c).Steers (f (s.chan c)))
    (hsignal : s.law.Linear → (s.chan c).SignalSound → (f (s.chan c)).SignalSound)
    (hcounts : (s.chan c).CountsHeld → (f (s.chan c)).CountsHeld) : s.WorksOn t c :=
  ⟨h.works hsteers hsignal hcounts, by rw [h.self, hsteers.profile]⟩

/-- Blocks with other values, and nothing else. -/
theorem State.Works.ofTaps {s t : State} (hchan : ∀ d : Chan, t.chan d = s.chan d)
    (hcond : ∀ b : BlockNo, (t.block b).condition = (s.block b).condition) (hwait : t.wait = s.wait)
    (hframe : t.law = s.law ∧ t.port = s.port ∧ t.sig = s.sig)
    (htaps : s.SignalSound → s.ProfilesSound → s.TapsSound → t.TapsSound) : s.Works t :=
  ⟨.of_chans (fun d => by rw [hchan]; exact .refl _) (fun d h => by rwa [hchan] at h) (fun _ h => by rwa [hchan]) htaps hframe,
    hframe.1, fun d => by rw [hchan], fun h d => by rw [hchan]; exact h d, fun h => h.ofBlocks hchan hcond hwait⟩

/-- The values of one block. -/
theorem State.tapsSound_setBlock {s : State} {b : BlockNo} {k : Block} (hk : k.taps.length = 32 ∧ ∀ v ∈ k.taps, TapValue v)
    (h : s.TapsSound) : (s.setBlock b k).TapsSound := fun j => by
  by_cases hj : j = b
  · rw [hj, State.setBlock_block_self]; exact hk
  · rw [State.setBlock_block_of_ne _ _ hj]; exact h j

/-! ## Disturbances -/

theorem Disturbance.taps_sound (d : Disturbance) : d.taps.length = 32 ∧ ∀ v ∈ d.taps, TapValue v := by
  refine ⟨by rw [Disturbance.taps, List.length_map, Vector.length_toList], fun v hv => ?_⟩
  obtain ⟨w, -, rfl⟩ := List.mem_map.mp hv
  have hlo := BitVec.le_toInt w
  have hhi := BitVec.toInt_lt (x := w)
  rw [TapValue]
  omega

theorem State.disturb_works (s : State) (upset : List Disturbance) : s.Works (s.disturb upset) := by
  unfold State.disturb
  induction upset generalizing s with
  | nil => exact .refl s
  | cons d ds ih =>
    rw [List.foldl_cons]
    refine State.Works.trans ?_ (ih _)
    refine .ofTaps (fun _ => rfl) (fun b => ?_) rfl ⟨rfl, rfl, rfl⟩ fun _ _ => State.tapsSound_setBlock (Disturbance.taps_sound d)
    by_cases hb : b = d.block
    · rw [hb, State.setBlock_block_self]
    · rw [State.setBlock_block_of_ne _ _ hb]

/-! ## Step 6: the adaptation -/

/-- A ring of 2048 values and a bulk offset field of at most 32 give every tap of a block a value (R21, R23, R24). -/
theorem length_pairedValues {p : Profile} {ring : List Int} (hbulk : p.bulk ≤ 32) (hring : ring.length = 2048) (q : Pos) :
    (pairedValues p ring q).length = 32 := by
  have hq := q.isLt
  rw [pairedValues, List.length_take, List.length_drop, hring, bulkOffset]
  omega

theorem movedTap_tapValue (step : Nat) (e : Int) (power : Nat) (t x : Int) : TapValue (movedTap step e power t x) := by
  rw [movedTap, clampInt, TapValue]; omega

theorem mem_zipWith {α β γ : Type} {f : α → β → γ} {P : γ → Prop} (hf : ∀ (a : α) (b : β), P (f a b)) {as : List α} {bs : List β} :
    ∀ v ∈ List.zipWith f as bs, P v := fun v hv => by
  rw [List.zipWith_eq_zipWith_take_min, ← List.map_uncurry_zip_eq_zipWith] at hv
  obtain ⟨k, -, rfl⟩ := List.mem_map.mp hv
  exact hf k.1 k.2

theorem State.updateBlock_works {s : State} {c : Chan} {p : Profile} (hp : (s.chan c).profile = some p) {ring : List Int}
    (hring : s.SignalSound → ring.length = 2048) (e : Int) (power : Nat) (k : Pos × BlockNo) :
    s.WorksOn (s.updateBlock ring p e power k) c := by
  refine ⟨.ofTaps (fun _ => rfl) (fun b => ?_) rfl ⟨rfl, rfl, rfl⟩ fun hs hprofiles hs' => ?_, rfl⟩
  · by_cases hb : b = k.2
    · rw [hb, State.updateBlock, State.writeTaps_block, if_pos rfl]
    · rw [State.updateBlock, State.writeTaps_block, if_neg hb]
  · obtain ⟨hfields, -⟩ := hprofiles c
    obtain ⟨-, -, -, -, -, hbulk, -⟩ := hfields p hp
    refine State.tapsSound_setBlock ⟨?_, mem_zipWith fun t x => movedTap_tapValue _ _ _ t x⟩ hs'
    show (List.zipWith _ _ _).length = 32
    rw [List.length_zipWith, (hs' k.2).1, length_pairedValues hbulk (hring hs)]
    rfl

theorem State.updateBlocks_works {s : State} {c : Chan} {p : Profile} (hp : (s.chan c).profile = some p) {ring : List Int}
    (hring : s.SignalSound → ring.length = 2048) (e : Int) (power : Nat) (cover : List (Pos × BlockNo)) :
    s.WorksOn (cover.foldl (fun t k => t.updateBlock ring p e power k) s) c := by
  induction cover generalizing s with
  | nil => exact .refl s c
  | cons k ks ih =>
    rw [List.foldl_cons]
    exact (State.updateBlock_works hp hring e power k).trans (ih (s := s.updateBlock ring p e power k) hp hring)

end Sys2Proof.Machine
end

section
/-!
PROOFS. The adaptation, the runs and the output of a sample keep the laws of the states, and so does an arrival (R15, R152).
-/

namespace Sys2Proof.Machine

/-! ## Step 6: the dwell and the evaluation -/

theorem Channel.advanceDwell_steers (ch : Channel) (mode : Service) (tookPart : List BlockNo) :
    ch.Steers (ch.advanceDwell mode tookPart) := by
  unfold Channel.advanceDwell
  split
  · next k hk =>
    split
    · exact Channel.SameService.steers ⟨rfl, rfl, rfl, rfl, rfl⟩ rfl (by rw [hk]; rfl) rfl id
    · exact .refl ch
  · exact .refl ch

/-- A scout that stands between samples: its dwell count below every dwell length, and no evaluation due (R48). -/
abbrev Scout.Resting (k : Scout) : Prop := k.dwell ≤ 2047 ∧ k.due = none

/-- A scout as a fresh one stands: dwell count 0, no evaluation due (R57). -/
abbrev Scout.Fresh (k : Scout) : Prop := k.dwell = 0 ∧ k.due = none

theorem Scout.Fresh.resting {k : Scout} (h : k.Fresh) : k.Resting := ⟨h.1.trans_le (Nat.zero_le _), h.2⟩

theorem State.carryOut_scout (s : State) (c : Chan) (k : Scout) (v : Verdict) :
    ∀ j ∈ ((s.carryOut c k v).chan c).scout, j.Fresh := by
  have hfresh : ∀ {ch : Channel} {p : Pos} {b : BlockNo}, ∀ j ∈ (ch.placeScoutAfter p b).scout, j.Fresh := fun j hj => by
    obtain rfl := Option.some.inj hj
    exact ⟨rfl, rfl⟩
  cases v with
  | add =>
    cases hf : s.freeBlocks with
    | nil =>
      rw [State.carryOut_add_wait c k hf, State.onChan_chan_self]
      exact fun j hj => absurd hj (Option.not_mem_none j)
    | cons f fs =>
      rw [State.carryOut_add_free c k hf, State.onChan_chan_self]
      exact hfresh
  | swap w b =>
    rw [State.carryOut, State.onChan_chan_self]
    exact hfresh (ch := { s.chan c with windows := insertWindow k.gained ((s.chan c).windows.filter fun v => v.pos != w.pos) })
  | discard =>
    rw [State.carryOut, State.onChan_chan_self]
    exact hfresh

theorem State.evaluate_scout (s : State) (c : Chan) (quota : Nat) (tookPart : List BlockNo) (k : Scout) :
    ∀ j ∈ ((s.evaluate c quota tookPart k).chan c).scout, j.Fresh := by
  rw [State.evaluate_eq_outcome, State.outcome_eq]
  split
  · rw [State.raiseNotice_chan]; exact State.carryOut_scout s c k _
  · exact State.carryOut_scout s c k _

theorem dwellLength_le (mode : Service) : dwellLength mode ≤ 2048 := by cases mode <;> decide

/-- After the dwell advance and the evaluation it makes due, the scout that stands rests (R48). -/
theorem State.advanced_resting {s : State} {c : Chan} (mode : Service) (tookPart : List BlockNo) (quota : Nat)
    (h : ∀ k ∈ (s.chan c).scout, k.Resting) :
    ∀ k ∈ (((s.onChan c fun ch => ch.advanceDwell mode tookPart).endDwell c quota).chan c).scout, k.Resting := by
  have hstands : ∀ t : State, (∀ k ∈ (t.chan c).scout, k.Resting) → ∀ k ∈ ((t.endDwell c quota).chan c).scout, k.Resting := fun t ht => by
    rw [State.endDwell_of_not_due quota fun k hk => (ht k hk).2]
    exact ht
  cases hk : (s.chan c).scout with
  | none =>
    refine hstands _ fun k hk' => ?_
    rw [State.onChan_chan_self] at hk'
    simp only [Channel.advanceDwell, hk] at hk'
    exact absurd hk' (Option.not_mem_none k)
  | some k =>
    by_cases htook : tookPart.contains k.block
    · have hadvanced : ((s.onChan c fun ch => ch.advanceDwell mode tookPart).chan c).scout =
          some { k with dwell := k.dwell + 1, due := if dwellLength mode ≤ k.dwell + 1 then some tookPart else none } := by
        rw [State.onChan_chan_self]
        simp only [Channel.advanceDwell, hk, htook, if_true]
      by_cases hdue : dwellLength mode ≤ k.dwell + 1
      · rw [if_pos hdue] at hadvanced
        rw [State.endDwell_of_due quota hadvanced rfl]
        exact fun j hj => Scout.Fresh.resting (State.evaluate_scout _ _ _ _ _ j hj)
      · rw [if_neg hdue] at hadvanced
        refine hstands _ fun j hj => ?_
        rw [hadvanced] at hj
        obtain rfl := Option.some.inj hj
        have := dwellLength_le mode
        exact ⟨by show k.dwell + 1 ≤ 2047; omega, rfl⟩
    · refine hstands _ fun j hj => ?_
      rw [State.onChan_chan_self] at hj
      simp only [Channel.advanceDwell, hk, htook] at hj
      exact h j hj

/-- The counts of a channel with another placing, whose scout rests. -/
theorem Channel.CountsHeld.replant {ch : Channel} (h : ch.CountsHeld) {x : Placing} (hx : ∀ k ∈ x.scout, k.Resting) :
    (ch.replant x).CountsHeld := by
  obtain ⟨h1, h2, h3, h4, h5, h6, h7, h8, h9, h10, h11, h12, -, h14⟩ := h
  exact ⟨h1, h2, h3, h4, h5, h6, h7, h8, h9, h10, h11, h12, hx, h14⟩

theorem Channel.CountsHeld.resting {ch : Channel} (h : ch.CountsHeld) : ∀ k ∈ ch.scout, k.Resting := by
  obtain ⟨-, -, -, -, -, -, -, -, -, -, -, -, hscout, -⟩ := h
  exact hscout

/-- A permitted sample: the update, the dwell advance and the evaluation (R31, R47, R48). -/
theorem State.adapt_works {s : State} {c : Chan} {a : Arrival} (hp : (s.chan c).profile = some a.profile)
    (cover : List (Pos × BlockNo)) (e : Int) (power : Nat) : s.WorksOn (s.adapt c a cover e power) c := by
  let updated := cover.foldl (fun t k => t.updateBlock (s.chan c).ring a.profile e power k) s
  let advanced := updated.onChan c fun ch => ch.advanceDwell a.start.service (cover.map Prod.snd)
  have hupdated : s.WorksOn updated c := State.updateBlocks_works hp (fun hs => (hs.2 c).1) e power cover
  have hmoved := State.PlacesMoved.adapt s c a cover e power
  have hended : advanced.PlacesTidied (s.adapt c a cover e power) := .endDwell advanced c a.profile.quota
  have hsteers := Channel.advanceDwell_steers (updated.chan c) a.start.service (cover.map Prod.snd)
  have hadvanced : updated.Keeps advanced := by
    refine .onChan (Channel.SameService.keeps ?_ hsteers.counters ?_) ?_
    all_goals rw [Channel.advanceDwell_replant]
    · exact ⟨rfl, rfl, rfl, rfl, rfl⟩
    · exact id
    · rfl
  refine ⟨⟨(hupdated.toKeeps.trans hadvanced).trans hended.keeps, hmoved.law, fun d => by rw [hmoved.chan d]; rfl, fun hc d => ?_,
    fun h => ?_⟩, hmoved.profile c⟩
  · by_cases hd : d = c
    · rw [hd, hmoved.chan c]
      exact (hc c).replant (State.advanced_resting _ _ _ (hupdated.counts hc c).resting)
    · rw [hended.chan d]
      refine Channel.countsSound_replant (ch := (advanced.chan d).setInSample false) (hended.tends d) ?_
      rw [State.onChan_chan_of_ne _ _ hd]
      exact hupdated.counts hc d
  · refine State.PoolSound.endDwell (s := advanced) ((hupdated.pool h).onChan
      ⟨?_, hsteers.profile, hsteers.staged, hsteers.windows, hsteers.scout⟩) ?_
    · rw [Channel.advanceDwell_replant]; rfl
    · rw [State.onChan_chan_self, hsteers.profile, hupdated.profile, hp]

/-! ## Step 6: the runs -/

/-- What settling the runs makes of the context (R91). -/
def Channel.settled (ch : Channel) : Channel :=
  if ch.diverging then ch.diverged else if ch.converged then ch.tracked else if ch.pathMoved then ch.pathChanged else ch

/-- What a divergence makes of the blocks comes first (R60, R91). -/
theorem State.settleRuns_steered (s : State) (c : Chan) :
    (if (s.chan c).diverging then s.zeroHeldTaps c else s).Steered (s.settleRuns c) c Channel.settled := by
  unfold State.settleRuns
  split
  · next h =>
    refine (s.diverge_steered c).congr ?_
    rw [State.zeroHeldTaps_chan, Channel.settled, if_pos h]
  · next h =>
    split
    · next h' => exact (s.reachTrack_steered c).congr (by rw [Channel.settled, if_neg h, if_pos h'])
    · next h' =>
      split
      · next h'' => exact (s.pathChange_steered c).congr (by rw [Channel.settled, if_neg h, if_neg h', if_pos h''])
      · next h'' => exact .of_eq (by rw [Channel.settled, if_neg h, if_neg h', if_neg h''])

theorem Channel.moveRuns_same (ch : Channel) :
    ch.moveRuns = { ch with
      convRun := ch.moveRuns.convRun, changeRun := ch.moveRuns.changeRun, divRun := ch.moveRuns.divRun } := by
  unfold Channel.moveRuns
  dsimp only
  split <;> rfl

theorem Channel.moveRuns_steers (ch : Channel) : ch.Steers ch.moveRuns := by
  rw [Channel.moveRuns_same]
  exact Channel.SameService.steers ⟨rfl, rfl, rfl, rfl, rfl⟩ rfl rfl rfl id

theorem Channel.moveRuns_signal {ch : Channel} (h : ch.SignalSound) : ch.moveRuns.SignalSound := by
  rw [Channel.moveRuns_same]
  exact h

theorem State.zeroHeldTaps_onChan {s : State} {c : Chan} {f : Channel → Channel} (h : (f (s.chan c)).covered = (s.chan c).covered) :
    (s.onChan c f).zeroHeldTaps c = (s.zeroHeldTaps c).onChan c f := by
  have hfold : ∀ (bs : List BlockNo) (t : State), bs.foldl State.zeroBlock (t.onChan c f) = (bs.foldl State.zeroBlock t).onChan c f :=
    fun bs => by
      induction bs with
      | nil => exact fun _ => rfl
      | cons b bs ih => exact fun t => ih (t.zeroBlock b)
  rw [State.zeroHeldTaps, State.zeroHeldTaps, State.onChan_chan_self, h, hfold]

/-- The runs moved and settled on a counted sample (R87, R91). -/
theorem State.countRuns_steered (s : State) (c : Chan) :
    (if (s.chan c).moveRuns.diverging then s.zeroHeldTaps c else s).Steered ((s.onChan c Channel.moveRuns).settleRuns c) c
      fun ch => ch.moveRuns.settled := by
  have hsettled := State.settleRuns_steered (s.onChan c Channel.moveRuns) c
  rw [State.onChan_chan_self] at hsettled
  split
  · next h =>
    rw [if_pos h, State.zeroHeldTaps_onChan (by rw [Channel.moveRuns_same]; rfl)] at hsettled
    exact (State.Steered.onChan _ c Channel.moveRuns).trans hsettled
  · next h =>
    rw [if_neg h] at hsettled
    exact (State.Steered.onChan _ c Channel.moveRuns).trans hsettled

theorem Channel.settled_steers (ch : Channel) : ch.Steers ch.settled := by
  unfold Channel.settled
  split
  · exact ch.diverged_steers
  · split
    · exact ch.tracked_works.toSteers
    · split
      · exact ch.pathChanged_works.toSteers
      · exact .refl ch

theorem Channel.settled_signal {ch : Channel} (h : ch.SignalSound) : ch.settled.SignalSound := by
  unfold Channel.settled
  split
  · exact h
  · split
    · exact h
    · split <;> exact h

/-- The counts of a channel whose runs and scout are others. -/
theorem Channel.CountsHeld.runs {a b : Channel} (h : a.CountsHeld)
    (hsame : b = { a with
      service := b.service, convRun := b.convRun, changeRun := b.changeRun, divRun := b.divRun, scout := b.scout
      conditions := b.conditions, counters := b.counters })
    (hconv : b.convRun < 2048) (hchange : b.changeRun < 512) (hdiv : b.divRun < 1024) (hscout : ∀ k ∈ b.scout, k.Resting) :
    b.CountsHeld := by
  obtain ⟨h1, h2, h3, -, -, -, h7, h8, h9, h10, h11, h12, -, h14, h15⟩ := h
  rw [hsame] at hconv hchange hdiv hscout ⊢
  exact ⟨h1, h2, h3, hconv, hchange, hdiv, h7, h8, h9, h10, h11, h12, hscout, h14, h15⟩

/-- A run that does not count in the mode stands (R87). -/
theorem Channel.moveRuns_still (ch : Channel) :
    (ch.service = .track → ch.moveRuns.convRun = ch.convRun) ∧ (ch.service = .acquire → ch.moveRuns.changeRun = ch.changeRun) := by
  unfold Channel.moveRuns
  dsimp only
  split
  · next h => exact ⟨fun h' => (by rw [h] at h'; cases h'), fun _ => rfl⟩
  · next h => exact ⟨fun _ => rfl, fun h' => (by rw [h] at h'; cases h')⟩

/-- Settled runs are below their limits (R87 to R90). -/
theorem Channel.settled_counts {ch : Channel} (h : ch.CountsHeld) : ch.moveRuns.settled.CountsHeld := by
  have hrest := h.resting
  have hsame := ch.moveRuns_same
  obtain ⟨hconvStill, hchangeStill⟩ := ch.moveRuns_still
  obtain ⟨-, -, -, hconv, hchange, -⟩ := id h
  have hconv : ch.convRun < 2048 := hconv
  have hchange : ch.changeRun < 512 := hchange
  have hservice : ch.moveRuns.service = ch.service := by rw [hsame]
  have hscout : ∀ k ∈ ch.moveRuns.scout, k.Resting := by rw [hsame]; exact hrest
  have hconv' : ch.moveRuns.convRun < 2048 ∨ (ch.moveRuns.converged = true) := by
    rw [Channel.converged_iff, hservice]
    cases hmode : ch.service with
    | acquire => exact (Nat.lt_or_ge _ _).imp_right fun hle => ⟨rfl, hle⟩
    | track => rw [hconvStill hmode]; exact .inl hconv
  have hchange' : ch.moveRuns.changeRun < 512 ∨ (ch.moveRuns.pathMoved = true) := by
    rw [Channel.pathMoved_iff, hservice]
    cases hmode : ch.service with
    | acquire => rw [hchangeStill hmode]; exact .inl hchange
    | track => exact (Nat.lt_or_ge _ _).imp_right fun hle => ⟨rfl, hle⟩
  generalize ch.moveRuns = m at *
  unfold Channel.settled
  split
  · refine h.runs (by rw [Channel.diverged_eq, hsame]) (Nat.succ_pos 2047) (Nat.succ_pos 511) (Nat.succ_pos 1023) fun k hk => ?_
    obtain ⟨j, -, rfl⟩ := Option.map_eq_some_iff.mp hk
    exact ⟨Nat.zero_le _, rfl⟩
  · next hdiv =>
    have hdiv' : m.divRun < 1024 := Nat.lt_of_not_le fun hle => hdiv (m.diverging_iff.mpr hle)
    split
    · next hc =>
      have hmoved : m.changeRun < 512 := hchange'.resolve_right fun hp => by
        rw [Channel.pathMoved_iff, ((Channel.converged_iff m).mp hc).1] at hp
        cases hp.1
      exact h.runs (by rw [Channel.tracked, hsame]) (Nat.succ_pos 2047) hmoved hdiv' hscout
    · next hc =>
      split
      · exact h.runs (by rw [Channel.pathChanged, hsame]; rfl) (hconv'.resolve_right hc) (Nat.succ_pos 511) hdiv' hscout
      · next hp => exact h.runs (by rw [hsame]) (hconv'.resolve_right hc) (hchange'.resolve_right hp) hdiv' hscout

end Sys2Proof.Machine
end

section
/-!
PROOFS. A sample arrival keeps the laws of the states (R15, R132, R152).
-/

namespace Sys2Proof.Machine

/-! ## Step 6 -/

theorem State.countRuns_works (s : State) (c : Chan) : s.WorksOn ((s.onChan c Channel.moveRuns).settleRuns c) c := by
  have hsteered := s.countRuns_steered c
  have hsteers : ∀ ch : Channel, ch.Steers ch.moveRuns.settled := fun ch => ch.moveRuns_steers.trans ch.moveRuns.settled_steers
  have hzeroed : s.WorksOn (if (s.chan c).moveRuns.diverging then s.zeroHeldTaps c else s) c := by
    split
    · exact ⟨s.zeroHeldTaps_works c, by rw [State.zeroHeldTaps_chan]⟩
    · exact .refl s c
  exact hzeroed.trans (hsteered.worksOn (hsteers _) (fun _ h => Channel.settled_signal (Channel.moveRuns_signal h)) Channel.settled_counts)

theorem State.stepSix_works {s : State} {c : Chan} {a : Arrival} (hp : (s.chan c).profile = some a.profile)
    (cover : List (Pos × BlockNo)) (e : Int) (power : Nat) : s.WorksOn (s.stepSix c a cover e power) c := by
  unfold State.stepSix
  extract_lets s1
  have hadapt : s.WorksOn s1 c := by
    show s.WorksOn (if (s.chan c).permits a then s.adapt c a cover e power else s) c
    split
    · exact State.adapt_works hp cover e power
    · exact .refl s c
  split
  · exact hadapt.trans (s1.countRuns_works c)
  · exact hadapt

/-! ## Steps 7 to 10 -/

/-- The engaged flag and the hangover, whatever they become (R100). -/
theorem Channel.engaged_works {ch : Channel} {b : Bool} {n : Nat} (hn : n ≤ 64 ∨ n ≤ ch.nlpHangover) :
    ch.WorksTo { ch with engaged := b, nlpHangover := n } := by
  refine .of_same id id fun ⟨h1, h2, h3, h4, h5, h6, h7, h8⟩ => ⟨h1, h2, h3, h4, h5, h6, ?_, h8⟩
  obtain h | h := hn
  · exact h
  · exact h.trans h7

theorem Channel.moveEngaged_works (ch : Channel) (a : Arrival) : ch.WorksTo (ch.moveEngaged a) := by
  unfold Channel.moveEngaged
  split
  · exact Channel.engaged_works (.inl (Nat.zero_le _))
  · split
    · exact Channel.engaged_works (.inl (Nat.zero_le _))
    · split
      · exact Channel.engaged_works (.inl (Nat.le_refl 64))
      · split
        · exact Channel.engaged_works (.inr (Nat.sub_le _ _))
        · exact ch.releaseSuppressor_works

theorem Channel.trackOutput_steers (ch : Channel) (v : Int) : ch.Steers (ch.trackOutput v) :=
  Channel.SameService.steers ⟨rfl, rfl, rfl, rfl, rfl⟩ rfl rfl rfl id

theorem Channel.trackOutput_signal {ch : Channel} {v : Int} (hv : Linear v) (h : ch.SignalSound) : (ch.trackOutput v).SignalSound := by
  obtain ⟨hlength, hring, hx, hs, he, hsum, hfloor, hreg⟩ := h
  exact ⟨hlength, hring, hx, hs, he, track_le hsum hv, hfloor, nextNoise_bounds hreg⟩

theorem Channel.trackOutput_counts {ch : Channel} (v : Int) (h : ch.CountsHeld) : (ch.trackOutput v).CountsHeld := by
  obtain ⟨h1, h2, h3, h4, h5, h6, h7, hreg, h9⟩ := h
  exact ⟨h1, h2, h3, h4, h5, h6, h7, nextNoise_bounds hreg, h9⟩

theorem Channel.countPeriod_works {ch : Channel} {a : Arrival} (hp : ch.profile = some a.profile) : ch.WorksTo (ch.countPeriod a) := by
  unfold Channel.countPeriod
  split
  · exact Channel.endPeriod_works hp _
  · exact .refl ch

theorem Channel.emit_works (ch : Channel) (rout sout : Byte) : ch.WorksTo (ch.emit rout sout) := .of_same id id id

/-- The channel with its suppressor and its noise floor moved (step 7). -/
def Channel.gated (ch : Channel) (a : Arrival) : Channel := (ch.moveEngaged a).updateNoiseFloor a.profile

/-- The channel after steps 7 to 10, for the output value `v` and the Sout code (R15). -/
def Channel.sounded (ch : Channel) (a : Arrival) (v : Int) (sout : Byte) : Channel :=
  (((ch.gated a).trackOutput v).countPeriod a).emit a.rout sout

/-- The suppressor's output for the residual `e` (R99, R101, R103). -/
abbrev Channel.outputValue (ch : Channel) (a : Arrival) (e : Int) : Int := (ch.gated a).suppressed a.profile e

/-- The Sout code of the output value (R15, step 10). -/
abbrev State.soutCode (s : State) (a : Arrival) (v : Int) : Byte :=
  compress (s.law.table a.profile.lineLaw) (scale v (gainOf a.appliedIndex))

theorem State.stepsSevenToTen_eq (s : State) (c : Chan) (a : Arrival) (e : Int) :
    s.stepsSevenToTen c a e = s.onChan c fun ch =>
      ch.sounded a ((s.chan c).outputValue a e) (s.soutCode a ((s.chan c).outputValue a e)) := by
  unfold State.stepsSevenToTen
  simp only [State.onChan_chan_self, State.onChan_onChan]
  rfl

theorem Channel.gated_works (ch : Channel) (a : Arrival) : ch.WorksTo (ch.gated a) :=
  (ch.moveEngaged_works a).trans ((ch.moveEngaged a).updateNoiseFloor_works a.profile)

theorem State.stepsSevenToTen_works {s : State} {c : Chan} {a : Arrival} (hp : (s.chan c).profile = some a.profile) {e : Int}
    (he : s.law.Linear → Linear e) : s.WorksOn (s.stepsSevenToTen c a e) c := by
  rw [State.stepsSevenToTen_eq]
  have hgated := (s.chan c).gated_works a
  have houtput := ((s.chan c).gated a).trackOutput_steers ((s.chan c).outputValue a e)
  have hperiod : (((s.chan c).gated a).trackOutput ((s.chan c).outputValue a e)).WorksTo _ :=
    (Channel.countPeriod_works (by rw [houtput.profile, hgated.profile, hp])).trans
      (Channel.emit_works _ a.rout (s.soutCode a ((s.chan c).outputValue a e)))
  refine (State.Steered.onChan s c _).worksOn ((hgated.toSteers.trans houtput).trans hperiod.toSteers) (fun hl h => ?_) fun h => ?_
  · exact hperiod.signal (Channel.trackOutput_signal (Channel.suppressed_linear (hgated.signal h) _ (he hl)) (hgated.signal h))
  · exact hperiod.counts (Channel.trackOutput_counts _ (hgated.counts h))

/-! ## The end of the sample's work -/

theorem Channel.countOpening_steers (ch : Channel) (a : Arrival) : ch.Steers (ch.countOpening a) := by
  unfold Channel.countOpening
  split
  · exact Channel.SameService.steers ⟨rfl, rfl, rfl, rfl, rfl⟩ rfl rfl rfl id
  · exact .refl ch

/-- The opening count alone (R131). -/
theorem Channel.countOpening_eq (ch : Channel) (a : Arrival) :
    ch.countOpening a = { ch with openingCount := (ch.countOpening a).openingCount } := by
  unfold Channel.countOpening
  split <;> rfl

theorem State.endSample_works {s : State} {c : Chan} {a : Arrival} (hp : (s.chan c).profile = some a.profile) :
    s.Works (s.endSample c a) := by
  unfold State.endSample
  dsimp only
  split
  · refine ((State.Steered.onChan s c fun ch => ch.countOpening a).trans (State.endOpening_steered _ c a.profile)).works
      (((s.chan c).countOpening_steers a).trans (Channel.openingEnded_steers _ _)) (fun _ h => ?_) fun h => ?_
    · rw [Channel.countOpening_eq]; exact h
    · refine Channel.openingEnded_counts (n := (s.chan c).openingCount) ?_ ?_
      · rw [Channel.countOpening_eq]; exact hp
      · rw [Channel.countOpening_eq]; exact h
  · next h =>
    have hstill : (s.onChan c fun ch => ch.countOpening a) = s.onChan c fun ch => ch := by
      simp only [Channel.countOpening, if_neg h]
    rw [hstill]
    exact (State.Works.onChan (f := fun ch => ch) (.refl _)).trans (State.quietPoint_works _ c)

/-! ## The whole work of a sample -/

theorem Channel.trackResidual_steers (ch : Channel) (e : Int) : ch.Steers (ch.trackResidual e) :=
  Channel.SameService.steers ⟨rfl, rfl, rfl, rfl, rfl⟩ rfl rfl rfl id

theorem Channel.trackResidual_signal {ch : Channel} {e : Int} (he : Linear e) (h : ch.SignalSound) :
    (ch.trackResidual e).SignalSound := by
  obtain ⟨hlength, hring, hx, hs, hsum, hrest⟩ := h
  exact ⟨hlength, hring, hx, hs, track_le hsum he, hrest⟩

theorem Channel.trackResidual_counts {ch : Channel} (e : Int) (h : ch.CountsHeld) : (ch.trackResidual e).CountsHeld := h

/-- The mark of a sample in work is none of what the laws tell (log 23). -/
theorem Channel.setInSample_keeps (ch : Channel) (b : Bool) : ch.Keeps (ch.setInSample b) :=
  Channel.SameService.keeps ⟨rfl, rfl, rfl, rfl, rfl⟩ id id

theorem State.setInSample_keeps (s : State) (c : Chan) (b : Bool) : s.Keeps (s.onChan c fun ch => ch.setInSample b) :=
  .onChan ((s.chan c).setInSample_keeps b) rfl

theorem State.setInSample_counts {s : State} (c : Chan) (b : Bool) (h : s.CountsHeld) :
    (s.onChan c fun ch => ch.setInSample b).CountsHeld := fun d => by
  by_cases hd : d = c
  · rw [hd, State.onChan_chan_self]; exact h c
  · rw [State.onChan_chan_of_ne _ _ hd]; exact h d

theorem State.setInSample_pool {s : State} (c : Chan) (b : Bool) (h : s.PoolSound) :
    (s.onChan c fun ch => ch.setInSample b).PoolSound :=
  h.onChan ⟨rfl, rfl, rfl, rfl, rfl⟩

/-- A step's work within the marks of a sample. -/
theorem State.Works.within {s t : State} {c : Chan} (h : (s.onChan c fun ch => ch.setInSample true).Works t) :
    s.KeepsAll (t.onChan c fun ch => ch.setInSample false) := by
  refine ⟨((s.setInSample_keeps c true).trans h.toKeeps).trans (t.setInSample_keeps c false), fun hc d => ?_, fun hp =>
    State.setInSample_pool c false (h.pool (State.setInSample_pool c true hp))⟩
  have hheld := State.setInSample_counts c false (h.counts (State.setInSample_counts c true fun d => (hc d).held)) d
  refine hheld.sound ?_
  by_cases hd : d = c
  · rw [hd, State.onChan_chan_self]; rfl
  · rw [State.onChan_chan_of_ne _ _ hd, h.mark d, State.onChan_chan_of_ne _ _ hd]
    exact (hc d).mark

theorem State.stepsOneToThree_works {s : State} {c : Chan} {a : Arrival} (ha : s.law.Linear → a.Linear) :
    s.WorksOn (s.stepsOneToThree c a) c :=
  (s.stepsOneToThree_steered c a).worksOn (Channel.sensed_steers _ a) (fun hl => Channel.sensed_signal (ha hl)) (Channel.sensed_counts a)

theorem State.testCovered_works (s : State) (c : Chan) : s.WorksOn (s.testBlocks c (s.chan c).covered) c :=
  ⟨(State.PlacesTidied.testBlocks s c _).works fun h => h.testCovered c, (State.PlacesTidied.testBlocks s c _).profile c⟩

theorem State.trackResidual_works {s : State} {c : Chan} {e : Int} (he : s.law.Linear → Linear e) :
    s.WorksOn (s.onChan c fun ch => ch.trackResidual e) c :=
  (State.Steered.onChan s c _).worksOn (Channel.trackResidual_steers _ e) (fun hl => Channel.trackResidual_signal (he hl))
    (Channel.trackResidual_counts e)

theorem State.workSample_keeps {s : State} {c : Chan} {a : Arrival} (hp : (s.chan c).profile = some a.profile)
    (ha : s.law.Linear → a.Linear) : s.KeepsAll (s.workSample c a) := by
  unfold State.workSample
  extract_lets s3 cover e s5 s6
  have hthree : (s.onChan c fun ch => ch.setInSample true).WorksOn s3 c := State.stepsOneToThree_works ha
  have hlaw3 : s3.law = s.law := hthree.law
  have he : s.law.Linear → Linear e := fun hl => residual_linear (ha hl) _
  have htested := s3.testCovered_works c
  have hfive : s3.WorksOn s5 c := htested.trans (State.trackResidual_works fun hl => he (hlaw3 ▸ htested.law ▸ hl))
  have hprofile5 : (s5.chan c).profile = some a.profile := by
    rw [hfive.profile, hthree.profile, State.onChan_chan_self]; exact hp
  have hsix : s5.WorksOn s6 c := State.stepSix_works hprofile5 cover e _
  have hlaw6 : s6.law = s.law := (hsix.law.trans hfive.law).trans hlaw3
  have hten := State.stepsSevenToTen_works (hsix.profile.trans hprofile5) (e := e) fun hl => he (hlaw6 ▸ hl)
  have hend := State.endSample_works (hten.profile.trans (hsix.profile.trans hprofile5))
  exact ((((hthree.trans hfive).trans hsix).trans hten).toWorks.trans hend).within

/-! ## The arrival -/

theorem State.takeArrival_keeps {s t : State} {c : Chan} {rin sin : Byte} (h : s.takeArrival c rin sin = .next t) : s.KeepsAll t := by
  unfold State.takeArrival at h
  split at h
  · cases h
    exact (State.Works.onChan (f := fun ch => ch.emit rin sin) (Channel.emit_works _ rin sin)).keepsAll
  · split at h
    · next p hp =>
      cases h
      exact (State.workSample_keeps (a := s.receive c p rin sin) hp fun hl => State.receive_linear hl c p rin sin).trans
        (State.settleNotice_works s _).keepsAll
    · cases h

theorem sampleArrival_keeps {s t : State} {c : Chan} {rin sin : Byte} {upset : List Disturbance}
    (h : execSampleArrival c rin sin upset s = .next t) : s.KeepsAll t := by
  have hdisturbed := (s.disturb_works upset).keepsAll
  unfold execSampleArrival at h
  dsimp only at h
  split at h
  · next f hframing hframe =>
    split at h
    · split at h
      · cases h; exact hdisturbed
      · refine (hdisturbed.trans (.onPort (fun hport => ?_) id rfl rfl)).trans (State.takeArrival_keeps h)
        obtain ⟨hmaster, hmissed, hawaiting, -⟩ := hport
        exact ⟨hmaster, hmissed, hawaiting, fun _ => hframing⟩
    · cases h; exact hdisturbed
  · cases h; exact hdisturbed

end Sys2Proof.Machine
end

section
/-!
PROOFS. Every row of the table raises notices, or is of the link's own (sections 10.3 to 10.7), and keeps the link's queues sound.
-/

namespace Sys2Proof.Machine

/-! ## The queues -/

theorem queueNotice_keys {u : Source} {k : NoticeKind} {q : List Notice} (h : (q.map fun n => (n.source, n.kind)).Nodup) :
    ((queueNotice u k q).map fun n => (n.source, n.kind)).Nodup := by
  unfold queueNotice
  split
  · have hkeys : (q.map fun n => if n.source == u && n.kind == k then { n with count := bump n.count } else n).map
        (fun n => (n.source, n.kind)) = q.map fun n => (n.source, n.kind) := by
      rw [List.map_map]
      refine List.map_congr_left fun n _ => ?_
      show ((if n.source == u && n.kind == k then { n with count := bump n.count } else n).source,
        (if n.source == u && n.kind == k then { n with count := bump n.count } else n).kind) = (n.source, n.kind)
      split <;> rfl
    rw [hkeys]
    exact h
  · next hnone =>
    rw [List.map_append, List.nodup_append]
    refine ⟨h, List.nodup_singleton _, fun a ha b hb hab => hnone ?_⟩
    obtain ⟨n, hn, rfl⟩ := List.mem_map.mp ha
    rw [List.mem_singleton.mp hb] at hab
    obtain ⟨hsource, hkind⟩ := Prod.mk.inj hab
    exact List.any_eq_true.mpr ⟨n, hn, by simp [hsource, hkind]⟩

theorem queueNotice_counts {u : Source} {k : NoticeKind} {q : List Notice} (h : ∀ n ∈ q, 1 ≤ n.count ∧ n.count ≤ 255) :
    ∀ n ∈ queueNotice u k q, 1 ≤ n.count ∧ n.count ≤ 255 := by
  intro n hn
  unfold queueNotice at hn
  split at hn
  · obtain ⟨m, hm, rfl⟩ := List.mem_map.mp hn
    have hbump : 1 ≤ bump m.count := Nat.le_min.mpr ⟨by decide, Nat.le_add_left 1 _⟩
    split
    · exact ⟨hbump, bump_le _⟩
    · exact h m hm
  · obtain hn | hn := List.mem_append.mp hn
    · exact h n hn
    · rw [List.mem_singleton.mp hn]
      exact ⟨Nat.le_refl 1, Nat.succ_le_succ (Nat.zero_le 254)⟩

/-- The arbiter leaves nothing queued behind an idle transmitter (R169). -/
theorem Link.arbitrated_queues {l : Link} (fill : Notice → Record) (hreplies : l.replies.length ≤ 4)
    (hkeys : (l.notices.map fun n => (n.source, n.kind)).Nodup) (hcounts : ∀ n ∈ l.notices, 1 ≤ n.count ∧ n.count ≤ 255) :
    (l.arbitrated fill).QueuesSound := by
  obtain ⟨fr, rep, no, tx, en, rate⟩ := l
  cases tx with
  | reply r => exact ⟨hreplies, hkeys, hcounts, nofun⟩
  | notice n r => exact ⟨hreplies, hkeys, hcounts, nofun⟩
  | idle =>
    cases rep with
    | cons r rs => exact ⟨(Nat.le_succ _).trans hreplies, hkeys, hcounts, nofun⟩
    | nil =>
      cases no with
      | nil => exact ⟨hreplies, hkeys, hcounts, fun _ => ⟨rfl, rfl⟩⟩
      | cons n ns => exact ⟨hreplies, (List.nodup_cons.mp hkeys).2, fun m hm => hcounts m (List.mem_cons_of_mem _ hm), nofun⟩

/-- Notice events keep the queues sound (R169, R170). -/
theorem Link.Noticed.queues {l m : Link} (h : l.Noticed m) (hl : l.QueuesSound) : m.QueuesSound := by
  induction h with
  | refl => exact hl
  | raised passes u k fill _ ih =>
    unfold Link.raised
    split
    · obtain ⟨hreplies, hkeys, hcounts, -⟩ := ih
      exact Link.arbitrated_queues fill hreplies (queueNotice_keys hkeys) (queueNotice_counts hcounts)
    · exact ih
  | filled r htx _ ih =>
    obtain ⟨hreplies, hkeys, hcounts, -⟩ := ih
    exact ⟨hreplies, hkeys, hcounts, nofun⟩

/-- On sound queues a notice event sends no reply (R169). -/
theorem Link.Noticed.replies {l m : Link} (h : l.Noticed m) (hl : l.QueuesSound) : m.replies = l.replies := by
  induction h with
  | refl => rfl
  | @raised m passes u k fill hm ih =>
    obtain ⟨-, -, -, hidle⟩ := hm.queues hl
    rw [← ih]
    obtain ⟨fr, rep, no, tx, en, rate⟩ := m
    unfold Link.raised
    split
    · cases tx with
      | reply r => rfl
      | notice n r => rfl
      | idle =>
        obtain ⟨hrep, -⟩ := hidle rfl
        obtain rfl : rep = [] := hrep
        unfold Link.arbitrated
        dsimp only
        split <;> rfl
    · rfl
  | filled r htx _ ih => exact ih

/-- A reply that joins a queue with room (R163, R165). -/
theorem Link.withReply_queues {l : Link} (r : Record) (hroom : l.replies.length < 4) (h : l.QueuesSound) :
    (l.withReply r).QueuesSound := by
  obtain ⟨fr, rep, no, tx, en, rate⟩ := l
  obtain ⟨-, hkeys, hcounts, hidle⟩ := h
  have hlength : (rep ++ [r]).length ≤ 4 := by rw [List.length_append]; exact hroom
  cases tx with
  | reply q => exact ⟨hlength, hkeys, hcounts, nofun⟩
  | notice n q => exact ⟨hlength, hkeys, hcounts, nofun⟩
  | idle =>
    obtain ⟨hrep, -⟩ := hidle rfl
    obtain rfl : rep = [] := hrep
    exact ⟨Nat.zero_le _, hkeys, hcounts, nofun⟩

/-! ## Events of the port -/

theorem State.portNotice_noticed {s t : State} (h : t.link = s.link) (k : NoticeKind) : s.link.Noticed (t.portNotice k).link :=
  State.noticed_of_eq h .port k

theorem bitClock_link (s : State) : (bitClock s).link = s.link := by
  unfold bitClock
  split <;> rfl

theorem frameBegin_noticed {s t : State} (h : execFrameBegin s = .next t) : s.link.Noticed t.link := by
  unfold execFrameBegin at h
  split at h <;> cases h <;> exact .refl

theorem frameComplete_noticed {s t : State} (h : execFrameComplete s = .next t) : s.link.Noticed t.link := by
  unfold execFrameComplete at h
  split at h <;> cases h <;> exact .refl

theorem masterFramePulse_noticed {s t : State} (h : execMasterFramePulse s = .next t) : s.link.Noticed t.link := by
  unfold execMasterFramePulse at h
  split at h <;> cases h <;> exact .refl

theorem State.completeSignature_noticed (s : State) : s.link.Noticed s.completeSignature.link := by
  unfold State.completeSignature
  split
  · exact State.noticed_of_eq (s := s) (t := s.onSig fun g => { g with state := .done }) rfl _ _
  · exact .refl

theorem State.watchSlot_noticed (s : State) (c : Chan) (st : SigStream) (fresh : Bool) (code : Byte) :
    s.link.Noticed (s.watchSlot c st fresh code).link := by
  unfold State.watchSlot
  split
  · exact State.completeSignature_noticed (s.onSig _)
  · exact .refl

theorem slotSent_noticed {s t : State} {h : Highway} {n : Slot} (he : execSlotSent h n s = .next t) : s.link.Noticed t.link := by
  unfold execSlotSent at he
  split at he
  · split at he
    · cases he; exact .refl
    · split at he
      · cases he; exact .refl
      · cases he; exact State.watchSlot_noticed (State.onChan (s.onPort _) _ _) _ _ _ _
  · cases he; exact .refl

theorem framePulse_noticed {s t : State} {position : Byte} (h : execFramePulse position s = .next t) : s.link.Noticed t.link := by
  unfold execFramePulse at h
  split at h
  · split at h
    · cases h; exact State.portNotice_noticed (t := s.onPort _) rfl _
    · split at h <;> cases h <;> exact .refl
  · cases h; exact .refl

theorem State.loseSync_noticed (s : State) {t : State} (h : t.link = s.link) : s.link.Noticed t.loseSync.link :=
  State.portNotice_noticed (t := t.onPort _) h _

theorem missedPulse_noticed {s t : State} (h : execMissedPulse s = .next t) : s.link.Noticed t.link := by
  unfold execMissedPulse at h
  split at h
  · cases h
    unfold State.endMissedRun
    split
    · split
      · exact s.loseSync_noticed (t := s.onPort _) rfl
      · exact .refl
    · exact .refl
  · cases h; exact .refl

theorem syncLoss_noticed {s t : State} (h : execSyncLoss s = .next t) : s.link.Noticed t.link := by
  unfold execSyncLoss at h
  split at h
  · cases h; exact s.loseSync_noticed rfl
  · cases h; exact .refl

theorem clockLoss_noticed {s t : State} (h : execClockLoss s = .next t) : s.link.Noticed t.link := by
  have hraised := State.portNotice_noticed (s := s) (t := s.onPort fun p => { p.latchClockLow with clock := .lost }) rfl .clock
  unfold execClockLoss at h
  split at h
  · cases h
    split <;> exact hraised
  · cases h; exact .refl

theorem clockReturn_noticed {s t : State} (h : execClockReturn s = .next t) : s.link.Noticed t.link := by
  have hraised := State.portNotice_noticed (s := s) (t := s.onPort fun p => { p with clock := .ok }) rfl .clock
  unfold execClockReturn at h
  split at h
  · cases h
    split <;> exact hraised
  · cases h; exact .refl

/-! ## Events of a channel -/

theorem State.returnToNormal_noticed (s : State) (c : Chan) : s.link.Noticed (s.returnToNormal c).link := by
  unfold State.returnToNormal
  split
  · exact State.noticed_of_eq (s := s) (t := s.onChan c _) rfl _ _
  · exact .refl

theorem State.detectTone_noticed (s : State) (c : Chan) (p : Profile) : s.link.Noticed (s.detectTone c p).link := by
  rw [State.detectTone_eq]
  split
  · split
    · exact .refl
    · exact (State.noticed_of_eq (s := s) (t := s.onChan c _) rfl _ _).trans (State.raiseNotice_noticed _ _ _)
  · exact .refl

theorem State.diverge_noticed (s : State) (c : Chan) : s.link.Noticed (s.diverge c).link := by
  have hraised := State.noticed_of_eq (s.divergedState_link c) (.channel c) .diverged
  rw [State.diverge_eq]
  split
  · exact hraised.trans (State.raiseNotice_noticed _ _ _)
  · exact hraised

theorem State.reachTrack_noticed (s : State) (c : Chan) : s.link.Noticed (s.reachTrack c).link :=
  State.noticed_of_eq (s := s) (t := s.onChan c _) rfl _ _

theorem State.pathChange_noticed (s : State) (c : Chan) : s.link.Noticed (s.pathChange c).link :=
  State.noticed_of_eq (s := s) (t := s.onChan c _) rfl _ _

theorem State.settleRuns_noticed (s : State) (c : Chan) : s.link.Noticed (s.settleRuns c).link := by
  unfold State.settleRuns
  split
  · exact s.diverge_noticed c
  · split
    · exact s.reachTrack_noticed c
    · split
      · exact s.pathChange_noticed c
      · exact .refl

theorem State.evaluate_noticed (s : State) (c : Chan) (quota : Nat) (tookPart : List BlockNo) (k : Scout) :
    s.link.Noticed (s.evaluate c quota tookPart k).link := by
  have hlink : ∀ v : Verdict, (s.carryOut c k v).link = s.link := fun v => by
    cases v with
    | add => cases hf : s.freeBlocks with
      | nil => rw [State.carryOut_add_wait c k hf]; rfl
      | cons f fs => rw [State.carryOut_add_free c k hf]; rfl
    | swap w b => rfl
    | discard => rfl
  rw [State.evaluate_eq_outcome, State.outcome_eq]
  split
  · exact State.noticed_of_eq (hlink _) _ _
  · rw [hlink]; exact .refl

theorem State.endDwell_noticed (s : State) (c : Chan) (quota : Nat) : s.link.Noticed (s.endDwell c quota).link := by
  unfold State.endDwell
  split
  · split
    · exact State.evaluate_noticed _ _ _ _ _
    · exact .refl
  · exact .refl

theorem State.endOpening_noticed (s : State) (c : Chan) (p : Profile) : s.link.Noticed (s.endOpening c p).link := by
  unfold State.endOpening
  split
  · exact State.noticed_of_eq (s := s) (t := s.onChan c _) rfl _ _
  · exact .refl

theorem State.quietPoint_noticed (s : State) (c : Chan) : s.link.Noticed (s.quietPoint c).link := by
  unfold State.quietPoint
  split
  · split
    · exact s.applyTakesEffect_noticed c _
    · exact .refl
  · exact .refl

theorem channelEvent_noticed {c : Chan} {act : Profile → State → State} {s t : State} (h : channelEvent c act s = .next t)
    (hact : ∀ p : Profile, s.link.Noticed (act p s).link) : s.link.Noticed t.link := by
  unfold channelEvent at h
  split at h
  · cases h; exact .refl
  · split at h
    · next p _ => cases h; exact State.settleNotice_noticed s _ (hact p)
    · cases h

theorem dtHangoverEnd_noticed {c : Chan} {s t : State} (h : execDtHangoverEnd c s = .next t) : s.link.Noticed t.link :=
  channelEvent_noticed h fun _ => .refl

theorem endOfOpening_noticed {c : Chan} {s t : State} (h : execEndOfOpening c s = .next t) : s.link.Noticed t.link :=
  channelEvent_noticed h fun p => s.endOpening_noticed c p

theorem nlpRelease_noticed {c : Chan} {s t : State} (h : execNlpRelease c s = .next t) : s.link.Noticed t.link :=
  channelEvent_noticed h fun _ => .refl

theorem noiseFloorUpdate_noticed {c : Chan} {s t : State} (h : execNoiseFloorUpdate c s = .next t) : s.link.Noticed t.link :=
  channelEvent_noticed h fun _ => .refl

theorem toneDetection_noticed {c : Chan} {s t : State} (h : execToneDetection c s = .next t) : s.link.Noticed t.link :=
  channelEvent_noticed h fun p => s.detectTone_noticed c p

theorem returnToNormal_noticed {c : Chan} {s t : State} (h : execReturnToNormal c s = .next t) : s.link.Noticed t.link :=
  channelEvent_noticed h fun _ => s.returnToNormal_noticed c

theorem quietPoint_noticed {c : Chan} {s t : State} (h : execQuietPoint c s = .next t) : s.link.Noticed t.link :=
  channelEvent_noticed h fun _ => s.quietPoint_noticed c

theorem dwellEnd_noticed {c : Chan} {s t : State} (h : execDwellEnd c s = .next t) : s.link.Noticed t.link :=
  channelEvent_noticed h fun p => by
    split
    · exact s.endDwell_noticed c p.quota
    · exact .refl

theorem reachTrack_noticed {c : Chan} {s t : State} (h : execReachTrack c s = .next t) : s.link.Noticed t.link :=
  channelEvent_noticed h fun _ => by
    split
    · exact s.reachTrack_noticed c
    · exact .refl

theorem pathChange_noticed {c : Chan} {s t : State} (h : execPathChange c s = .next t) : s.link.Noticed t.link :=
  channelEvent_noticed h fun _ => by
    split
    · exact s.pathChange_noticed c
    · exact .refl

theorem divergence_noticed {c : Chan} {s t : State} (h : execDivergence c s = .next t) : s.link.Noticed t.link :=
  channelEvent_noticed h fun _ => by
    split
    · exact s.diverge_noticed c
    · exact .refl

theorem alcPeriodEnd_noticed {c : Chan} {s t : State} (h : execAlcPeriodEnd c s = .next t) : s.link.Noticed t.link :=
  channelEvent_noticed h fun _ => by
    split
    · exact .refl
    · exact .refl

/-! ## An arrival -/

theorem State.updateBlocks_link (s : State) (ring : List Int) (p : Profile) (e : Int) (power : Nat) (cover : List (Pos × BlockNo)) :
    (cover.foldl (fun t k => t.updateBlock ring p e power k) s).link = s.link := by
  induction cover generalizing s with
  | nil => rfl
  | cons k ks ih => rw [List.foldl_cons, ih]; rfl

theorem State.adapt_noticed (s : State) (c : Chan) (a : Arrival) (cover : List (Pos × BlockNo)) (e : Int) (power : Nat) :
    s.link.Noticed (s.adapt c a cover e power).link := by
  rw [← s.updateBlocks_link (s.chan c).ring a.profile e power cover]
  exact State.endDwell_noticed (State.onChan _ c fun ch => ch.advanceDwell a.start.service (cover.map Prod.snd)) c a.profile.quota

theorem State.stepsOneToThree_noticed (s : State) (c : Chan) (a : Arrival) : s.link.Noticed (s.stepsOneToThree c a).link :=
  (State.returnToNormal_noticed (s.onChan c fun ch => (ch.hear a).classify a) c).trans (State.detectTone_noticed _ c a.profile)

theorem State.stepSix_noticed (s : State) (c : Chan) (a : Arrival) (cover : List (Pos × BlockNo)) (e : Int) (power : Nat) :
    s.link.Noticed (s.stepSix c a cover e power).link := by
  unfold State.stepSix
  extract_lets s1
  have hadapt : s.link.Noticed s1.link := by
    show s.link.Noticed (if (s.chan c).permits a then s.adapt c a cover e power else s).link
    split
    · exact s.adapt_noticed c a cover e power
    · exact .refl
  split
  · exact hadapt.trans (State.settleRuns_noticed (s1.onChan c Channel.moveRuns) c)
  · exact hadapt

theorem State.endSample_noticed (s : State) (c : Chan) (a : Arrival) : s.link.Noticed (s.endSample c a).link := by
  unfold State.endSample
  dsimp only
  split
  · exact State.endOpening_noticed (s.onChan c fun ch => ch.countOpening a) c a.profile
  · exact State.quietPoint_noticed (s.onChan c fun ch => ch.countOpening a) c

/-- An act that raises notices at most. -/
structure State.Raises (s t : State) : Prop where
  noticed : s.link.Noticed t.link

theorem State.Raises.trans {s t u : State} (h : s.Raises t) (h' : t.Raises u) : s.Raises u := ⟨h.noticed.trans h'.noticed⟩

theorem State.Raises.onChan (s : State) (c : Chan) (f : Channel → Channel) : s.Raises (s.onChan c f) := ⟨.refl⟩

theorem State.stepSix_raises (s : State) (c : Chan) (a : Arrival) (cover : List (Pos × BlockNo)) (e : Int) (power : Nat) :
    s.Raises (s.stepSix c a cover e power) := ⟨s.stepSix_noticed c a cover e power⟩

theorem State.stepsSevenToTen_raises (s : State) (c : Chan) (a : Arrival) (e : Int) : s.Raises (s.stepsSevenToTen c a e) := by
  rw [State.stepsSevenToTen_eq]
  exact .onChan s c _

theorem State.endSample_raises (s : State) (c : Chan) (a : Arrival) : s.Raises (s.endSample c a) := ⟨s.endSample_noticed c a⟩

theorem State.workSample_noticed (s : State) (c : Chan) (a : Arrival) : s.link.Noticed (s.workSample c a).link := by
  suffices h : s.Raises (s.workSample c a) from h.noticed
  unfold State.workSample
  extract_lets s3 cover e s5 s6
  have hthree : s.Raises s3 := (State.Raises.onChan s c _).trans ⟨State.stepsOneToThree_noticed _ c a⟩
  have htested : s3.Raises (s3.testBlocks c (s3.chan c).covered) := ⟨State.testBlocks_noticed s3 c _⟩
  have hfive : s3.Raises s5 := htested.trans (.onChan _ c _)
  have hsix : s5.Raises s6 := s5.stepSix_raises c a cover e _
  exact ((((hthree.trans hfive).trans hsix).trans (s6.stepsSevenToTen_raises c a e)).trans (State.endSample_raises _ c a)).trans
    (.onChan _ c _)

theorem sampleArrival_noticed {s t : State} {c : Chan} {rin sin : Byte} {upset : List Disturbance}
    (h : execSampleArrival c rin sin upset s = .next t) : s.link.Noticed t.link := by
  have hdisturbed : ∀ u : State, u.link = (s.disturb upset).link → s.link.Noticed u.link := fun u hu => by
    rw [hu, State.disturb_link]; exact .refl
  unfold execSampleArrival at h
  dsimp only at h
  split at h
  · next f _ _ =>
    split at h
    · next slots _ =>
      split at h
      · cases h; exact hdisturbed _ rfl
      · unfold State.takeArrival at h
        have harrived := hdisturbed ((s.disturb upset).onPort fun p => p.noteArrival f c slots) rfl
        split at h
        · cases h; exact harrived
        · split at h
          · cases h; exact State.settleNotice_noticed _ _ (harrived.trans (State.workSample_noticed _ c _))
          · cases h
    · cases h; exact hdisturbed _ rfl
  · cases h; exact hdisturbed _ rfl

end Sys2Proof.Machine
end

section
/-!
PROOFS. One step of the part: it completes, and it keeps every law of the model's states.
-/

namespace Sys2Proof.Machine

/-! ## The rows of the link -/

theorem serve_queues {s : State} (tag kind : Byte) {act : Request}
    (hact : s.link.Noticed (act s).1.link ∨ ∃ on : Bool, (act s).1.link = { s.link with enable := on }) (h : s.QueuesSound) :
    (serve tag kind act s).QueuesSound := by
  by_cases hfull : 4 ≤ s.link.replies.length
  · rw [serve_of_full s tag kind act hfull]
    exact h
  · rw [serve_of_room s tag kind act (Nat.lt_of_not_le hfull)]
    have hroom : (act s).1.link.replies.length < 4 ∧ (act s).1.link.QueuesSound := by
      obtain hnoticed | ⟨on, hon⟩ := hact
      · exact ⟨hnoticed.replies h ▸ Nat.lt_of_not_le hfull, hnoticed.queues h⟩
      · rw [hon]; exact ⟨Nat.lt_of_not_le hfull, h⟩
    exact Link.withReply_queues _ hroom.1 hroom.2

theorem readTapsRequest_noticed (channel selector : Byte) (s : State) :
    s.link.Noticed (readTapsRequest channel selector s).1.link := by
  obtain h | ⟨c, t, k, -, -, h⟩ := readTapsRequest_tests channel selector s
  · rw [h]; exact .refl
  · rw [h]; exact s.testBlocks_noticed c _

theorem restartRequest_queues (tag : Byte) {s : State} (h : s.QueuesSound) : (restartRequest tag s).QueuesSound := by
  by_cases hfull : 4 ≤ s.link.replies.length
  · rw [restartRequest, if_pos (show Config.replyLimit ≤ s.link.replies.length from hfull)]
    exact h
  · obtain ⟨hlink, -⟩ :=
      (s.restartLink.answered (doneRecord tag 0x02#8 [])).restartBlocks_keeps (State.answered_enable _ _)
    rw [restartRequest_of_room tag s (Nat.lt_of_not_le hfull), State.QueuesSound, hlink]
    exact Link.withReply_queues _ (Nat.succ_pos 3) ⟨Nat.zero_le 4, List.nodup_nil, nofun, fun _ => ⟨rfl, rfl⟩⟩

theorem RequestRow.queues {i : Instr} {tag kind : Byte} (h : RequestRow i tag kind) {s t : State} (he : exec i s = .next t)
    (hs : s.QueuesSound) : t.QueuesSound := by
  cases h with
  | restart _ hexec => rw [hexec] at he; cases he; exact restartRequest_queues tag hs
  | readTaps channel selector _ hexec => rw [hexec] at he; cases he; exact serve_queues tag kind (.inl (readTapsRequest_noticed _ _ s)) hs
  | owned act howned hexec =>
    rw [hexec] at he; cases he
    exact serve_queues tag kind (State.Acts.link (r := act s) (howned s)) hs

theorem requestArrival_queues (tag kind : Byte) (body : List Byte) {s : State} (h : s.QueuesSound) :
    (requestArrival tag kind body s).QueuesSound :=
  (requestRow_of_arrival (i := .unknownRequest tag kind body) tag kind body fun _ => rfl).queues (t := requestArrival tag kind body s) rfl h

theorem receiveByte_queues (b : Byte) (framingError : Bool) {s : State} (h : s.QueuesSound) :
    (receiveByte b framingError s).QueuesSound := by
  unfold receiveByte
  split
  · split <;> exact h
  · split
    · exact h
    · split <;> exact h
  · split
    · exact h
    · split
      · exact h
      · unfold State.checkFrame
        dsimp only
        split
        · exact requestArrival_queues _ _ _ (s := s.withFramer .hunt) h
        · exact h

theorem frameSent_queues {s t : State} (he : execFrameSent s = .next t) (h : s.QueuesSound) : t.QueuesSound := by
  cases he
  split
  · exact h
  · obtain ⟨hreplies, hkeys, hcounts, -⟩ := h
    rw [State.QueuesSound, State.arbitrate_link]
    exact Link.arbitrated_queues _ hreplies hkeys hcounts

/-! ## Every command -/

/-- A command that is no request keeps the laws of the states. -/
theorem exec_event_keeps {i : Instr} (hi : i.request? = none) {s t : State} (h : exec i s = .next t) : s.KeepsAll t := by
  cases i with
  | powerOnReset br1 br0 => exact powerOnReset_keeps h
  | receivedByte b framingError => cases h; exact receiveByte_keeps b framingError s
  | gapTimeout => exact gapTimeout_keeps h
  | frameSent => exact frameSent_keeps h
  | sampleArrival c rin sin upset => exact sampleArrival_keeps h
  | dtHangoverEnd c => exact dtHangoverEnd_keeps h
  | dwellEnd c => exact dwellEnd_keeps h
  | endOfOpening c => exact endOfOpening_keeps h
  | reachTrack c => exact reachTrack_keeps h
  | pathChange c => exact pathChange_keeps h
  | divergence c => exact divergence_keeps h
  | nlpRelease c => exact nlpRelease_keeps h
  | noiseFloorUpdate c => exact noiseFloorUpdate_keeps h
  | toneDetection c => exact toneDetection_keeps h
  | returnToNormal c => exact returnToNormal_keeps h
  | quietPoint c => exact quietPoint_keeps h
  | alcPeriodEnd c => exact alcPeriodEnd_keeps h
  | frameBegin => exact frameBegin_keeps h
  | slotSent highway slot => exact slotSent_keeps h
  | signatureDone => cases h; exact s.completeSignature_keeps
  | frameComplete => exact frameComplete_keeps h
  | masterFramePulse => exact masterFramePulse_keeps h
  | framePulse position => exact framePulse_keeps h
  | missedPulse => exact missedPulse_keeps h
  | syncLoss => exact syncLoss_keeps h
  | clockLoss => exact clockLoss_keeps h
  | clockReturn => exact clockReturn_keeps h
  | _ => cases hi

/-- Every command keeps the laws of the states. -/
theorem exec_keeps {i : Instr} {s t : State} (h : exec i s = .next t) : s.KeepsAll t := by
  cases hi : i.request? with
  | none => exact exec_event_keeps hi h
  | some r => exact (requestRow_of (tag := r.1) (kind := r.2) hi).keeps h

/-- A command that is no request keeps the link's queues sound. -/
theorem exec_event_queues {i : Instr} (hi : i.request? = none) {s t : State} (h : exec i s = .next t) (hs : s.QueuesSound) :
    t.QueuesSound := by
  cases i with
  | powerOnReset br1 br0 => cases h; exact resetSatisfiesTheLaws.2.1
  | receivedByte b framingError => cases h; exact receiveByte_queues b framingError hs
  | gapTimeout => cases h; split <;> exact hs
  | frameSent => exact frameSent_queues h hs
  | sampleArrival c rin sin upset => exact (sampleArrival_noticed h).queues hs
  | dtHangoverEnd c => exact (dtHangoverEnd_noticed h).queues hs
  | dwellEnd c => exact (dwellEnd_noticed h).queues hs
  | endOfOpening c => exact (endOfOpening_noticed h).queues hs
  | reachTrack c => exact (reachTrack_noticed h).queues hs
  | pathChange c => exact (pathChange_noticed h).queues hs
  | divergence c => exact (divergence_noticed h).queues hs
  | nlpRelease c => exact (nlpRelease_noticed h).queues hs
  | noiseFloorUpdate c => exact (noiseFloorUpdate_noticed h).queues hs
  | toneDetection c => exact (toneDetection_noticed h).queues hs
  | returnToNormal c => exact (returnToNormal_noticed h).queues hs
  | quietPoint c => exact (quietPoint_noticed h).queues hs
  | alcPeriodEnd c => exact (alcPeriodEnd_noticed h).queues hs
  | frameBegin => exact (frameBegin_noticed h).queues hs
  | slotSent highway slot => exact (slotSent_noticed h).queues hs
  | signatureDone => cases h; exact s.completeSignature_noticed.queues hs
  | frameComplete => exact (frameComplete_noticed h).queues hs
  | masterFramePulse => exact (masterFramePulse_noticed h).queues hs
  | framePulse position => exact (framePulse_noticed h).queues hs
  | missedPulse => exact (missedPulse_noticed h).queues hs
  | syncLoss => exact (syncLoss_noticed h).queues hs
  | clockLoss => exact (clockLoss_noticed h).queues hs
  | clockReturn => exact (clockReturn_noticed h).queues hs
  | _ => cases hi

theorem exec_queues {i : Instr} {s t : State} (h : exec i s = .next t) (hs : s.QueuesSound) : t.QueuesSound := by
  cases hi : i.request? with
  | none => exact exec_event_queues hi h hs
  | some r => exact (requestRow_of (tag := r.1) (kind := r.2) hi).queues h hs

/-! ## Completion -/

/-- A choice between two steps completes. -/
theorem next_ite {P : Prop} [Decidable P] (a b : State) :
    ∃ t : State, (if P then .next a else .next b : Host.Outcome State Fault Refusal) = .next t := by
  split <;> exact ⟨_, rfl⟩

theorem channelEvent_completes {s : State} (h : s.ProfilesHeld) (c : Chan) (act : Profile → State → State) :
    ∃ t : State, channelEvent c act s = .next t := by
  unfold channelEvent
  split
  · exact ⟨_, rfl⟩
  · next hopen =>
    split
    · exact ⟨_, rfl⟩
    · next hnone => exact absurd ((h c).mpr hnone) hopen

theorem State.takeArrival_completes {s : State} (h : s.ProfilesHeld) (c : Chan) (rin sin : Byte) :
    ∃ t : State, s.takeArrival c rin sin = .next t := by
  unfold State.takeArrival
  split
  · exact ⟨_, rfl⟩
  · next hopen =>
    split
    · exact ⟨_, rfl⟩
    · next hnone => exact absurd ((h c).mpr hnone) hopen

theorem sampleArrival_completes {s : State} (h : s.ProfilesHeld) (c : Chan) (rin sin : Byte) (upset : List Disturbance) :
    ∃ t : State, execSampleArrival c rin sin upset s = .next t := by
  have hheld := (s.disturb_works upset).held h
  unfold execSampleArrival
  dsimp only
  split
  · split
    · split
      · exact ⟨_, rfl⟩
      · exact State.takeArrival_completes (s := (s.disturb upset).onPort _) hheld c rin sin
    · exact ⟨_, rfl⟩
  · exact ⟨_, rfl⟩

theorem framePulse_completes (position : Byte) (s : State) : ∃ t : State, execFramePulse position s = .next t := by
  unfold execFramePulse
  split
  · split
    · exact ⟨_, rfl⟩
    · exact next_ite _ _
  · exact ⟨_, rfl⟩

theorem slotSent_completes (h : Highway) (n : Slot) (s : State) : ∃ t : State, execSlotSent h n s = .next t := by
  unfold execSlotSent
  split
  · split
    · exact ⟨_, rfl⟩
    · split <;> exact ⟨_, rfl⟩
  · exact ⟨_, rfl⟩

theorem RequestRow.completes {i : Instr} {tag kind : Byte} (h : RequestRow i tag kind) (s : State) :
    ∃ t : State, exec i s = .next t := by
  cases h with
  | restart _ hexec => exact ⟨_, hexec s⟩
  | readTaps _ _ _ hexec => exact ⟨_, hexec s⟩
  | owned _ _ hexec => exact ⟨_, hexec s⟩

/-- A command that is no request completes where the open channels hold a profile. -/
theorem exec_event_completes {i : Instr} (hi : i.request? = none) {s : State} (h : s.ProfilesHeld) :
    ∃ t : State, exec i s = .next t := by
  cases i with
  | powerOnReset br1 br0 => exact ⟨_, rfl⟩
  | receivedByte b framingError => exact ⟨_, rfl⟩
  | gapTimeout => exact ⟨_, rfl⟩
  | frameSent => exact ⟨_, rfl⟩
  | sampleArrival c rin sin upset => exact sampleArrival_completes h c rin sin upset
  | dtHangoverEnd c => exact show ∃ t, execDtHangoverEnd c s = .next t from channelEvent_completes h c _
  | dwellEnd c => exact show ∃ t, execDwellEnd c s = .next t from channelEvent_completes h c _
  | endOfOpening c => exact show ∃ t, execEndOfOpening c s = .next t from channelEvent_completes h c _
  | reachTrack c => exact show ∃ t, execReachTrack c s = .next t from channelEvent_completes h c _
  | pathChange c => exact show ∃ t, execPathChange c s = .next t from channelEvent_completes h c _
  | divergence c => exact show ∃ t, execDivergence c s = .next t from channelEvent_completes h c _
  | nlpRelease c => exact show ∃ t, execNlpRelease c s = .next t from channelEvent_completes h c _
  | noiseFloorUpdate c => exact show ∃ t, execNoiseFloorUpdate c s = .next t from channelEvent_completes h c _
  | toneDetection c => exact show ∃ t, execToneDetection c s = .next t from channelEvent_completes h c _
  | returnToNormal c => exact show ∃ t, execReturnToNormal c s = .next t from channelEvent_completes h c _
  | quietPoint c => exact show ∃ t, execQuietPoint c s = .next t from channelEvent_completes h c _
  | alcPeriodEnd c => exact show ∃ t, execAlcPeriodEnd c s = .next t from channelEvent_completes h c _
  | frameBegin => exact next_ite _ _
  | slotSent highway slot => exact slotSent_completes highway slot s
  | signatureDone => exact ⟨_, rfl⟩
  | frameComplete => exact next_ite _ _
  | masterFramePulse => exact next_ite _ _
  | framePulse position => exact framePulse_completes position s
  | missedPulse => exact next_ite _ _
  | syncLoss => exact next_ite _ _
  | clockLoss => exact next_ite _ _
  | clockReturn => exact next_ite _ _
  | _ => cases hi

theorem exec_completes (i : Instr) {s : State} (h : s.ProfilesHeld) : ∃ t : State, exec i s = .next t := by
  cases hi : i.request? with
  | none => exact exec_event_completes hi h
  | some r => exact (requestRow_of (tag := r.1) (kind := r.2) hi).completes s

/-! ## One step -/

theorem State.withPending_keeps (s : State) (q : List Instr) : s.KeepsAll (s.withPending q) := .relinked rfl rfl rfl ⟨rfl, rfl, rfl⟩

/-- A step keeps the laws of the states. -/
theorem step_keeps {s t : State} (h : step s = .next t) : s.KeepsAll t := by
  unfold step at h
  split at h
  · exact (s.withPending_keeps _).trans (exec_keeps h)
  · cases h; exact bitClock_keeps s

theorem step_queues {s t : State} (h : step s = .next t) (hs : s.QueuesSound) : t.QueuesSound := by
  unfold step at h
  split at h
  · exact exec_queues (s := s.withPending _) h hs
  · cases h
    rw [State.QueuesSound, bitClock_link]
    exact hs

theorem step_completes {s : State} (h : s.ProfilesHeld) : ∃ t : State, step s = .next t := by
  unfold step
  split
  · exact exec_completes _ ((s.withPending_keeps _).held h)
  · exact ⟨_, rfl⟩

end Sys2Proof.Machine

namespace Sys2Proof

open Sys2Proof.Machine

/-! ## The statements -/

/-- Settles O56: only an open channel without a profile stops a command, and a step keeps the profiles held. -/
theorem everyStepCompletes : Obligations.EveryStepCompletes := fun s h => by
  obtain ⟨t, ht⟩ := step_completes h
  exact ⟨t, ht, (step_keeps ht).held h⟩

/-- Settles O57: the counters saturate, and notices, replies and the arbiter keep the queues. -/
theorem stepKeepsCountersAndQueues : Obligations.StepKeepsCountersAndQueues := fun _ _ h =>
  ⟨(step_keeps h).counters, step_queues h⟩

/-- Settles O58: each act keeps the ranges, through the acts of its row. -/
theorem stepKeepsValuesInRange : Obligations.StepKeepsValuesInRange := fun _ _ h =>
  ⟨(step_keeps h).signal, (step_keeps h).taps, (step_keeps h).counts, (step_keeps h).gain⟩

/-- Settles O59: each act keeps the maps, the port and the signature, through the acts of its row. -/
theorem stepKeepsPortLaws : Obligations.StepKeepsPortLaws := fun _ _ h =>
  ⟨(step_keeps h).maps, (step_keeps h).port, (step_keeps h).signature⟩

/-- Settles O60: each act keeps the pool, through the acts of its row. -/
theorem stepKeepsThePool : Obligations.StepKeepsThePool := fun _ _ h => (step_keeps h).pool

end Sys2Proof
end

section
/-!
PROOFS. The parts of a channel's context that the steps of a sample write, each by one group of steps (section 1.6), and what each
step writes.
-/

namespace Sys2Proof.Machine

/-! ## The parts of a context -/

/-- What steps 1 to 3 of R15 write: the history, the talk detector, OVERLOAD and the tone monitor. -/
structure Hearing where
  ring : List Int
  sumX : Nat
  sumS : Nat
  recentS : List Int
  dtFlag : Bool
  dtHangover : Nat
  dtOnsets : Nat
  talk : Talk
  quietRun : Nat
  overload : Bool
  toneS : ToneRun
  toneX : ToneRun
  toneMode : ToneMode
  tone : Bool
  toneBypasses : Nat

def Channel.hearing (ch : Channel) : Hearing :=
  { ring := ch.ring, sumX := ch.sumX, sumS := ch.sumS, recentS := ch.recentS, dtFlag := ch.dtFlag, dtHangover := ch.dtHangover
    dtOnsets := ch.counters.dtOnsets, talk := ch.talk, quietRun := ch.quietRun, overload := ch.conditions.overload
    toneS := ch.toneS, toneX := ch.toneX, toneMode := ch.toneMode, tone := ch.conditions.tone
    toneBypasses := ch.counters.toneBypasses }

def Channel.rehear (ch : Channel) (h : Hearing) : Channel :=
  { ch with
    ring := h.ring, sumX := h.sumX, sumS := h.sumS, recentS := h.recentS, dtFlag := h.dtFlag, dtHangover := h.dtHangover
    talk := h.talk, quietRun := h.quietRun, toneS := h.toneS, toneX := h.toneX, toneMode := h.toneMode
    conditions := { ch.conditions with overload := h.overload, tone := h.tone }
    counters := { ch.counters with dtOnsets := h.dtOnsets, toneBypasses := h.toneBypasses } }

/-- What the run counting of step 6 writes: the service mode, the runs, DIVERGED and their counters. -/
structure Running where
  service : Service
  convRun : Nat
  changeRun : Nat
  divRun : Nat
  diverged : Bool
  pathChanges : Nat
  divergences : Nat

def Channel.running (ch : Channel) : Running :=
  { service := ch.service, convRun := ch.convRun, changeRun := ch.changeRun, divRun := ch.divRun
    diverged := ch.conditions.diverged, pathChanges := ch.counters.pathChanges, divergences := ch.counters.divergences }

def Channel.rerun (ch : Channel) (r : Running) : Channel :=
  { ch with
    service := r.service, convRun := r.convRun, changeRun := r.changeRun, divRun := r.divRun
    conditions := { ch.conditions with diverged := r.diverged }
    counters := { ch.counters with pathChanges := r.pathChanges, divergences := r.divergences } }

/-- What steps 7 to 10 write, but for the ALC: the suppressor, the noise generator, the output codes, CLIPPED and its counter. -/
structure Sounding where
  engaged : Bool
  nlpHangover : Nat
  noiseFloor : Nat
  noiseReg : Nat
  sumV : Nat
  clipped : Bool
  clipEvents : Nat
  lastRout : Byte
  lastSout : Byte
  freshRout : Bool
  freshSout : Bool

def Channel.sounding (ch : Channel) : Sounding :=
  { engaged := ch.engaged, nlpHangover := ch.nlpHangover, noiseFloor := ch.noiseFloor, noiseReg := ch.noiseReg, sumV := ch.sumV
    clipped := ch.conditions.clipped, clipEvents := ch.counters.clipEvents, lastRout := ch.lastRout, lastSout := ch.lastSout
    freshRout := ch.freshRout, freshSout := ch.freshSout }

def Channel.resound (ch : Channel) (k : Sounding) : Channel :=
  { ch with
    engaged := k.engaged, nlpHangover := k.nlpHangover, noiseFloor := k.noiseFloor, noiseReg := k.noiseReg, sumV := k.sumV
    conditions := { ch.conditions with clipped := k.clipped }
    counters := { ch.counters with clipEvents := k.clipEvents }
    lastRout := k.lastRout, lastSout := k.lastSout, freshRout := k.freshRout, freshSout := k.freshSout }

/-- What the ALC and an apply write: the gain index and the counts of its periods. -/
structure Leveling where
  gain : Nat
  periodCount : Nat
  releaseCount : Nat

def Channel.leveling (ch : Channel) : Leveling :=
  { gain := ch.gain, periodCount := ch.periodCount, releaseCount := ch.releaseCount }

def Channel.relevel (ch : Channel) (k : Leveling) : Channel :=
  { ch with gain := k.gain, periodCount := k.periodCount, releaseCount := k.releaseCount }

/-- What the end of a sample's work writes: the life and the opening count, and by an apply the profile, the slot and the pad. -/
structure Standing where
  life : Life
  openingCount : Nat
  profile : Option Profile
  staged : Staged
  padIndex : Nat

def Channel.standing (ch : Channel) : Standing :=
  { life := ch.life, openingCount := ch.openingCount, profile := ch.profile, staged := ch.staged, padIndex := ch.padIndex }

def Channel.restand (ch : Channel) (k : Standing) : Channel :=
  { ch with
    life := k.life, openingCount := k.openingCount, profile := k.profile, staged := k.staged, padIndex := k.padIndex }

/-! ## Steps 1 to 3 -/

/-- A context that differs from another in what it has heard alone. -/
abbrev Channel.Hears (a b : Channel) : Prop := b = a.rehear b.hearing

theorem Channel.Hears.refl (ch : Channel) : ch.Hears ch := rfl

theorem Channel.Hears.trans {a b d : Channel} (h : a.Hears b) (h' : b.Hears d) : a.Hears d := by
  rw [Channel.Hears, h', h]; rfl

theorem Channel.moveDt_hears (ch : Channel) (q : Bool) : ch.Hears (ch.moveDt q) := by
  unfold Channel.moveDt Channel.endHangover
  split
  · split <;> rfl
  · split
    · split <;> rfl
    · rfl

theorem Channel.noteOverload_hears (ch : Channel) (a : Arrival) : ch.Hears (ch.noteOverload a) := by
  unfold Channel.noteOverload
  split <;> rfl

theorem Channel.judged_hears (ch : Channel) (a : Arrival) : ch.Hears (ch.judged a) :=
  Channel.Hears.trans (b := ch.hear a) rfl ((Channel.moveDt_hears _ _).trans
    (Channel.Hears.trans (b := Channel.setTalk _ _) rfl (Channel.noteOverload_hears _ a)))

theorem Channel.detected_hears (ch : Channel) (p : Profile) : ch.Hears (ch.detected p) := by
  unfold Channel.detected
  split <;> rfl

theorem Channel.sensed_hears (ch : Channel) (a : Arrival) : ch.Hears (ch.sensed a) :=
  (ch.judged_hears a).trans (Channel.Hears.trans (b := (ch.judged a).moveTones.returned) rfl (Channel.detected_hears _ _))

/-! ## The runs -/

/-- A context that differs from another in its runs and its placing alone. -/
abbrev Channel.Runs (a b : Channel) : Prop := b = (a.rerun b.running).replant b.placing

theorem Channel.moveRuns_runs (ch : Channel) : ch.Runs ch.moveRuns := by
  rw [Channel.Runs, Channel.moveRuns_same]; rfl

theorem Channel.Runs.trans {a b d : Channel} (h : a.Runs b) (h' : b.Runs d) : a.Runs d := by
  rw [Channel.Runs, h', h]; rfl

theorem Channel.settled_runs (ch : Channel) : ch.Runs ch.settled := by
  unfold Channel.settled
  split
  · rw [Channel.diverged_eq]; rfl
  · split
    · rfl
    · split <;> rfl

/-! ## Steps 7 to 10 -/

/-- A context that differs from another in what it sends and in its levels alone. -/
abbrev Channel.Sounds (a b : Channel) : Prop := b = (a.resound b.sounding).relevel b.leveling

theorem Channel.Sounds.trans {a b d : Channel} (h : a.Sounds b) (h' : b.Sounds d) : a.Sounds d := by
  rw [Channel.Sounds, h', h]; rfl

theorem Channel.moveEngaged_sounds (ch : Channel) (a : Arrival) : ch.Sounds (ch.moveEngaged a) := by
  unfold Channel.moveEngaged
  split
  · rfl
  · split
    · rfl
    · split
      · rfl
      · split
        · rfl
        · unfold Channel.releaseSuppressor
          split <;> rfl

theorem Channel.updateNoiseFloor_sounds (ch : Channel) (p : Profile) : ch.Sounds (ch.updateNoiseFloor p) := by
  unfold Channel.updateNoiseFloor
  split <;> rfl

theorem Channel.gated_sounds (ch : Channel) (a : Arrival) : ch.Sounds (ch.gated a) :=
  (ch.moveEngaged_sounds a).trans (Channel.updateNoiseFloor_sounds _ _)

theorem Channel.endPeriod_sounds (ch : Channel) (p : Profile) : ch.Sounds (ch.endPeriod p) := by
  have hdown : ∀ ch : Channel, ch.Sounds (ch.stepDown p) := fun ch => by
    unfold Channel.stepDown; split <;> rfl
  have hup : ∀ ch : Channel, ch.Sounds (ch.stepUp p) := fun ch => by
    unfold Channel.stepUp; split <;> rfl
  unfold Channel.endPeriod Channel.alcAction
  split
  · split
    · exact Channel.Sounds.trans (b := { ch with periodCount := 0, releaseCount := 0 }) rfl (hdown _)
    · split
      · split
        · rfl
        · exact Channel.Sounds.trans (b := { ch with periodCount := 0, releaseCount := 0 }) rfl (hup _)
      · rfl
  · rfl

theorem Channel.countPeriod_sounds (ch : Channel) (a : Arrival) : ch.Sounds (ch.countPeriod a) := by
  unfold Channel.countPeriod
  split
  · exact Channel.Sounds.trans (b := { ch with periodCount := ch.periodCount + 1 }) rfl (Channel.endPeriod_sounds _ _)
  · rfl

theorem Channel.sounded_sounds (ch : Channel) (a : Arrival) (v : Int) (sout : Byte) : ch.Sounds (ch.sounded a v sout) :=
  (ch.gated_sounds a).trans (Channel.Sounds.trans (b := (ch.gated a).trackOutput v) rfl
    ((Channel.countPeriod_sounds _ a).trans rfl))

end Sys2Proof.Machine
end

section
/-!
PROOFS. The states between the steps of a sample (section 1.6), and what each of them has of the channel.
-/

namespace Sys2Proof.Machine

/-! ## Acts on one channel -/

/-- An act that writes of the channels one alone, and blocks, the wait list and the link. -/
structure State.Touches (s t : State) (c : Chan) : Prop where
  others : ∀ d : Chan, d ≠ c → t.chan d = s.chan d
  law : t.law = s.law
  port : t.port = s.port
  sig : t.sig = s.sig
  pending : t.pending = s.pending

theorem State.Touches.refl (s : State) (c : Chan) : s.Touches s c := ⟨fun _ _ => rfl, rfl, rfl, rfl, rfl⟩

theorem State.Touches.trans {s t u : State} {c : Chan} (h : s.Touches t c) (h' : t.Touches u c) : s.Touches u c :=
  ⟨fun d hd => (h'.others d hd).trans (h.others d hd), h'.law.trans h.law, h'.port.trans h.port, h'.sig.trans h.sig,
    h'.pending.trans h.pending⟩

theorem State.Steered.touches {s t : State} {c : Chan} {f : Channel → Channel} (h : s.Steered t c f) : s.Touches t c :=
  ⟨h.others, h.law, h.port, h.sig, h.pending⟩

theorem State.PlacesMoved.touches {s t : State} {c : Chan} (h : s.PlacesMoved t)
    (hothers : ∀ d : Chan, d ≠ c → t.chan d = s.chan d) : s.Touches t c :=
  ⟨hothers, h.law, h.port, h.sig, h.pending⟩

theorem State.blockFault_chan_of_ne (s : State) {c d : Chan} (b : BlockNo) (hd : d ≠ c) : (s.blockFault c b).chan d = s.chan d := by
  rw [(State.RoleLost.blockFault s c b).chan d hd, State.retireBlock_chan_of_ne s b hd]

theorem State.testBlocks_chan_of_ne (s : State) {c d : Chan} (ks : List (Pos × BlockNo)) (hd : d ≠ c) :
    (s.testBlocks c ks).chan d = s.chan d := by
  induction ks generalizing s with
  | nil => rfl
  | cons k ks ih =>
    rw [State.testBlocks]
    split
    · rw [ih, State.blockFault_chan_of_ne s k.2 hd]
    · exact ih s

theorem State.endDwell_chan_of_ne (s : State) {c d : Chan} (quota : Nat) (hd : d ≠ c) : (s.endDwell c quota).chan d = s.chan d := by
  unfold State.endDwell
  split
  · next k _ =>
    split
    · next tookPart _ =>
      obtain ⟨-, -, -, -, -, hothers⟩ := s.carryOut_agreesBut c k (s.verdict c quota tookPart k)
      rw [State.evaluate_eq_outcome, State.outcome_eq]
      split
      · rw [State.raiseNotice_chan]; exact hothers d hd
      · exact hothers d hd
    · rfl
  · rfl

theorem State.updateBlocks_chan (s : State) (ring : List Int) (p : Profile) (e : Int) (power : Nat) (cover : List (Pos × BlockNo))
    (d : Chan) : (cover.foldl (fun t k => t.updateBlock ring p e power k) s).chan d = s.chan d := by
  induction cover generalizing s with
  | nil => rfl
  | cons k ks ih => rw [List.foldl_cons, ih]; rfl

theorem State.adapt_chan_of_ne (s : State) {c d : Chan} (a : Arrival) (cover : List (Pos × BlockNo)) (e : Int) (power : Nat)
    (hd : d ≠ c) : (s.adapt c a cover e power).chan d = s.chan d := by
  unfold State.adapt
  rw [State.endDwell_chan_of_ne _ _ hd, State.onChan_chan_of_ne _ _ hd, State.updateBlocks_chan]

/-! ## The states between the steps -/

section
variable (s : State) (c : Chan) (a : Arrival)

/-- After steps 1 to 3. -/
def State.heard : State := (s.onChan c fun ch => ch.setInSample true).stepsOneToThree c a

/-- The residual of the sample (steps 4 and 5). -/
def State.echo : Int := residual a ((s.heard c a).echoEstimate c a.profile)

/-- After the test of the blocks. -/
def State.checked : State := (s.heard c a).testBlocks c ((s.heard c a).chan c).covered

/-- Before step 6. -/
def State.fed : State := (s.checked c a).onChan c fun ch => ch.trackResidual (s.echo c a)

/-- After the adaptation, if it is permitted. -/
def State.adapted : State :=
  if ((s.fed c a).chan c).permits a then
    (s.fed c a).adapt c a ((s.heard c a).takingPart c) (s.echo c a) ((s.heard c a).power c a.profile)
  else s.fed c a

/-- After step 6. -/
def State.stepped : State :=
  if ((s.fed c a).chan c).counted a then ((s.adapted c a).onChan c Channel.moveRuns).settleRuns c else s.adapted c a

/-- After step 10. -/
def State.output : State := (s.stepped c a).stepsSevenToTen c a (s.echo c a)

/-- At the end of the sample's work. -/
def State.finished : State := (s.output c a).endSample c a

theorem State.workSample_eq : s.workSample c a = (s.finished c a).onChan c fun ch => ch.setInSample false := by
  rfl

/-! ## What each step touches -/

theorem State.heard_steered : s.Steered (s.heard c a) c fun ch => (ch.setInSample true).sensed a :=
  (State.Steered.onChan s c _).trans (State.stepsOneToThree_steered _ c a)

theorem State.heard_chan : (s.heard c a).chan c = ((s.chan c).setInSample true).sensed a := (s.heard_steered c a).self

theorem State.checked_moved : (s.heard c a).PlacesTidied (s.checked c a) := State.PlacesTidied.testBlocks _ c _

theorem State.checked_touches : (s.heard c a).Touches (s.checked c a) c :=
  (s.checked_moved c a).toPlacesMoved.touches fun _ hd => State.testBlocks_chan_of_ne _ _ hd

theorem State.fed_steered : (s.checked c a).Steered (s.fed c a) c fun ch => ch.trackResidual (s.echo c a) := .onChan _ c _

theorem State.adapted_moved : (s.fed c a).PlacesMoved (s.adapted c a) := by
  unfold State.adapted
  split
  · exact .adapt _ c a _ _ _
  · exact .refl _

theorem State.adapted_touches : (s.fed c a).Touches (s.adapted c a) c := by
  refine (s.adapted_moved c a).touches fun d hd => ?_
  unfold State.adapted
  split
  · exact State.adapt_chan_of_ne _ a _ _ _ hd
  · rfl

/-- What the settling of the runs does first to the blocks (R60). -/
theorem State.zeroedIf_touches (t : State) (P : Prop) [Decidable P] : t.Touches (if P then t.zeroHeldTaps c else t) c := by
  split
  · rw [State.zeroHeldTaps_eq]; exact ⟨fun _ _ => rfl, rfl, rfl, rfl, rfl⟩
  · exact .refl t c

theorem State.stepped_touches : (s.adapted c a).Touches (s.stepped c a) c := by
  unfold State.stepped
  split
  · exact (State.zeroedIf_touches c _ _).trans ((s.adapted c a).countRuns_steered c).touches
  · exact .refl _ c

theorem State.stepped_chan : (s.stepped c a).chan c =
    if ((s.fed c a).chan c).counted a then ((s.adapted c a).chan c).moveRuns.settled else (s.adapted c a).chan c := by
  unfold State.stepped
  split
  · have hzeroed : (if ((s.adapted c a).chan c).moveRuns.diverging then (s.adapted c a).zeroHeldTaps c else s.adapted c a).chan c =
        (s.adapted c a).chan c := by
      split
      · rw [State.zeroHeldTaps_chan]
      · rfl
    rw [((s.adapted c a).countRuns_steered c).self, hzeroed]
  · rfl

theorem State.output_steered : (s.stepped c a).Steered (s.output c a) c fun ch =>
    ch.sounded a (((s.stepped c a).chan c).outputValue a (s.echo c a))
      ((s.stepped c a).soutCode a (((s.stepped c a).chan c).outputValue a (s.echo c a))) := by
  rw [State.output, State.stepsSevenToTen_eq]
  exact .onChan _ c _

theorem State.output_touches : s.Touches (s.output c a) c :=
  (s.heard_steered c a).touches.trans <| (s.checked_touches c a).trans <| (s.fed_steered c a).touches.trans <|
    (s.adapted_touches c a).trans <| (s.stepped_touches c a).trans (s.output_steered c a).touches

end

/-! ## The end of the sample -/

/-- A context that differs from another in what the end of a sample's work writes. -/
abbrev Channel.Ends (a b : Channel) : Prop := b = ((a.restand b.standing).relevel b.leveling).replant b.placing

theorem Channel.Ends.trans {a b d : Channel} (h : a.Ends b) (h' : b.Ends d) : a.Ends d := by
  rw [Channel.Ends, h', h]; rfl

theorem Channel.Ends.replant (ch : Channel) (x : Placing) : ch.Ends (ch.replant x) := rfl

theorem State.applied_ends (s : State) (c : Chan) (old new : Profile) : (s.chan c).Ends ((s.applied c old new).chan c) := by
  have hshed := (State.PlacesTidied.reduceQuota (s.onChan c fun ch => ch.takeProfile old new) c new.quota
    (s.chan c).windows.length).chan c
  rw [State.onChan_chan_self] at hshed
  refine Channel.Ends.trans (b := (s.chan c).takeProfile old new) rfl ?_
  rw [State.applied, State.onChan_chan_self, hshed]
  rfl

theorem State.endSample_ends (s : State) (c : Chan) (a : Arrival) : (s.chan c).Ends ((s.endSample c a).chan c) := by
  have hopening : (s.chan c).Ends ((s.chan c).countOpening a) := by rw [Channel.countOpening_eq]; rfl
  unfold State.endSample
  dsimp only
  split
  · rw [(State.endOpening_steered _ c a.profile).self, State.onChan_chan_self]
    exact hopening.trans rfl
  · unfold State.quietPoint
    split
    · split
      · rw [State.applyTakesEffect_applied, State.raiseNotice_chan]
        refine Channel.Ends.trans ?_ (State.applied_ends _ c _ _)
        rw [State.onChan_chan_self]
        exact hopening
      · rw [State.onChan_chan_self]; exact hopening
    · rw [State.onChan_chan_self]; exact hopening

/-- A channel that another channel's apply leaves but for the places a returned block fills (R57, R68). -/
abbrev Channel.Served (a b : Channel) : Prop :=
  b = { a with windows := b.windows, scout := b.scout, lastScout := b.lastScout }

theorem Channel.Served.trans {a b d : Channel} (h : a.Served b) (h' : b.Served d) : a.Served d := by
  rw [Channel.Served, h', h]

theorem State.returnBlock_serves (s : State) (b : BlockNo) (d : Chan) : (s.chan d).Served ((s.returnBlock b).chan d) := by
  rw [State.returnBlock_chan]
  split
  · next e _ =>
    split
    · cases hclaim : e.claim with
      | pin p => rw [WaitEntry.place_pin hclaim]; rfl
      | scout => rw [WaitEntry.place_scout hclaim]; rfl
    · rfl
  · rfl

theorem State.reduceQuota_served (s : State) (c : Chan) (quota fuel : Nat) {d : Chan} (hd : d ≠ c) :
    (s.chan d).Served ((s.reduceQuota c quota fuel).chan d) := by
  induction fuel generalizing s with
  | zero => rfl
  | succ fuel ih =>
    unfold State.reduceQuota
    split
    · split
      · next w _ =>
        refine Channel.Served.trans ?_ (ih _)
        unfold State.returnWindow
        dsimp only
        split
        · next b _ =>
          have hserved := State.returnBlock_serves (s.onChan c fun ch => { ch with windows := ch.windows.filter fun v => v.pos != w.pos }) b d
          rwa [State.onChan_chan_of_ne _ _ hd] at hserved
        · rw [State.onChan_chan_of_ne _ _ hd]
      · rfl
    · rfl

theorem State.applied_served (s : State) (c : Chan) (old new : Profile) {d : Chan} (hd : d ≠ c) :
    (s.chan d).Served ((s.applied c old new).chan d) := by
  have hshed := State.reduceQuota_served (s.onChan c fun ch => ch.takeProfile old new) c new.quota (s.chan c).windows.length hd
  rw [State.onChan_chan_of_ne _ _ hd] at hshed
  rwa [State.applied, State.onChan_chan_of_ne _ _ hd]

theorem State.endSample_served (s : State) (c : Chan) (a : Arrival) {d : Chan} (hd : d ≠ c) :
    (s.chan d).Served ((s.endSample c a).chan d) := by
  unfold State.endSample
  dsimp only
  split
  · rw [(State.endOpening_steered _ c a.profile).others d hd, State.onChan_chan_of_ne _ _ hd]
  · unfold State.quietPoint
    split
    · split
      · rw [State.applyTakesEffect_applied, State.raiseNotice_chan]
        have hserved : ∀ old new : Profile, _ := fun old new =>
          State.applied_served (s.onChan c fun ch => ch.countOpening a) c old new hd
        rw [State.onChan_chan_of_ne _ _ hd] at hserved
        exact hserved _ _
      · rw [State.onChan_chan_of_ne _ _ hd]
    · rw [State.onChan_chan_of_ne _ _ hd]

end Sys2Proof.Machine
end

section
/-!
PROOFS. The context of a channel at the end of a sample, told part by part from its context before (section 1.6).
-/

namespace Sys2Proof.Machine

/-! ## What the relations between contexts keep -/

theorem Channel.Hears.parts {a b : Channel} (h : a.Hears b) :
    b.running = a.running ∧ b.sounding = a.sounding ∧ b.leveling = a.leveling ∧ b.standing = a.standing ∧ b.placing = a.placing ∧
      b.sumE = a.sumE ∧ b.frozen = a.frozen ∧ b.mask = a.mask ∧ b.inSample = a.inSample := by
  rw [h]; exact ⟨rfl, rfl, rfl, rfl, rfl, rfl, rfl, rfl, rfl⟩

theorem Channel.Runs.parts {a b : Channel} (h : a.Runs b) :
    b.hearing = a.hearing ∧ b.sounding = a.sounding ∧ b.leveling = a.leveling ∧ b.standing = a.standing ∧
      b.sumE = a.sumE ∧ b.frozen = a.frozen ∧ b.mask = a.mask ∧ b.inSample = a.inSample := by
  rw [h]; exact ⟨rfl, rfl, rfl, rfl, rfl, rfl, rfl, rfl⟩

theorem Channel.Sounds.parts {a b : Channel} (h : a.Sounds b) :
    b.hearing = a.hearing ∧ b.running = a.running ∧ b.standing = a.standing ∧ b.placing = a.placing ∧
      b.sumE = a.sumE ∧ b.frozen = a.frozen ∧ b.mask = a.mask ∧ b.inSample = a.inSample := by
  rw [h]; exact ⟨rfl, rfl, rfl, rfl, rfl, rfl, rfl, rfl⟩

theorem Channel.Ends.parts {a b : Channel} (h : a.Ends b) :
    b.hearing = a.hearing ∧ b.running = a.running ∧ b.sounding = a.sounding ∧
      b.sumE = a.sumE ∧ b.frozen = a.frozen ∧ b.mask = a.mask ∧ b.inSample = a.inSample := by
  rw [h]; exact ⟨rfl, rfl, rfl, rfl, rfl, rfl, rfl⟩

theorem State.PlacesMoved.parts {s t : State} (h : s.PlacesMoved t) (c : Chan) :
    (t.chan c).hearing = (s.chan c).hearing ∧ (t.chan c).running = (s.chan c).running ∧
      (t.chan c).sounding = (s.chan c).sounding ∧ (t.chan c).leveling = (s.chan c).leveling ∧
      (t.chan c).standing = (s.chan c).standing ∧ (t.chan c).sumE = (s.chan c).sumE ∧ (t.chan c).frozen = (s.chan c).frozen ∧
      (t.chan c).mask = (s.chan c).mask ∧ (t.chan c).inSample = (s.chan c).inSample := by
  rw [h.chan c]; exact ⟨rfl, rfl, rfl, rfl, rfl, rfl, rfl, rfl, rfl⟩

/-! ## The context before step 6 -/

section
variable (s : State) (c : Chan) (a : Arrival)

/-- Before step 6 the channel has heard the sample and its residual, and holds the rest as it was. -/
structure State.Fed (s : State) (c : Chan) (a : Arrival) (ch : Channel) : Prop where
  hearing : ch.hearing = (((s.chan c).setInSample true).sensed a).hearing
  running : ch.running = (s.chan c).running
  sounding : ch.sounding = (s.chan c).sounding
  leveling : ch.leveling = (s.chan c).leveling
  standing : ch.standing = (s.chan c).standing
  sumE : ch.sumE = track (s.chan c).sumE (s.echo c a)
  frozen : ch.frozen = (s.chan c).frozen
  mask : ch.mask = (s.chan c).mask
  inSample : ch.inSample = true

theorem State.fed_fed : s.Fed c a ((s.fed c a).chan c) := by
  obtain ⟨hrun, hsound, hlevel, hstand, -, hsum, hfrozen, hmask, hin⟩ := (((s.chan c).setInSample true).sensed_hears a).parts
  obtain ⟨mhear, mrun, msound, mlevel, mstand, msum, mfrozen, mmask, min⟩ := (s.checked_moved c a).toPlacesMoved.parts c
  rw [s.heard_chan c a] at mhear mrun msound mlevel mstand msum mfrozen mmask min
  rw [(s.fed_steered c a).self]
  generalize (s.checked c a).chan c = checked at *
  refine ⟨mhear, mrun.trans hrun, msound.trans hsound, mlevel.trans hlevel, mstand.trans hstand, ?_, mfrozen.trans hfrozen,
    mmask.trans hmask, min.trans hin⟩
  show track checked.sumE (s.echo c a) = _
  rw [msum, hsum]
  rfl

theorem State.adapted_fed : s.Fed c a ((s.adapted c a).chan c) := by
  obtain ⟨hhear, hrun, hsound, hlevel, hstand, hsum, hfrozen, hmask, hin⟩ := s.fed_fed c a
  obtain ⟨mhear, mrun, msound, mlevel, mstand, msum, mfrozen, mmask, min⟩ := (s.adapted_moved c a).parts c
  exact ⟨mhear.trans hhear, mrun.trans hrun, msound.trans hsound, mlevel.trans hlevel, mstand.trans hstand, msum.trans hsum,
    mfrozen.trans hfrozen, mmask.trans hmask, min.trans hin⟩

/-! ## The context after step 6, after step 10 and at the end -/

theorem State.stepped_runs : ((s.adapted c a).chan c).Runs ((s.stepped c a).chan c) := by
  rw [State.stepped_chan]
  split
  · exact (Channel.moveRuns_runs _).trans (Channel.settled_runs _)
  · rfl

theorem State.output_sounds : ((s.stepped c a).chan c).Sounds ((s.output c a).chan c) := by
  rw [(s.output_steered c a).self]
  exact Channel.sounded_sounds _ a _ _

theorem State.finished_ends : ((s.output c a).chan c).Ends ((s.finished c a).chan c) := (s.output c a).endSample_ends c a

/-- After step 6 but for its runs and its placing the context is as before it. -/
structure State.Stepped (s : State) (c : Chan) (a : Arrival) (ch : Channel) : Prop where
  hearing : ch.hearing = (((s.chan c).setInSample true).sensed a).hearing
  running : ch.running = ((s.stepped c a).chan c).running
  sumE : ch.sumE = track (s.chan c).sumE (s.echo c a)
  frozen : ch.frozen = (s.chan c).frozen
  mask : ch.mask = (s.chan c).mask

theorem State.stepped_stepped : s.Stepped c a ((s.stepped c a).chan c) := by
  obtain ⟨hhear, -, -, -, hsum, hfrozen, hmask, -⟩ := (s.stepped_runs c a).parts
  have hfed := s.adapted_fed c a
  exact ⟨hhear.trans hfed.hearing, rfl, hsum.trans hfed.sumE, hfrozen.trans hfed.frozen, hmask.trans hfed.mask⟩

theorem State.stepped_rest :
    ((s.stepped c a).chan c).sounding = (s.chan c).sounding ∧ ((s.stepped c a).chan c).leveling = (s.chan c).leveling ∧
      ((s.stepped c a).chan c).standing = (s.chan c).standing ∧ ((s.stepped c a).chan c).inSample = true := by
  obtain ⟨-, hsound, hlevel, hstand, -, -, -, hin⟩ := (s.stepped_runs c a).parts
  have hfed := s.adapted_fed c a
  exact ⟨hsound.trans hfed.sounding, hlevel.trans hfed.leveling, hstand.trans hfed.standing, hin.trans hfed.inSample⟩

theorem State.output_stepped : s.Stepped c a ((s.output c a).chan c) := by
  obtain ⟨hhear, hrun, -, -, hsum, hfrozen, hmask, -⟩ := (s.output_sounds c a).parts
  have h := s.stepped_stepped c a
  exact ⟨hhear.trans h.hearing, hrun.trans h.running, hsum.trans h.sumE, hfrozen.trans h.frozen, hmask.trans h.mask⟩

theorem State.output_rest :
    ((s.output c a).chan c).standing = (s.chan c).standing ∧ ((s.output c a).chan c).placing = ((s.stepped c a).chan c).placing ∧
      ((s.output c a).chan c).inSample = true := by
  obtain ⟨-, -, hstand, hplace, -, -, -, hin⟩ := (s.output_sounds c a).parts
  obtain ⟨-, -, hstand', hin'⟩ := s.stepped_rest c a
  exact ⟨hstand.trans hstand', hplace, hin.trans hin'⟩

theorem State.finished_stepped : s.Stepped c a ((s.finished c a).chan c) ∧
    ((s.finished c a).chan c).sounding = ((s.output c a).chan c).sounding := by
  obtain ⟨hhear, hrun, hsound, hsum, hfrozen, hmask, -⟩ := (s.finished_ends c a).parts
  have h := s.output_stepped c a
  exact ⟨⟨hhear.trans h.hearing, hrun.trans h.running, hsum.trans h.sumE, hfrozen.trans h.frozen, hmask.trans h.mask⟩, hsound⟩

/-- At the end of a sample, with its mark cleared. -/
theorem State.workSample_stepped : s.Stepped c a ((s.workSample c a).chan c) ∧
    ((s.workSample c a).chan c).sounding = ((s.output c a).chan c).sounding ∧ ((s.workSample c a).chan c).inSample = false := by
  obtain ⟨⟨hhear, hrun, hsum, hfrozen, hmask⟩, hsound⟩ := s.finished_stepped c a
  rw [State.workSample_eq, State.onChan_chan_self]
  exact ⟨⟨hhear, hrun, hsum, hfrozen, hmask⟩, hsound, rfl⟩

end

/-! ## An arrival that its frame owes -/

/-- The state when the arrival is taken: the disturbances stored, the arrival noted (R26, R152). -/
def State.arrived (s : State) (c : Chan) (f : Frame) (n m : Slot) (upset : List Disturbance) : State :=
  (s.disturb upset).onPort fun p => p.noteArrival f c (n, m)

theorem State.arrived_chan (s : State) (c : Chan) (f : Frame) (n m : Slot) (upset : List Disturbance) (d : Chan) :
    (s.arrived c f n m upset).chan d = s.chan d := by
  rw [State.arrived, State.onPort_chan, State.disturb_chan]

theorem exec_sampleArrival_open {s : State} {c : Chan} {f : Frame} {n m : Slot} {p : Profile} (rin sin : Byte)
    (upset : List Disturbance) (h : s.AwaitsArrival c f n m) (hopen : (s.chan c).life ≠ .closed)
    (hp : (s.chan c).profile = some p) :
    exec (.sampleArrival c rin sin upset) s = .next ((s.arrived c f n m upset).settleNotice
      ((s.arrived c f n m upset).workSample c ((s.arrived c f n m upset).receive c p rin sin))) := by
  rw [exec_sampleArrival, execSampleArrival_delivered rin sin upset h]
  show (s.arrived c f n m upset).takeArrival c rin sin = _
  have hchan := s.arrived_chan c f n m upset c
  unfold State.takeArrival
  rw [if_neg (by rwa [hchan])]
  simp only [hchan, hp]

@[simp] theorem State.settleNotice_chan (s t : State) (d : Chan) : (s.settleNotice t).chan d = t.chan d := by
  rw [State.settleNotice_eq]; rfl

@[simp] theorem State.settleNotice_block (s t : State) (b : BlockNo) : (s.settleNotice t).block b = t.block b := by
  rw [State.settleNotice_eq]; rfl

end Sys2Proof.Machine
end

section
/-!
PROOFS. What a sample's classification leaves (R77 to R81), the end of a sample with and without an apply (R131, R134), and the
service-mode runs of a sample (R87 to R91).
-/

namespace Sys2Proof.Machine

/-! ## The talk state and the quiet run -/

theorem Channel.detected_tones (ch : Channel) (p : Profile) :
    ch.detected p = { ch with
      toneS := (ch.detected p).toneS, toneX := (ch.detected p).toneX, toneMode := (ch.detected p).toneMode
      conditions := { ch.conditions with tone := (ch.detected p).conditions.tone }
      counters := { ch.counters with toneBypasses := (ch.detected p).counters.toneBypasses } } := by
  unfold Channel.detected
  split <;> rfl

/-- The channel once the tone monitor has judged the sample (R105 to R107, R110). -/
def Channel.toned (ch : Channel) (p : Profile) : Channel := ch.moveTones.returned.detected p

theorem Channel.toned_eq (ch : Channel) (p : Profile) :
    ch.toned p = { ch with
      toneS := (ch.toned p).toneS, toneX := (ch.toned p).toneX, toneMode := (ch.toned p).toneMode
      conditions := { ch.conditions with tone := (ch.toned p).conditions.tone }
      counters := { ch.counters with toneBypasses := (ch.toned p).counters.toneBypasses } } :=
  Channel.detected_tones ch.moveTones.returned p

theorem Channel.sensed_eq_toned (ch : Channel) (a : Arrival) : ch.sensed a = (ch.judged a).toned a.profile := rfl

/-- The channel with its DT flag and hangover moved on the sample it has heard (R78, R79). -/
def Channel.watched (ch : Channel) (a : Arrival) : Channel := (ch.hear a).moveDt ((ch.hear a).qualifies a)

theorem Channel.judged_talk (ch : Channel) (a : Arrival) :
    ch.judged a = { ch.watched a with
      talk := (ch.watched a).talkState a.profile
      quietRun := if (ch.watched a).talkState a.profile = .idle then min 65535 ((ch.watched a).quietRun + 1) else 0
      conditions := { (ch.watched a).conditions with
        overload := if a.overloaded then true else (ch.watched a).conditions.overload } } := by
  show ((ch.watched a).setTalk ((ch.watched a).talkState a.profile)).noteOverload a = _
  unfold Channel.noteOverload
  split <;> rfl

theorem Channel.moveDt_dt (ch : Channel) (q : Bool) :
    ch.moveDt q = { ch with
      dtFlag := (ch.moveDt q).dtFlag, dtHangover := (ch.moveDt q).dtHangover
      counters := { ch.counters with dtOnsets := (ch.moveDt q).counters.dtOnsets } } := by
  unfold Channel.moveDt Channel.endHangover
  split
  · split <;> rfl
  · split
    · split <;> rfl
    · rfl

/-- The quiet run after a sample follows its talk state (R81). -/
theorem Channel.sensed_quietRun (ch : Channel) (a : Arrival) :
    (ch.sensed a).quietRun = if (ch.sensed a).talk = .idle then min 65535 (ch.quietRun + 1) else 0 := by
  have hwatched : (ch.watched a).quietRun = ch.quietRun :=
    by rw [Channel.watched, Channel.moveDt_dt]; rfl
  have hjudged := ch.judged_talk a
  rw [Channel.sensed_eq_toned]
  generalize ch.judged a = judged at *
  rw [judged.toned_eq a.profile, hjudged, ← hwatched]

/-! ## The end of a sample -/

/-- What the end of a sample without an apply makes of the context (R131). -/
def Channel.ended (ch : Channel) (a : Arrival) : Channel :=
  if a.start.life = .opening then (ch.countOpening a).openingEnded a.profile else ch

theorem State.onChan_countOpening {s : State} {c : Chan} {a : Arrival} (h : a.start.life ≠ .opening) :
    (s.onChan c fun ch => ch.countOpening a) = s := by
  rw [State.onChan_eq_setChan, Channel.countOpening, if_neg h, State.setChan_chan_eq]

/-- A pending apply meets its quiet point on the sample in work (R134). -/
structure State.Applies (s : State) (c : Chan) (q : Profile) : Prop where
  inSample : (s.chan c).inSample = true
  life : (s.chan c).life = .active
  quiet : 400 ≤ (s.chan c).quietRun
  pending : (s.chan c).staged = .pending q

theorem State.endSample_unapplied {s : State} {c : Chan} {a : Arrival}
    (h : a.start.life = .opening ∨ ∀ q : Profile, ¬s.Applies c q) : s.Steered (s.endSample c a) c fun ch => ch.ended a := by
  unfold State.endSample
  dsimp only
  split
  · next hopening =>
    refine ((State.Steered.onChan s c _).trans (State.endOpening_steered _ c a.profile)).congr ?_
    rw [Channel.ended, if_pos hopening]
  · next hopening =>
    have hnone := h.resolve_left hopening
    rw [State.onChan_countOpening hopening]
    refine State.Steered.congr (f := id) ?_ (by rw [Channel.ended, if_neg hopening]; rfl)
    unfold State.quietPoint
    split
    · next q hq =>
      rw [if_neg fun h => hnone q ⟨h.1, h.2.1, h.2.2, hq⟩]
      exact .of_eq rfl
    · exact .of_eq rfl

theorem State.endSample_applied {s : State} {c : Chan} {a : Arrival} {q : Profile} (hopening : a.start.life ≠ .opening)
    (h : s.Applies c q) : s.endSample c a = s.applyTakesEffect c q := by
  unfold State.endSample
  dsimp only
  rw [if_neg hopening, State.onChan_countOpening hopening, State.quietPoint_of_pending h.inSample h.life h.pending h.quiet]

/-- A sample that is not IDLE has no quiet point (R81, R134). -/
theorem State.output_unapplied {s : State} {c : Chan} {a : Arrival} (h : ((s.output c a).chan c).talk ≠ .idle) (q : Profile) :
    ¬(s.output c a).Applies c q := fun hq => by
  have hhear := (s.output_stepped c a).hearing
  have hquiet : ((s.output c a).chan c).quietRun = 0 := by
    rw [congrArg Hearing.talk hhear |> (show ((s.output c a).chan c).talk = _ from ·)] at h
    rw [(congrArg Hearing.quietRun hhear |> (show ((s.output c a).chan c).quietRun = _ from ·)), Channel.hearing]
    exact (Channel.sensed_quietRun _ a).trans (if_neg h)
  have := hq.quiet
  omega

/-! ## The runs of a sample -/

theorem Channel.counted_iff (ch : Channel) (a : Arrival) :
    ch.counted a = true ↔
      a.start.life = .active ∧ ch.talk = .far ∧ a.overloaded = false ∧ a.start.toneMode ≠ .bypass := by
  simp [Channel.counted, and_assoc]

theorem Arrival.overloaded_iff (a : Arrival) : a.overloaded = true ↔ 32000 ≤ a.r.natAbs ∨ 32000 ≤ a.send.natAbs := by
  simp [Arrival.overloaded]

/-- The runs moved, each by its condition where it counts in the mode (R87). -/
theorem Channel.moveRuns_eq (ch : Channel) :
    ch.moveRuns = { ch with
      convRun :=
        if ch.service = .acquire then (if ch.sumE / 32 * 4 ≤ ch.sumS / 32 then ch.convRun + 1 else 0) else ch.convRun
      changeRun :=
        if ch.service = .track then (if ch.sumS / 32 < ch.sumE / 32 * 2 then ch.changeRun + 1 else 0) else ch.changeRun
      divRun := if 2 * (ch.sumS / 32) < ch.sumE / 32 then ch.divRun + 1 else 0 } := by
  unfold Channel.moveRuns moveRun level
  dsimp only
  cases h : ch.service with
  | acquire => simp only [decide_eq_true_eq, reduceCtorEq, if_true, if_false]
  | track => simp only [decide_eq_true_eq, reduceCtorEq, if_true, if_false]

theorem Channel.settled_diverged {ch : Channel} (h : 1024 ≤ ch.divRun) : ch.settled = ch.diverged :=
  if_pos (ch.diverging_iff.mpr h)

theorem Channel.settled_tracked {ch : Channel} (hdiv : ch.divRun < 1024) (hmode : ch.service = .acquire) (h : 2048 ≤ ch.convRun) :
    ch.settled = ch.tracked := by
  rw [Channel.settled, if_neg fun h => Nat.not_le.mpr hdiv (ch.diverging_iff.mp h), if_pos (ch.converged_iff.mpr ⟨hmode, h⟩)]

theorem Channel.settled_changed {ch : Channel} (hdiv : ch.divRun < 1024) (hmode : ch.service = .track) (h : 512 ≤ ch.changeRun) :
    ch.settled = ch.pathChanged := by
  rw [Channel.settled, if_neg fun h => Nat.not_le.mpr hdiv (ch.diverging_iff.mp h),
    if_neg fun h => (by rw [((ch.converged_iff).mp h).1] at hmode; cases hmode), if_pos (ch.pathMoved_iff.mpr ⟨hmode, h⟩)]

theorem Channel.settled_still {ch : Channel} (hdiv : ch.divRun < 1024) (hconv : ch.service = .acquire → ch.convRun < 2048)
    (hchange : ch.service = .track → ch.changeRun < 512) : ch.settled = ch := by
  rw [Channel.settled, if_neg fun h => Nat.not_le.mpr hdiv (ch.diverging_iff.mp h),
    if_neg fun h => (by have := (ch.converged_iff).mp h; exact Nat.not_le.mpr (hconv this.1) this.2),
    if_neg fun h => (by have := (ch.pathMoved_iff).mp h; exact Nat.not_le.mpr (hchange this.1) this.2)]

/-! ## The blocks of a sample -/

theorem State.stepped_block (s : State) (c : Chan) (a : Arrival) (b : BlockNo) :
    (s.stepped c a).block b =
      if ((s.fed c a).chan c).counted a = true ∧ ((s.adapted c a).chan c).moveRuns.diverging = true ∧
          b ∈ ((s.adapted c a).chan c).covered.map Prod.snd then
        { (s.adapted c a).block b with taps := List.replicate 32 0, altered := false }
      else (s.adapted c a).block b := by
  unfold State.stepped
  by_cases hcounted : ((s.fed c a).chan c).counted a = true
  · rw [if_pos hcounted, ((s.adapted c a).countRuns_steered c).block]
    by_cases hdiv : ((s.adapted c a).chan c).moveRuns.diverging = true
    · rw [if_pos hdiv, State.zeroHeldTaps_block]
      simp only [hcounted, hdiv, true_and]
    · rw [if_neg hdiv, if_neg fun h => hdiv h.2.1]
  · rw [if_neg hcounted, if_neg fun h => hcounted h.1]

theorem State.stepped_wait (s : State) (c : Chan) (a : Arrival) : (s.stepped c a).wait = (s.adapted c a).wait := by
  unfold State.stepped
  split
  · rw [((s.adapted c a).countRuns_steered c).wait]
    split
    · rw [State.zeroHeldTaps_wait]
    · rfl
  · rfl

/-- The values of an arrival as the claims tell them (R13, R14). -/
theorem State.arrived_receive (s : State) (c : Chan) (f : Frame) (n m : Slot) (p : Profile) (rin sin : Byte)
    (upset : List Disturbance) :
    ((s.arrived c f n m upset).receive c p rin sin) =
      { profile := p, start := s.chan c, rout := (s.sampleValues c p rin sin upset).rout
        r := (s.sampleValues c p rin sin upset).r, x := (s.sampleValues c p rin sin upset).x
        send := (s.sampleValues c p rin sin upset).send } := by
  have hlaw : (s.arrived c f n m upset).law = s.law := by rw [State.arrived, State.onPort_law, State.disturb_law]
  simp only [State.receive, hlaw, State.arrived_chan]
  rfl

end Sys2Proof.Machine
end

section
/-!
PROOFS. The service-mode runs through a sample arrival (R87 to R91).
-/

namespace Sys2Proof.Machine

/-! ## A sample arrival, told by the states between its steps -/

/-- A sample that was taken, with the states it began and ended in. -/
structure State.Sampled (s t : State) (c : Chan) (p : Profile) (rin sin : Byte) (upset : List Disturbance) (s0 : State)
    (a : Arrival) : Prop where
  chans : ∀ d : Chan, s0.chan d = s.chan d
  blocks : s0.blocks = (s.disturb upset).blocks
  wait : s0.wait = s.wait
  law : s0.law = s.law
  link : s0.link = s.link
  profile : a.profile = p
  start : a.start = s.chan c
  values : a.rout = (s.sampleValues c p rin sin upset).rout ∧ a.r = (s.sampleValues c p rin sin upset).r ∧
    a.x = (s.sampleValues c p rin sin upset).x ∧ a.send = (s.sampleValues c p rin sin upset).send
  linear : s0.law.Linear → a.Linear
  result : t = s0.settleNotice (s0.workSample c a)

theorem State.sampled {s t : State} {c : Chan} {f : Frame} {n m : Slot} {p : Profile} {rin sin : Byte} {upset : List Disturbance}
    (hawaits : s.AwaitsArrival c f n m) (hopen : (s.chan c).life ≠ .closed) (hp : (s.chan c).profile = some p)
    (h : exec (.sampleArrival c rin sin upset) s = .next t) :
    ∃ (s0 : State) (a : Arrival), s.Sampled t c p rin sin upset s0 a := by
  rw [exec_sampleArrival_open rin sin upset hawaits hopen hp] at h
  cases h
  refine ⟨s.arrived c f n m upset, _, s.arrived_chan c f n m upset, rfl, ?_, ?_, ?_, ?_, ?_, ?_,
    fun hl => State.receive_linear hl c p rin sin, rfl⟩
  · rw [State.arrived, State.onPort_wait, State.disturb_wait]
  · rw [State.arrived, State.onPort_law, State.disturb_law]
  · rw [State.arrived, State.onPort_link, State.disturb_link]
  all_goals rw [State.arrived_receive]
  exact ⟨rfl, rfl, rfl, rfl⟩

section
variable {s t s0 : State} {c : Chan} {p : Profile} {rin sin : Byte} {upset : List Disturbance} {a : Arrival}

theorem State.Sampled.overloaded_iff (h : s.Sampled t c p rin sin upset s0 a) :
    a.overloaded = true ↔ (s.sampleValues c p rin sin upset).Overloaded := by
  obtain ⟨-, hr, -, hsend⟩ := h.values
  rw [Arrival.overloaded_iff, hr, hsend]

theorem State.Sampled.chan (h : s.Sampled t c p rin sin upset s0 a) (d : Chan) : t.chan d = (s0.workSample c a).chan d := by
  rw [h.result, State.settleNotice_chan]

theorem State.Sampled.block (h : s.Sampled t c p rin sin upset s0 a) (b : BlockNo) : t.block b = (s0.finished c a).block b := by
  rw [h.result, State.settleNotice_block, State.workSample_eq, State.onChan_block]

theorem State.Sampled.stepped (h : s.Sampled t c p rin sin upset s0 a) : s0.Stepped c a (t.chan c) := by
  rw [h.chan c]
  exact (s0.workSample_stepped c a).1

/-- Before step 6 the channel has heard what it has heard at the end. -/
theorem State.Sampled.fed_hearing (h : s.Sampled t c p rin sin upset s0 a) {ch : Channel} (hch : s0.Fed c a ch) :
    ch.hearing = (t.chan c).hearing :=
  hch.hearing.trans h.stepped.hearing.symm

theorem State.Sampled.counted_iff (h : s.Sampled t c p rin sin upset s0 a) :
    ((s0.fed c a).chan c).counted a = true ↔
      (s.chan c).life = .active ∧ (t.chan c).talk = .far ∧ ¬(s.sampleValues c p rin sin upset).Overloaded ∧
        (s.chan c).toneMode ≠ .bypass := by
  obtain ⟨-, -, -, -, -, -, -, htalk, -⟩ := Hearing.mk.inj (h.fed_hearing (s0.fed_fed c a))
  rw [Channel.counted_iff, htalk, h.start, ← h.overloaded_iff, Bool.not_eq_true]

end

/-- Only a divergence raises DIVERGED (R90). -/
theorem Channel.settled_undiverged {ch : Channel} (h : ch.divRun < 1024) :
    ch.settled.conditions.diverged = ch.conditions.diverged := by
  unfold Channel.settled
  rw [if_neg fun hdiv => Nat.not_le.mpr h (ch.diverging_iff.mp hdiv)]
  split
  · rfl
  · split <;> rfl

/-- The mode, the runs and the counters read off the group that holds them. -/
theorem Channel.runs_of_running {ch other : Channel} (h : ch.running = other.running) {mode : Service}
    {conv change div paths divergences : Nat} (hmode : other.service = mode) (hconv : other.convRun = conv)
    (hchange : other.changeRun = change) (hdiv : other.divRun = div) (hpaths : other.counters.pathChanges = paths)
    (hdivs : other.counters.divergences = divergences) :
    (ch.service, ch.convRun, ch.changeRun, ch.divRun) = (mode, conv, change, div) ∧
      (ch.counters.pathChanges, ch.counters.divergences) = (paths, divergences) := by
  obtain ⟨h1, h2, h3, h4, -, h6, h7⟩ := Running.mk.inj h
  rw [h1, h2, h3, h4, h6, h7, hmode, hconv, hchange, hdiv, hpaths, hdivs]
  exact ⟨rfl, rfl⟩

/-- What a divergence leaves of the places of a channel (R60). -/
theorem Channel.diverged_covered (ch : Channel) : ch.diverged.covered = ch.covered :=
  Channel.SamePlaces.covered ⟨Iff.rfl, rfl, by rw [Channel.diverged_eq]; cases ch.scout <;> rfl⟩

theorem Channel.moveRuns_covered (ch : Channel) : ch.moveRuns.covered = ch.covered := by
  rw [Channel.moveRuns_same]; rfl

/-- The end of a sample that is not IDLE, of an ACTIVE channel: nothing is left to do (R131, R134). -/
theorem State.finished_still {s : State} {c : Chan} {a : Arrival} (hlife : a.start.life = .active)
    (htalk : ((s.output c a).chan c).talk ≠ .idle) : (s.output c a).Steered (s.finished c a) c id :=
  (State.endSample_unapplied (.inr (State.output_unapplied htalk))).congr
    (by rw [Channel.ended, if_neg fun h => by rw [hlife] at h; cases h]; rfl)

end Sys2Proof.Machine

namespace Sys2Proof

open Sys2Proof.Machine

/-! ## The statement -/

/-- Settles O48: by whether the sample is counted, and by the run that has reached its limit. -/
theorem sampleMovesTheRuns : Obligations.SampleMovesTheRuns := by
  intro c rin sin upset s t f n m p hawaits hopen hp hexec
  obtain ⟨s0, a, h⟩ := State.sampled hawaits hopen hp hexec
  extract_lets before far left counted conv change div now counts paths divergences
  have hcounted : ((s0.fed c a).chan c).counted a = true ↔ counted := h.counted_iff
  have hadapted := s0.adapted_fed c a
  have hstepped := s0.stepped_chan c a
  obtain ⟨-, -, hsumS, -⟩ := Hearing.mk.inj (h.fed_hearing hadapted)
  have hsumE : ((s0.adapted c a).chan c).sumE = (t.chan c).sumE := hadapted.sumE.trans h.stepped.sumE.symm
  obtain ⟨hservice, hconv, hchange, hdiv, hdiverged, hpaths, hdivs⟩ := Running.mk.inj (hadapted.running.trans
    (congrArg Channel.running (h.chans c)))
  have hrunning := h.stepped.running
  have hplacing : counted → (t.chan c).placing = ((s0.adapted c a).chan c).moveRuns.settled.placing ∧
      ∀ b : BlockNo, t.block b = (s0.stepped c a).block b := fun hc => by
    have htalk : ((s0.output c a).chan c).talk ≠ .idle := by
      obtain ⟨-, -, -, -, -, -, -, htalk, -⟩ := Hearing.mk.inj ((s0.output_stepped c a).hearing.trans h.stepped.hearing.symm)
      rw [htalk, hc.2.1]; nofun
    have hfinished := State.finished_still (by rw [h.start]; exact hc.1) htalk
    refine ⟨?_, fun b => by rw [h.block, hfinished.block, (s0.output_steered c a).block]⟩
    have hself : (t.chan c).placing = ((s0.output c a).chan c).placing := by
      rw [h.chan c, State.workSample_eq, State.onChan_chan_self, hfinished.self]; rfl
    rw [hself, (s0.output_rest c a).2.1, hstepped, if_pos (hcounted.mpr hc)]
  have hblock := State.stepped_block s0 c a
  have hmoved := Channel.moveRuns_eq ((s0.adapted c a).chan c)
  have hcovered := Channel.moveRuns_covered ((s0.adapted c a).chan c)
  generalize (s0.adapted c a).chan c = m at *
  refine ⟨fun hn => ?_, fun hc => ?_⟩
  · rw [if_neg fun hc => hn (hcounted.mp hc)] at hstepped
    rw [hstepped] at hrunning
    obtain ⟨h1, h2, h3, h4, h5, h6, h7⟩ := Running.mk.inj hrunning
    simp only [now, counts, paths, divergences, h1, h2, h3, h4, h5, h6, h7, hservice, hconv, hchange, hdiv, hdiverged, hpaths, hdivs]
    exact ⟨rfl, rfl, rfl⟩
  · rw [if_pos (hcounted.mpr hc)] at hstepped
    obtain ⟨hplaced, hblocks⟩ := hplacing hc
    rw [hstepped] at hrunning
    have hmode : m.moveRuns.service = before.service := by rw [hmoved]; exact hservice
    have hconv' : m.moveRuns.convRun = conv := by rw [hmoved]; simp only [hservice, hconv, hsumE, hsumS]; rfl
    have hchange' : m.moveRuns.changeRun = change := by rw [hmoved]; simp only [hservice, hchange, hsumE, hsumS]; rfl
    have hdiv' : m.moveRuns.divRun = div := by rw [hmoved]; simp only [hdiv, hsumE, hsumS]; rfl
    have hkept : m.moveRuns.conditions.diverged = before.conditions.diverged ∧ m.moveRuns.counters.pathChanges = paths ∧
        m.moveRuns.counters.divergences = divergences := by
      rw [hmoved]; exact ⟨hdiverged, hpaths, hdivs⟩
    obtain ⟨hdiverged', hpaths', hdivs'⟩ := hkept
    refine ⟨fun hlimit => ?_, fun hlimit => ⟨?_, fun hm hl => ?_, fun hm hl => ?_, fun hm hl => ?_, fun hm hl => ?_⟩⟩
    · have hsettled := Channel.settled_diverged (hdiv' ▸ hlimit)
      rw [hsettled] at hrunning hplaced
      obtain ⟨h1, h2, h3, h4, h5, h6, h7⟩ := Running.mk.inj hrunning
      obtain ⟨hwindows, hscout, -⟩ := Placing.mk.inj hplaced
      refine ⟨by simp only [now, h1, h2, h3, h4]; rfl, by simp only [counts, h6, h7]; rw [← hpaths', ← hdivs']; rfl, h5, fun k hk => ?_,
        fun k hk => ?_⟩
      · rw [hscout] at hk
        obtain ⟨j, -, rfl⟩ := Option.map_eq_some_iff.mp hk
        rfl
      · have hmem : k.2 ∈ m.covered.map Prod.snd := by
          rw [Channel.covered, hwindows, hscout] at hk
          rw [← hcovered, ← Channel.diverged_covered]
          exact List.mem_map_of_mem hk
        rw [hblocks, hblock, if_pos ⟨hcounted.mpr hc, (Channel.diverging_iff _).mpr (hdiv' ▸ hlimit), hmem⟩]
        exact ⟨rfl, rfl⟩
    · obtain ⟨-, -, -, -, h5, -, -⟩ := Running.mk.inj hrunning
      rw [show (t.chan c).conditions.diverged = _ from h5, Channel.settled_undiverged (hdiv' ▸ hlimit), hdiverged']
    · rw [Channel.settled_tracked (hdiv' ▸ hlimit) (hmode.trans hm) (hconv' ▸ hl)] at hrunning
      exact Channel.runs_of_running hrunning rfl rfl hchange' hdiv' hpaths' hdivs'
    · rw [Channel.settled_still (hdiv' ▸ hlimit) (fun _ => hconv' ▸ hl)
        fun h => (by rw [hmode.trans hm] at h; cases h)] at hrunning
      exact Channel.runs_of_running hrunning (hmode.trans hm) hconv' hchange' hdiv' hpaths' hdivs'
    · rw [Channel.settled_changed (hdiv' ▸ hlimit) (hmode.trans hm) (hchange' ▸ hl)] at hrunning
      exact Channel.runs_of_running hrunning rfl hconv' rfl hdiv' (congrArg bump hpaths') hdivs'
    · rw [Channel.settled_still (hdiv' ▸ hlimit) (fun h => (by rw [hmode.trans hm] at h; cases h))
        fun _ => hchange' ▸ hl] at hrunning
      exact Channel.runs_of_running hrunning (hmode.trans hm) hconv' hchange' hdiv' hpaths' hdivs'

end Sys2Proof
end

section
/-!
PROOFS. The values of a sample (R13, R14, R24, R27 to R30): what its steps compute is what the claims tell.
-/

namespace Sys2Proof.Machine

/-! ## Taps and their paired values -/

/-- Adding up a list's first values, those past its end counting 0. -/
theorem sum_map_take {β : Type} [AddCommMonoid β] (f : Int → β) (hf : f 0 = 0) (xs : List Int) (n : Nat) :
    ((xs.take n).map f).sum = ((List.range n).map fun j => f (xs.getD j 0)).sum := by
  induction n generalizing xs with
  | zero => simp
  | succ n ih =>
    rw [List.range_succ_eq_map, List.map_cons, List.map_map, List.sum_cons]
    cases xs with
    | nil => simp [hf, Function.comp_def]
    | cons x xs => rw [List.take_succ_cons, List.map_cons, List.sum_cons, ih]; rfl

/-- The sum of products of two lists, the second cut to `n` values, those past an end counting 0. -/
theorem sum_zipWith_take (ts xs : List Int) (n : Nat) :
    (List.zipWith (· * ·) ts (xs.take n)).sum = ((List.range n).map fun j => ts.getD j 0 * xs.getD j 0).sum := by
  induction n generalizing ts xs with
  | zero => simp
  | succ n ih =>
    rw [List.range_succ_eq_map, List.map_cons, List.map_map, List.sum_cons]
    cases ts with
    | nil => simp [Function.comp_def]
    | cons t ts =>
      cases xs with
      | nil => simp [Function.comp_def]
      | cons x xs => rw [List.take_succ_cons, List.zipWith_cons_cons, List.sum_cons, ih]; rfl

theorem getD_drop_delay (p : Profile) (ring : List Int) (q : Pos) (j : Nat) :
    (ring.drop (bulkOffset p + 32 * q.val)).getD j 0 = atDelay ring (delayOf p q j) := by
  rw [List.getD_eq_getElem?_getD, List.getElem?_drop, atDelay, delayOf, List.getD_eq_getElem?_getD, bulkOffset]

theorem dot_pairedValues (p : Profile) (taps ring : List Int) (q : Pos) :
    dot taps (pairedValues p ring q) =
      ((List.range 32).map fun j => taps.getD j 0 * atDelay ring (delayOf p q j)).sum := by
  simp only [dot, pairedValues, sum_zipWith_take, getD_drop_delay]

theorem sumSquares_pairedValues (p : Profile) (ring : List Int) (q : Pos) :
    sumSquares (pairedValues p ring q) = ((List.range 32).map fun j => (atDelay ring (delayOf p q j)).natAbs ^ 2).sum := by
  have hsum := sum_map_take (fun v => v.natAbs ^ 2) rfl (ring.drop (bulkOffset p + 32 * q.val)) 32
  simp only [getD_drop_delay] at hsum
  simp only [sumSquares, pairedValues, ← pow_two, hsum]

/-! ## What a channel hears -/

theorem Channel.sensed_heard (ch : Channel) (a : Arrival) :
    (ch.sensed a).ring = (a.x :: ch.ring).take 2048 ∧ (ch.sensed a).sumX = track ch.sumX a.x ∧
      (ch.sensed a).sumS = track ch.sumS a.send ∧ (ch.sensed a).recentS = (a.send :: ch.recentS).take 32 := by
  have hwatched := (ch.hear a).moveDt_dt ((ch.hear a).qualifies a)
  have hjudged := ch.judged_talk a
  have htoned := (ch.judged a).toned_eq a.profile
  rw [Channel.sensed_eq_toned]
  rw [htoned, hjudged, Channel.watched, hwatched]
  exact ⟨rfl, rfl, rfl, rfl⟩

/-! ## The values of a sample -/

/-- A disturbed block fails its test (R26). -/
theorem State.upsetBlock_altered (s : State) (upset : List Disturbance) (b : BlockNo) :
    (s.upsetBlock upset b).altered = ((s.block b).altered || upset.any fun d => d.block == b) := by
  have hfind : (upset.reverse.find? fun d => d.block == b).isSome = upset.any fun d => d.block == b := by
    rw [Bool.eq_iff_iff, List.find?_isSome, List.any_eq_true]; simp only [List.mem_reverse]
  unfold State.upsetBlock
  rw [← hfind]
  split <;> simp_all

section
variable {s t s0 : State} {c : Chan} {p : Profile} {rin sin : Byte} {upset : List Disturbance} {a : Arrival}

theorem State.Sampled.s0_block (h : s.Sampled t c p rin sin upset s0 a) (b : BlockNo) : s0.block b = s.upsetBlock upset b := by
  rw [← s.disturb_block upset b, State.block, State.block, h.blocks]

theorem State.Sampled.heard_block (h : s.Sampled t c p rin sin upset s0 a) (b : BlockNo) :
    (s0.heard c a).block b = s.upsetBlock upset b := by
  rw [(s0.heard_steered c a).block, h.s0_block]

theorem State.Sampled.heard_placing (h : s.Sampled t c p rin sin upset s0 a) :
    ((s0.heard c a).chan c).placing = (s.chan c).placing := by
  obtain ⟨-, -, -, -, hplacing, -⟩ := (((s0.chan c).setInSample true).sensed_hears a).parts
  rw [s0.heard_chan c a, hplacing, ← h.chans c]
  rfl

theorem Channel.covered_of_placing {ch other : Channel} (h : ch.placing = other.placing) : ch.covered = other.covered := by
  obtain ⟨hwindows, hscout, -⟩ := Placing.mk.inj h
  rw [Channel.covered, Channel.covered, hwindows, hscout]

theorem State.Sampled.ring (h : s.Sampled t c p rin sin upset s0 a) :
    ((s0.heard c a).chan c).ring = (s.sampleValues c p rin sin upset).ring := by
  obtain ⟨-, -, hx, -⟩ := h.values
  rw [s0.heard_chan c a, (Channel.sensed_heard _ a).1, hx]
  show ((s.sampleValues c p rin sin upset).x :: (s0.chan c).ring).take 2048 = _
  rw [h.chans c]
  rfl

theorem State.Sampled.cover (h : s.Sampled t c p rin sin upset s0 a) :
    (s0.heard c a).takingPart c = (s.sampleValues c p rin sin upset).cover := by
  rw [State.takingPart, Channel.covered_of_placing h.heard_placing]
  refine List.filter_congr fun k _ => ?_
  rw [h.heard_block, State.upsetBlock_altered, Bool.not_or]

/-- A block that takes part is undisturbed (R26). -/
theorem State.upsetBlock_of_cover {k : Pos × BlockNo} (hk : k ∈ (s.sampleValues c p rin sin upset).cover) :
    s.upsetBlock upset k.2 = s.block k.2 := by
  obtain ⟨-, hpass⟩ := List.mem_filter.mp hk
  have hany : upset.any (fun d => d.block == k.2) = false := by simp_all
  have hnone : (upset.reverse.find? fun d => d.block == k.2) = none :=
    List.find?_eq_none.mpr fun d hd => by
      simpa using List.any_eq_false.mp hany d (List.mem_reverse.mp hd)
  rw [State.upsetBlock, hnone]

theorem State.Sampled.power (h : s.Sampled t c p rin sin upset s0 a) :
    (s0.heard c a).power c p = (s.sampleValues c p rin sin upset).power := by
  simp only [State.power, h.cover, h.ring, sumSquares_pairedValues]
  rfl

theorem State.Sampled.echo (h : s.Sampled t c p rin sin upset s0 a) : s0.echo c a = (s.sampleValues c p rin sin upset).e := by
  obtain ⟨-, -, -, hsend⟩ := h.values
  have hproducts : ((s0.heard c a).takingPart c).map (fun k =>
      dot ((s0.heard c a).block k.2).taps (pairedValues a.profile ((s0.heard c a).chan c).ring k.1)) =
      (s.sampleValues c p rin sin upset).cover.map fun k => ((List.range 32).map fun j =>
        (s.block k.2).taps.getD j 0 * atDelay (s.sampleValues c p rin sin upset).ring (delayOf p k.1 j)).sum := by
    rw [h.cover]
    refine List.map_congr_left fun k hk => ?_
    rw [h.heard_block, State.upsetBlock_of_cover hk, h.ring, h.profile, dot_pairedValues]
  rw [State.echo, State.echoEstimate, hproducts, residual, h.start, hsend]
  rfl

end

end Sys2Proof.Machine
end

section
/-!
PROOFS. The tone measurement (R105): what the judgement computes is what the claims tell of a stream's latest values.
-/

namespace Sys2Proof.Machine

/-! ## The residues and their pairs -/

/-- The residues of values given by their index. -/
theorem toneDifferences_map (f : Nat → Int) (n : Nat) :
    toneDifferences ((List.range (n + 2)).map f) =
      (List.range n).map fun i => 32 * (f (i + 2) + f i) + 5 * f (i + 1) := by
  induction n generalizing f with
  | zero => rfl
  | succ n ih =>
    have htail := ih fun i => f (i + 1)
    simp only [List.range_succ_eq_map (n := n), List.range_succ_eq_map (n := n + 1), List.range_succ_eq_map (n := n + 2),
      List.map_cons, List.map_map, Function.comp_def, toneDifferences] at htail ⊢
    rw [htail]

/-- The sum of the squares of two neighbours. -/
abbrev pairAt (g : Nat → Int) (j : Nat) : Nat := (g j).natAbs * (g j).natAbs + (g (j + 1)).natAbs * (g (j + 1)).natAbs

/-- The largest pair of residues given by their index is one of them, and none exceeds it. -/
theorem largestPair_map (g : Nat → Int) (n : Nat) :
    (∃ j : Nat, j ≤ n ∧ largestPair ((List.range (n + 2)).map g) = pairAt g j) ∧
      ∀ j : Nat, j ≤ n → pairAt g j ≤ largestPair ((List.range (n + 2)).map g) := by
  have hunfold : ∀ (k : Nat) (h : Nat → Int), largestPair ((List.range (k + 2)).map h) =
      max (pairAt h 0) (largestPair ((List.range (k + 1)).map fun i => h (i + 1))) := fun k h => by
    simp only [List.range_succ_eq_map, List.map_cons, List.map_map, largestPair]
    rfl
  induction n generalizing g with
  | zero =>
    have hone : largestPair ((List.range 2).map g) = pairAt g 0 := (hunfold 0 g).trans (Nat.max_zero _)
    rw [hone]
    exact ⟨⟨0, le_rfl, rfl⟩, fun j hj => by rw [Nat.le_zero.mp hj]⟩
  | succ n ih =>
    obtain ⟨⟨j, hj, hmax⟩, hall⟩ := ih fun i => g (i + 1)
    rw [hunfold (n + 1) g]
    constructor
    · rcases Nat.le_total (largestPair ((List.range (n + 2)).map fun i => g (i + 1))) (pairAt g 0) with hle | hle
      · exact ⟨0, Nat.zero_le _, Nat.max_eq_left hle⟩
      · exact ⟨j + 1, Nat.succ_le_succ hj, (Nat.max_eq_right hle).trans hmax⟩
    · intro i hi
      cases i with
      | zero => exact Nat.le_max_left _ _
      | succ i => exact (hall i (Nat.le_of_succ_le_succ hi)).trans (Nat.le_max_right _ _)

/-- No pair is larger than the sum of all the squares (R105). -/
theorem largestPair_le (ds : List Int) : largestPair ds ≤ sumSquares ds := by
  induction ds with
  | nil => exact le_rfl
  | cons d ds ih =>
    cases ds with
    | nil => exact Nat.zero_le _
    | cons d1 ds =>
      simp only [largestPair, sumSquares, List.map_cons, List.sum_cons] at ih ⊢
      omega

theorem sumSquares_eq (xs : List Int) : (sumSquares xs : Int) = (xs.map fun x => x ^ 2).sum := by
  induction xs with
  | nil => rfl
  | cons x xs ih =>
    rw [List.map_cons, List.sum_cons, ← ih, sumSquares, List.map_cons, List.sum_cons, Nat.cast_add, pow_two,
      ← Int.natAbs_mul_self]
    rfl

/-! ## The judgement of a stream -/

/-- The residues of the latest values, as the judgement lists them. -/
def toneResidues (recent : List Int) : List Int := (List.range 30).map fun i => toneResidue recent (i + 2)

theorem largestPair_toneResidues (recent : List Int) : IsLargestPair recent (largestPair (toneResidues recent)) := by
  obtain ⟨⟨j, hj, hmax⟩, hall⟩ := largestPair_map (fun i => toneResidue recent (i + 2)) 28
  have hcast : ∀ i : Nat, ((pairAt (fun i => toneResidue recent (i + 2)) i : Nat) : Int) =
      toneResidue recent (i + 2) ^ 2 + toneResidue recent (i + 3) ^ 2 := fun i => by
    rw [Nat.cast_add, pow_two, pow_two, ← Int.natAbs_mul_self, ← Int.natAbs_mul_self]
  refine ⟨⟨j + 2, by omega, by omega, ?_⟩, fun i hlow hhigh => ?_⟩
  · rw [toneResidues, hmax]
    exact hcast j
  · have hle := hall (i - 2) (by omega)
    rw [← Int.ofNat_le] at hle
    obtain ⟨k, rfl⟩ := Nat.exists_eq_add_of_le' hlow
    rw [Nat.add_sub_cancel] at hle
    exact (hcast k).symm.trans_le hle

theorem sumSquares_toneResidues (recent : List Int) : (sumSquares (toneResidues recent) : Int) = toneOutside recent := by
  rw [sumSquares_eq, toneResidues, List.map_map]
  rfl

/-- 32 values oldest first, by their index. -/
theorem reverse_eq_toneValues {recent : List Int} (h : recent.length = 32) :
    recent.reverse = (List.range 32).map (toneValue recent) := by
  refine List.ext_getElem (by rw [List.length_reverse, h, List.length_map, List.length_range]) fun i hi _ => ?_
  rw [List.length_reverse, h] at hi
  rw [List.getElem_reverse, List.getElem_map, List.getElem_range, toneValue,
    List.getD_eq_getElem (hn := by rw [h]; omega)]
  simp only [h]

/-- The judgement on 32 values is the one the claims tell (R105, R106). -/
theorem judgeTone_iff {recent : List Int} (h : recent.length = 32) :
    ((judgeTone recent).inBand = true ↔ 0 < tonePower recent ∧
      (toneOutside recent - largestPair (toneResidues recent)) * 900 ≤ tonePower recent * 1024) ∧
    ((judgeTone recent).inBand = true →
      ((judgeTone recent).reversal = true ↔ tonePower recent * 1024 ≤ largestPair (toneResidues recent) * 8)) := by
  have hvalues := reverse_eq_toneValues h
  have hpower : (sumSquares recent.reverse : Int) = tonePower recent := by
    rw [sumSquares_eq, hvalues, List.map_map]; rfl
  have hresidues : toneDifferences recent.reverse = toneResidues recent := by
    rw [hvalues]; exact toneDifferences_map (toneValue recent) 30
  have htake : recent.take 32 = recent := List.take_of_length_le h.le
  have hband : (judgeTone recent).inBand = true ↔ 0 < tonePower recent ∧
      (toneOutside recent - largestPair (toneResidues recent)) * 900 ≤ tonePower recent * 1024 := by
    have hle := largestPair_le (toneResidues recent)
    rw [← hpower, ← sumSquares_toneResidues]
    simp only [judgeTone, htake, hresidues, Bool.and_eq_true, decide_eq_true_eq]
    omega
  refine ⟨hband, fun hin => ?_⟩
  have hband' : (decide (0 < sumSquares recent.reverse) && decide
      ((sumSquares (toneResidues recent) - largestPair (toneResidues recent)) * 900 ≤ sumSquares recent.reverse * 1024)) = true := by
    rw [← hresidues]
    simpa only [judgeTone, htake] using hin
  rw [← hpower]
  simp only [judgeTone, htake, hresidues, hband', Bool.true_and, decide_eq_true_eq]
  omega

/-- A tone run moved by the judgement of its stream (R106). -/
theorem ToneRun.follows_move (r : ToneRun) {recent : List Int} {full : Prop} [Decidable full] (h : full → recent.length = 32) :
    r.Follows (r.move (if full then judgeTone recent else { inBand := false, reversal := false })) recent full := by
  refine ⟨_, largestPair_toneResidues recent, ?_, ?_⟩
  · rintro ⟨hfull, hpower, hout⟩
    obtain ⟨hband, hreversal⟩ := judgeTone_iff (h hfull)
    have hin := hband.mpr ⟨hpower, hout⟩
    rw [if_pos hfull, ToneRun.move, if_pos hin]
    exact ⟨rfl, by rw [Bool.or_eq_true, hreversal hin]⟩
  · intro hnot
    split
    · next hfull =>
      rw [ToneRun.move, if_neg fun hin => hnot ⟨hfull, (judgeTone_iff (h hfull)).1.mp hin⟩]
      rfl
    · rfl

/-! ## The double-talk test -/

theorem foldl_max_lt {xs : List Int} {m n : Nat} :
    xs.foldl (fun m x => max m x.natAbs) m < n ↔ m < n ∧ ∀ x ∈ xs, x.natAbs < n := by
  induction xs generalizing m with
  | nil => simp
  | cons x xs ih => rw [List.foldl_cons, ih, max_lt_iff, List.forall_mem_cons, and_assoc]

/-- The span peak is below a bound where every value of the span is (R22, R78). -/
theorem spanPeak_lt (p : Profile) (ring : List Int) (n : Nat) :
    spanPeak p ring < n ↔ ∀ j : Nat, j < 1024 → (atDelay ring (32 * p.bulk + j)).natAbs < n := by
  have hdelay : ∀ j : Nat, atDelay ring (32 * p.bulk + j) = (ring.drop (bulkOffset p)).getD j 0 := fun j => by
    rw [List.getD_eq_getElem?_getD, List.getElem?_drop, atDelay, List.getD_eq_getElem?_getD, bulkOffset]
  simp only [hdelay]
  rw [spanPeak, foldl_max_lt]
  generalize ring.drop (bulkOffset p) = span
  constructor
  · rintro ⟨hpos, hall⟩ j hj
    rw [List.getD_eq_getElem?_getD]
    cases hget : span[j]? with
    | none => exact hpos
    | some v => exact hall v (List.mem_of_getElem? ((List.getElem?_take_of_lt hj).trans hget))
  · intro hall
    refine ⟨Nat.zero_lt_of_lt (hall 0 (by omega)), fun v hv => ?_⟩
    obtain ⟨j, hj, rfl⟩ := List.mem_take_iff_getElem.mp hv
    have := hall j (by omega)
    rwa [List.getD_eq_getElem (hn := by omega)] at this

end Sys2Proof.Machine
end

section
/-!
PROOFS. States with one and the same pool: what the acts of placement and of the pool read and write is the blocks, the wait list
and the channels' placings, so they treat such states alike (R50 to R71).
-/

namespace Sys2Proof.Machine

/-! ## States with the same pool -/

/-- Two states with the same blocks, the same wait list and the same placing of every channel. -/
structure State.SamePool (s t : State) : Prop where
  blocks : t.blocks = s.blocks
  wait : t.wait = s.wait
  placing : ∀ d : Chan, (t.chan d).placing = (s.chan d).placing

namespace State.SamePool
variable {s t u : State}

theorem refl (s : State) : s.SamePool s := ⟨rfl, rfl, fun _ => rfl⟩

theorem symm (h : s.SamePool t) : t.SamePool s := ⟨h.blocks.symm, h.wait.symm, fun d => (h.placing d).symm⟩

theorem trans (h : s.SamePool t) (h' : t.SamePool u) : s.SamePool u :=
  ⟨h'.blocks.trans h.blocks, h'.wait.trans h.wait, fun d => (h'.placing d).trans (h.placing d)⟩

theorem block (h : s.SamePool t) (b : BlockNo) : t.block b = s.block b := by rw [State.block, State.block, h.blocks]

theorem freeBlocks (h : s.SamePool t) : t.freeBlocks = s.freeBlocks := State.freeBlocks_congr fun b => by rw [h.block]

theorem parts (h : s.SamePool t) (d : Chan) :
    (t.chan d).windows = (s.chan d).windows ∧ (t.chan d).scout = (s.chan d).scout ∧
      (t.chan d).lastScout = (s.chan d).lastScout ∧ (t.chan d).conditions.fault = (s.chan d).conditions.fault ∧
      (t.chan d).conditions.starved = (s.chan d).conditions.starved ∧
      (t.chan d).counters.scoutSwaps = (s.chan d).counters.scoutSwaps :=
  Placing.mk.inj (h.placing d)

theorem covered (h : s.SamePool t) (d : Chan) : (t.chan d).covered = (s.chan d).covered :=
  Channel.covered_of_placing (h.placing d)

theorem steered {c : Chan} {f : Channel → Channel} (h : s.Steered t c f) (hf : (f (s.chan c)).placing = (s.chan c).placing) :
    s.SamePool t := by
  refine ⟨h.blocks, h.wait, fun d => ?_⟩
  by_cases hd : d = c
  · rw [hd, h.self, hf]
  · rw [h.others d hd]

/-- Notices are no part of the pool. -/
theorem raised (s : State) (u : Source) (k : NoticeKind) : s.SamePool (s.raiseNotice u k) := by
  rw [State.raiseNotice_eq]; exact ⟨rfl, rfl, fun _ => rfl⟩

theorem setBlock (h : s.SamePool t) (b : BlockNo) (k : Block) : (s.setBlock b k).SamePool (t.setBlock b k) :=
  ⟨congrArg (fun bs : Vector Block 192 => bs.set b k) h.blocks, h.wait, h.placing⟩

theorem withWait (h : s.SamePool t) (w : List WaitEntry) : (s.withWait w).SamePool (t.withWait w) :=
  ⟨h.blocks, rfl, h.placing⟩

theorem onChan (h : s.SamePool t) (c : Chan) {f g : Channel → Channel}
    (hfg : (g (t.chan c)).placing = (f (s.chan c)).placing) : (s.onChan c f).SamePool (t.onChan c g) := by
  refine ⟨h.blocks, h.wait, fun d => ?_⟩
  by_cases hd : d = c
  · rw [hd, State.onChan_chan_self, State.onChan_chan_self, hfg]
  · rw [State.onChan_chan_of_ne _ _ hd, State.onChan_chan_of_ne _ _ hd, h.placing]

theorem handover (h : s.SamePool t) (b : BlockNo) (c : Chan) : (s.handover b c).SamePool (t.handover b c) :=
  h.setBlock b _

/-! ## Block faults -/

theorem retireBlock (h : s.SamePool t) (c : Chan) (b : BlockNo) : (s.retireBlock c b).SamePool (t.retireBlock c b) := by
  obtain ⟨hwindows, hscout, hlast, -, hstarved, hswaps⟩ := h.parts c
  have hretired := (h.setBlock b { s.block b with condition := .retired }).onChan c (f := Channel.faulted) (g := Channel.faulted)
    (by
      show Placing.mk (t.chan c).windows (t.chan c).scout (t.chan c).lastScout true (t.chan c).conditions.starved
        (t.chan c).counters.scoutSwaps = _
      rw [hwindows, hscout, hlast, hstarved, hswaps]
      rfl)
  rw [State.retireBlock_eq, State.retireBlock_eq, h.block b]
  exact ((raised _ _ _).symm.trans hretired).trans (raised _ _ _)

theorem loseScout (h : s.SamePool t) (c : Chan) : (s.loseScout c).SamePool (t.loseScout c) := by
  obtain ⟨hwindows, -, hlast, hfault, hstarved, hswaps⟩ := h.parts c
  cases hfree : s.freeBlocks with
  | nil =>
    rw [State.loseScout_wait c hfree, State.loseScout_wait c (h.freeBlocks.trans hfree), h.wait]
    refine (h.onChan c ?_).withWait _
    simp only [Channel.placing, hwindows, hlast, hfault, hstarved, hswaps]
  | cons f fs =>
    rw [State.loseScout_free c hfree, State.loseScout_free c (h.freeBlocks.trans hfree)]
    refine (h.handover f c).onChan c ?_
    simp only [State.handover_chan, Channel.placing, Channel.placeScout, Channel.placeScoutAfter, Channel.windowPositions,
      hwindows, hlast, hfault, hstarved, hswaps]

theorem losePin (h : s.SamePool t) (c : Chan) (p : Pos) : (s.losePin c p).SamePool (t.losePin c p) := by
  obtain ⟨hwindows, hscout, hlast, hfault, hstarved, hswaps⟩ := h.parts c
  cases hfree : s.freeBlocks with
  | nil =>
    rw [State.losePin_wait c p hfree, State.losePin_wait c p (h.freeBlocks.trans hfree), h.wait]
    refine (h.onChan c ?_).withWait _
    simp only [Channel.placing, Channel.vacate, hwindows, hscout, hlast, hfault, hstarved, hswaps]
  | cons f fs =>
    rw [State.losePin_free c p hfree, State.losePin_free c p (h.freeBlocks.trans hfree)]
    refine (h.handover f c).onChan c ?_
    simp only [State.handover_chan, Channel.placing, Channel.vacate, Channel.fillPin, hwindows, hscout, hlast, hfault, hstarved,
      hswaps]

theorem loseFound (h : s.SamePool t) (c : Chan) (p : Pos) : (s.loseFound c p).SamePool (t.loseFound c p) := by
  obtain ⟨hwindows, hscout, hlast, hfault, hstarved, hswaps⟩ := h.parts c
  rw [State.loseFound_eq, State.loseFound_eq]
  refine h.onChan c ?_
  simp only [Channel.placing, hwindows, hscout, hlast, hfault, hstarved, hswaps]

theorem blockFault (h : s.SamePool t) (c : Chan) (b : BlockNo) : (s.blockFault c b).SamePool (t.blockFault c b) := by
  obtain ⟨hwindows, hscout, -⟩ := h.parts c
  have hretired := h.retireBlock c b
  cases hf : (s.chan c).windows.find? (fun w => w.block == some b) with
  | some w =>
    have hf' : (t.chan c).windows.find? (fun w => w.block == some b) = some w := by rw [hwindows, hf]
    cases hkind : w.kind with
    | pinned => rw [State.blockFault_of_pin hf hkind, State.blockFault_of_pin hf' hkind]; exact hretired.losePin c w.pos
    | found => rw [State.blockFault_of_found hf hkind, State.blockFault_of_found hf' hkind]; exact hretired.loseFound c w.pos
  | none =>
    have hf' : (t.chan c).windows.find? (fun w => w.block == some b) = none := by rw [hwindows, hf]
    by_cases hk : ∃ k ∈ (s.chan c).scout, k.block = b
    · obtain ⟨k, hk, hkb⟩ := hk
      rw [State.blockFault_of_scout hf hk hkb, State.blockFault_of_scout hf' (hscout.trans hk) hkb]
      exact hretired.loseScout c
    · rw [State.blockFault_of_none hf fun k hk' hkb => hk ⟨k, hk', hkb⟩,
        State.blockFault_of_none hf' fun k hk' hkb => hk ⟨k, hscout ▸ hk', hkb⟩]
      exact hretired

theorem testBlocks (h : s.SamePool t) (c : Chan) (ks : List (Pos × BlockNo)) :
    (s.testBlocks c ks).SamePool (t.testBlocks c ks) := by
  induction ks generalizing s t with
  | nil => exact h
  | cons k ks ih =>
    rw [State.testBlocks, State.testBlocks, h.block]
    split
    · exact ih (h.blockFault c k.2)
    · exact ih h

end State.SamePool

/-! ## The pool that a sample's block faults leave -/

section
variable {s t s0 : State} {c : Chan} {p : Profile} {rin sin : Byte} {upset : List Disturbance} {a : Arrival}

theorem State.Sampled.heard_pool (h : s.Sampled t c p rin sin upset s0 a) : (s.disturb upset).SamePool (s0.heard c a) := by
  have hheard := s0.heard_steered c a
  refine ⟨hheard.blocks.trans h.blocks, ?_, fun d => ?_⟩
  · rw [hheard.wait, h.wait, State.disturb_wait]
  · rw [State.disturb_chan]
    by_cases hd : d = c
    · rw [hd, h.heard_placing]
    · rw [hheard.others d hd, h.chans]

/-- The blocks tested within a sample are left as a test of the disturbed blocks leaves them (R26, R71). -/
theorem State.Sampled.checked_pool (h : s.Sampled t c p rin sin upset s0 a) :
    ((s.disturb upset).tested c).SamePool (s0.checked c a) := by
  rw [State.tested_eq_testBlocks, State.checked, h.heard_pool.covered c]
  exact h.heard_pool.testBlocks c _

theorem Channel.trackResidual_placing (ch : Channel) (e : Int) : (ch.trackResidual e).placing = ch.placing := rfl

theorem State.Sampled.fed_pool (h : s.Sampled t c p rin sin upset s0 a) :
    ((s.disturb upset).tested c).SamePool (s0.fed c a) :=
  h.checked_pool.trans (.steered (s0.fed_steered c a) (Channel.trackResidual_placing _ _))

/-- Where step 6 adapts nothing, the pool is what the block faults left. -/
theorem State.Sampled.adapted_pool (h : s.Sampled t c p rin sin upset s0 a) (hpermits : ¬((s0.fed c a).chan c).permits a = true) :
    ((s.disturb upset).tested c).SamePool (s0.adapted c a) := by
  rw [State.adapted, if_neg hpermits]
  exact h.fed_pool

end

end Sys2Proof.Machine
end

section
/-!
PROOFS. What a sample leaves of its channel's talk state, tone runs, suppressor and levels (sections 5.1 to 5.4, 6.1 to 6.6 and
7.3), told from the context before.
-/

namespace Sys2Proof.Machine

/-! ## The talk detector -/

theorem Channel.moveDt_qualified (ch : Channel) :
    (ch.moveDt true).dtFlag = true ∧ (ch.moveDt true).dtHangover = 240 ∧
      (ch.moveDt true).counters.dtOnsets = if ch.dtFlag then ch.counters.dtOnsets else min 255 (ch.counters.dtOnsets + 1) := by
  unfold Channel.moveDt
  rw [if_pos rfl]
  split
  · next h => exact ⟨h, rfl, rfl⟩
  · exact ⟨rfl, rfl, rfl⟩

theorem Channel.moveDt_unqualified (ch : Channel) :
    (ch.moveDt false).counters.dtOnsets = ch.counters.dtOnsets ∧
      (ch.dtFlag = true →
        (ch.moveDt false).dtHangover = ch.dtHangover - 1 ∧ ((ch.moveDt false).dtFlag = true ↔ 1 < ch.dtHangover)) ∧
      (ch.dtFlag = false → (ch.moveDt false).dtHangover = ch.dtHangover ∧ (ch.moveDt false).dtFlag = false) := by
  unfold Channel.moveDt
  rw [if_neg Bool.false_ne_true]
  by_cases hflag : ch.dtFlag = true
  · rw [if_pos hflag, Channel.endHangover]
    refine ⟨by split <;> rfl, fun _ => ⟨by split <;> rfl, ?_⟩, fun h => absurd h (by rw [hflag]; exact Bool.noConfusion)⟩
    simp only [hflag, Bool.true_and, beq_iff_eq]
    split
    · next h => exact ⟨Bool.noConfusion, fun h' => by omega⟩
    · next h => exact ⟨fun _ => by omega, fun _ => rfl⟩
  · rw [if_neg hflag]
    exact ⟨rfl, fun h => absurd h hflag, fun h => ⟨rfl, h⟩⟩

/-- The talk state, by the flag and the levels (R77, R80). -/
theorem Channel.talkState_iff (ch : Channel) (p : Profile) :
    (ch.talkState p = .double ↔ ch.dtFlag = true) ∧
      (ch.talkState p = .far ↔ ch.dtFlag = false ∧ floorOf p.floor ≤ ch.sumX / 32) ∧
      (ch.talkState p = .near ↔
        ch.dtFlag = false ∧ ¬floorOf p.floor ≤ ch.sumX / 32 ∧ floorOf p.floor ≤ ch.sumS / 32) ∧
      (ch.talkState p = .idle ↔
        ch.dtFlag = false ∧ ¬floorOf p.floor ≤ ch.sumX / 32 ∧ ¬floorOf p.floor ≤ ch.sumS / 32) := by
  unfold Channel.talkState level
  cases ch.dtFlag <;> simp
  split
  · simp_all
  · split <;> simp_all

theorem Channel.qualifies_iff (ch : Channel) (a : Arrival) :
    ch.qualifies a = true ↔ floorOf a.profile.floor ≤ ch.sumS / 32 ∧
      ∀ j : Nat, j < 1024 →
        (atDelay ch.ring (32 * a.profile.bulk + j)).natAbs < a.send.natAbs * lossDivisor a.profile.echoLoss := by
  rw [Channel.qualifies, Bool.and_eq_true, decide_eq_true_eq, decide_eq_true_eq, spanPeak_lt, level]

/-- The talk state and what stands with it follow from the detector's work on the sample heard (R78 to R83). -/
theorem Channel.sensed_talk (ch : Channel) (a : Arrival) :
    (ch.sensed a).dtFlag = (ch.watched a).dtFlag ∧ (ch.sensed a).dtHangover = (ch.watched a).dtHangover ∧
      (ch.sensed a).counters.dtOnsets = (ch.watched a).counters.dtOnsets ∧
      (ch.sensed a).talk = (ch.watched a).talkState a.profile ∧
      ((ch.sensed a).conditions.overload = true ↔ ch.conditions.overload = true ∨ a.overloaded = true) := by
  have hoverload : (ch.watched a).conditions.overload = ch.conditions.overload := by
    rw [Channel.watched, Channel.moveDt_dt]; rfl
  rw [Channel.sensed_eq_toned, (ch.judged a).toned_eq a.profile, ch.judged_talk a]
  refine ⟨rfl, rfl, rfl, rfl, ?_⟩
  show (if a.overloaded then true else (ch.watched a).conditions.overload) = true ↔ _
  rw [hoverload]
  cases a.overloaded <;> simp

/-! ## The tone monitor -/

theorem Channel.detected_fields (ch : Channel) (p : Profile) :
    (ch.detected p).toneS = ch.toneS.restart ∧ (ch.detected p).toneX = ch.toneX.restart ∧
      (¬ch.ToneMoves p → (ch.detected p).toneMode = ch.toneMode ∧ (ch.detected p).conditions.tone = ch.conditions.tone ∧
        (ch.detected p).counters.toneBypasses = ch.counters.toneBypasses) ∧
      (ch.ToneMoves p → (ch.detected p).toneMode = ch.toneTarget p ∧ (ch.detected p).conditions.tone = true ∧
        (ch.detected p).counters.toneBypasses = min 255 (ch.counters.toneBypasses + 1)) := by
  unfold Channel.detected
  split
  · next h => exact ⟨rfl, rfl, fun hn => absurd h hn, fun _ => ⟨rfl, rfl, rfl⟩⟩
  · next h => exact ⟨rfl, rfl, fun _ => ⟨rfl, rfl, rfl⟩, fun hm => absurd hm h⟩

/-- The channel once the tone runs are moved on the sample and its exit to NORMAL is made, before a detection (R106, R110). -/
def Channel.measured (ch : Channel) (a : Arrival) : Channel := (ch.judged a).moveTones.returned

theorem Channel.sensed_eq_measured (ch : Channel) (a : Arrival) : ch.sensed a = (ch.measured a).detected a.profile := rfl

/-- The tone runs before a detection, and the mode that stands (R106, R110). -/
theorem Channel.measured_tones {ch : Channel} (hin : ch.inSample = true) (a : Arrival) :
    (ch.measured a).toneS = ch.toneS.move (if 32 ≤ ((a.send :: ch.recentS).take 32).length
        then judgeTone ((a.send :: ch.recentS).take 32) else { inBand := false, reversal := false }) ∧
      (ch.measured a).toneX = ch.toneX.move (if 32 ≤ ((a.send :: ch.recentS).take 32).length
        then judgeTone (((a.x :: ch.ring).take 2048).take 32) else { inBand := false, reversal := false }) ∧
      (ch.measured a).toneMode = (if (ch.sensed a).quietRun = 2000 then .normal else ch.toneMode) ∧
      (ch.measured a).conditions.tone = ch.conditions.tone ∧
      (ch.measured a).counters.toneBypasses = ch.counters.toneBypasses := by
  have hquiet : (ch.sensed a).quietRun = (ch.judged a).quietRun := by
    rw [Channel.sensed_eq_toned, (ch.judged a).toned_eq a.profile]
  have hwatched := (ch.hear a).moveDt_dt ((ch.hear a).qualifies a)
  have hmeasured : ch.measured a = { (ch.judged a).moveTones with
      toneMode := if (ch.judged a).inSample = true ∧ (ch.judged a).quietRun = 2000 then .normal else (ch.judged a).toneMode } := rfl
  have hjudged : (ch.judged a).toneS = ch.toneS ∧ (ch.judged a).toneX = ch.toneX ∧ (ch.judged a).toneMode = ch.toneMode ∧
      (ch.judged a).conditions.tone = ch.conditions.tone ∧ (ch.judged a).counters.toneBypasses = ch.counters.toneBypasses ∧
      (ch.judged a).inSample = true ∧ (ch.judged a).recentS = (a.send :: ch.recentS).take 32 ∧
      (ch.judged a).ring = (a.x :: ch.ring).take 2048 := by
    rw [ch.judged_talk a, Channel.watched, hwatched]
    exact ⟨rfl, rfl, rfl, rfl, rfl, hin, rfl, rfl⟩
  rw [hquiet, hmeasured]
  generalize ch.judged a = judged at *
  obtain ⟨hs, hx, hmode, htone, hbypasses, hmark, hrecent, hring⟩ := hjudged
  refine ⟨?_, ?_, ?_, htone, hbypasses⟩
  · show judged.toneS.move (judged.judge judged.recentS) = _
    rw [hs, Channel.judge, hrecent]
  · show judged.toneX.move (judged.judge (judged.ring.take 32)) = _
    rw [hx, Channel.judge, hrecent, hring]
  · show (if judged.inSample = true ∧ judged.quietRun = 2000 then ToneMode.normal else judged.toneMode) = _
    rw [hmode]
    simp only [hmark, true_and]

/-! ## Steps 7 to 10 -/

/-- Step 7 writes the suppressor and the noise floor (R100, R101). -/
theorem Channel.gated_eq (ch : Channel) (a : Arrival) :
    ch.gated a = { ch with
      engaged := (ch.gated a).engaged, nlpHangover := (ch.gated a).nlpHangover, noiseFloor := (ch.gated a).noiseFloor } := by
  have hengaged : ch.moveEngaged a = { ch with
      engaged := (ch.moveEngaged a).engaged, nlpHangover := (ch.moveEngaged a).nlpHangover } := by
    unfold Channel.moveEngaged Channel.releaseSuppressor
    split
    · rfl
    · split
      · rfl
      · split
        · rfl
        · split
          · rfl
          · split <;> rfl
  unfold Channel.gated
  rw [hengaged]
  unfold Channel.updateNoiseFloor
  split <;> rfl

/-- What the ALC writes (R117 to R119). -/
def Channel.alc (ch : Channel) : Nat × Nat × Nat × Bool × Nat :=
  (ch.periodCount, ch.releaseCount, ch.gain, ch.conditions.clipped, ch.counters.clipEvents)

/-- A context that differs from another in what the ALC writes alone. -/
abbrev Channel.Levels (a b : Channel) : Prop :=
  b = { a with
    periodCount := b.periodCount, releaseCount := b.releaseCount, gain := b.gain
    conditions := { a.conditions with clipped := b.conditions.clipped }
    counters := { a.counters with clipEvents := b.counters.clipEvents } }

theorem Channel.countPeriod_levels (ch : Channel) (a : Arrival) : ch.Levels (ch.countPeriod a) := by
  unfold Channel.countPeriod Channel.endPeriod Channel.alcAction Channel.stepDown Channel.stepUp
  split
  · split
    · split
      · split <;> rfl
      · split
        · split
          · rfl
          · split <;> rfl
        · rfl
    · rfl
  · rfl

/-- What steps 7 to 10 leave of the suppressor and the output (R16, R18, R99 to R103). -/
theorem Channel.sounded_fields (ch : Channel) (a : Arrival) (v : Int) (sout : Byte) :
    (ch.sounded a v sout).engaged = (ch.gated a).engaged ∧ (ch.sounded a v sout).nlpHangover = (ch.gated a).nlpHangover ∧
      (ch.sounded a v sout).noiseFloor = (ch.gated a).noiseFloor ∧
      (ch.sounded a v sout).noiseReg = nextNoise ch.noiseReg ∧ (ch.sounded a v sout).sumV = track ch.sumV v ∧
      (ch.sounded a v sout).lastRout = a.rout ∧ (ch.sounded a v sout).lastSout = sout ∧
      (ch.sounded a v sout).freshRout = true ∧ (ch.sounded a v sout).freshSout = true := by
  have hlevels := ((ch.gated a).trackOutput v).countPeriod_levels a
  have hgated := ch.gated_eq a
  rw [Channel.sounded, hlevels]
  refine ⟨rfl, rfl, rfl, ?_, ?_, rfl, rfl, rfl, rfl⟩
  · show nextNoise (ch.gated a).noiseReg = _
    rw [hgated]
  · show track (ch.gated a).sumV v = _
    rw [hgated]

/-! ## The ALC -/

theorem Channel.countsForAlc_iff (ch : Channel) (a : Arrival) :
    ch.countsForAlc a = true ↔ a.profile.alcOn = true ∧ a.start.life = .active ∧ a.start.toneMode = .normal ∧
      (ch.talk = .near ∨ ch.talk = .double) ∧ ch.engaged = false := by
  simp [Channel.countsForAlc, and_assoc]

/-- The context whose ALC period the sample counts into (R117). -/
abbrev Channel.levelled (ch : Channel) (a : Arrival) (v : Int) : Channel := (ch.gated a).trackOutput v

theorem Channel.sounded_alc (ch : Channel) (a : Arrival) (v : Int) (sout : Byte) :
    (ch.sounded a v sout).alc = ((ch.levelled a v).countPeriod a).alc := rfl

theorem Channel.levelled_fields (ch : Channel) (a : Arrival) (v : Int) :
    (ch.levelled a v).alc = ch.alc ∧ (ch.levelled a v).talk = ch.talk ∧ (ch.levelled a v).engaged = (ch.gated a).engaged ∧
      (ch.levelled a v).sumV = track ch.sumV v := by
  rw [Channel.levelled, ch.gated_eq a]
  exact ⟨rfl, rfl, rfl, rfl⟩

/-- What the end of an ALC period leaves, by where the predicted level lies (R118, R119). -/
theorem Channel.endPeriod_alc {ch : Channel} {p : Profile} (h : 128 ≤ ch.periodCount) (hlo : p.gmin ≤ ch.gain)
    (hhi : ch.gain ≤ p.gmax) :
    (p.target * 19 < ch.predicted * 16 → p.gmin < ch.gain →
      (ch.endPeriod p).alc = (0, 0, ch.gain - 1, ch.conditions.clipped, ch.counters.clipEvents)) ∧
    (p.target * 19 < ch.predicted * 16 → ch.gain = p.gmin →
      (ch.endPeriod p).alc = (0, 0, ch.gain, true, min 255 (ch.counters.clipEvents + 1))) ∧
    (¬p.target * 19 < ch.predicted * 16 → ch.predicted * 32 < p.target * 27 → ch.releaseCount < 3 →
      (ch.endPeriod p).alc = (0, ch.releaseCount + 1, ch.gain, ch.conditions.clipped, ch.counters.clipEvents)) ∧
    (¬p.target * 19 < ch.predicted * 16 → ch.predicted * 32 < p.target * 27 → 3 ≤ ch.releaseCount → ch.gain < p.gmax →
      (ch.endPeriod p).alc = (0, 0, ch.gain + 1, ch.conditions.clipped, ch.counters.clipEvents)) ∧
    (¬p.target * 19 < ch.predicted * 16 → ch.predicted * 32 < p.target * 27 → 3 ≤ ch.releaseCount → ch.gain = p.gmax →
      (ch.endPeriod p).alc = (0, 0, ch.gain, true, min 255 (ch.counters.clipEvents + 1))) ∧
    (¬p.target * 19 < ch.predicted * 16 → ¬ch.predicted * 32 < p.target * 27 →
      (ch.endPeriod p).alc = (0, 0, ch.gain, ch.conditions.clipped, ch.counters.clipEvents)) := by
  rw [Channel.endPeriod_eq p h]
  refine ⟨fun habove hgain => ?_, fun habove hgain => ?_, fun habove hbelow hrelease => ?_,
    fun habove hbelow hrelease hgain => ?_, fun habove hbelow hrelease hgain => ?_, fun habove hbelow => ?_⟩
  · rw [if_pos habove, Channel.stepDown_moved (by exact hgain) (by exact hhi)]; rfl
  · rw [if_pos habove, Channel.stepDown_held (by exact hgain)]; rfl
  · rw [if_neg habove, if_pos hbelow, if_pos hrelease]; rfl
  · rw [if_neg habove, if_pos hbelow, if_neg (Nat.not_lt.mpr hrelease), Channel.stepUp_moved (by exact hlo) (by exact hgain)]; rfl
  · rw [if_neg habove, if_pos hbelow, if_neg (Nat.not_lt.mpr hrelease), Channel.stepUp_held (by exact hgain)]; rfl
  · rw [if_neg habove, if_neg hbelow]; rfl

end Sys2Proof.Machine
end

section
/-!
PROOFS. The end of a sample, told from the states before it: the laws of the pool through its steps, the opening count (R131), and
the apply at its quiet point (R121, R134, R135).
-/

namespace Sys2Proof.Machine

/-! ## The laws of the states through the steps of a sample -/

section
variable {s t s0 : State} {c : Chan} {p : Profile} {rin sin : Byte} {upset : List Disturbance} {a : Arrival}

theorem State.Sampled.start_profile (h : s.Sampled t c p rin sin upset s0 a) (hp : (s.chan c).profile = some p) :
    (s0.chan c).profile = some a.profile := by
  rw [h.chans, hp, h.profile]

theorem State.Sampled.heard_works (h : s.Sampled t c p rin sin upset s0 a) :
    (s0.onChan c fun ch => ch.setInSample true).WorksOn (s0.heard c a) c :=
  State.stepsOneToThree_works h.linear

theorem State.Sampled.echo_linear (h : s.Sampled t c p rin sin upset s0 a) (hl : s0.law.Linear) : Linear (s0.echo c a) :=
  residual_linear (h.linear hl) _

theorem State.Sampled.fed_works (h : s.Sampled t c p rin sin upset s0 a) :
    (s0.onChan c fun ch => ch.setInSample true).WorksOn (s0.fed c a) c := by
  have htested : (s0.heard c a).WorksOn (s0.checked c a) c := (s0.heard c a).testCovered_works c
  have hlaw : (s0.checked c a).law = s0.law := htested.law.trans h.heard_works.law
  exact h.heard_works.trans (htested.trans (State.trackResidual_works fun hl => h.echo_linear (hlaw ▸ hl)))

theorem State.Sampled.profile_of_works (h : s.Sampled t c p rin sin upset s0 a) (hp : (s.chan c).profile = some p) {u : State}
    (hu : (s0.onChan c fun ch => ch.setInSample true).WorksOn u c) : (u.chan c).profile = some a.profile := by
  rw [hu.profile, State.onChan_chan_self]
  exact h.start_profile hp

theorem State.Sampled.adapted_works (h : s.Sampled t c p rin sin upset s0 a) (hp : (s.chan c).profile = some p) :
    (s0.onChan c fun ch => ch.setInSample true).WorksOn (s0.adapted c a) c := by
  refine h.fed_works.trans ?_
  unfold State.adapted
  split
  · exact State.adapt_works (h.profile_of_works hp h.fed_works) _ _ _
  · exact .refl _ c

theorem State.Sampled.stepped_works (h : s.Sampled t c p rin sin upset s0 a) (hp : (s.chan c).profile = some p) :
    (s0.onChan c fun ch => ch.setInSample true).WorksOn (s0.stepped c a) c := by
  refine (h.adapted_works hp).trans ?_
  unfold State.stepped
  split
  · exact (s0.adapted c a).countRuns_works c
  · exact .refl _ c

theorem State.Sampled.output_works (h : s.Sampled t c p rin sin upset s0 a) (hp : (s.chan c).profile = some p) :
    (s0.onChan c fun ch => ch.setInSample true).WorksOn (s0.output c a) c := by
  have hstepped := h.stepped_works hp
  have hlaw : (s0.stepped c a).law = s0.law := hstepped.law
  exact hstepped.trans (State.stepsSevenToTen_works (h.profile_of_works hp hstepped) fun hl => h.echo_linear (hlaw ▸ hl))

/-- What works within the sample keeps of the pool's laws. -/
theorem State.Sampled.pool (h : s.Sampled t c p rin sin upset s0 a) (hsound : s.PoolSound) {u : State}
    (hu : (s0.onChan c fun ch => ch.setInSample true).Works u) : u.PoolSound := by
  refine hu.pool (State.setInSample_pool c true ?_)
  have hdisturbed := (s.disturb_works upset).pool hsound
  refine hdisturbed.ofBlocks (fun d => ?_) (fun b => ?_) ?_
  · rw [h.chans, State.disturb_chan]
  · rw [State.block, h.blocks]; rfl
  · rw [h.wait, State.disturb_wait]

/-! ## A sample that moves no tap -/

theorem State.Sampled.fed_talk (h : s.Sampled t c p rin sin upset s0 a) : ((s0.fed c a).chan c).talk = (t.chan c).talk := by
  obtain ⟨-, -, -, -, -, -, -, htalk, -⟩ := Hearing.mk.inj (h.fed_hearing (s0.fed_fed c a))
  exact htalk

theorem Channel.permits_iff (ch : Channel) (a : Arrival) :
    ch.permits a = true ↔ a.start.life = .active ∧ a.start.frozen = false ∧ a.start.toneMode ≠ .bypass ∧ ch.talk = .far ∧
      a.overloaded = false := by
  simp [Channel.permits, and_assoc]

/-- A sample permits adaptation where the claims say it does (R84). -/
theorem State.Sampled.permits_iff (h : s.Sampled t c p rin sin upset s0 a) :
    ((s0.fed c a).chan c).permits a = true ↔ (s.chan c).SamplePermits (t.chan c) (s.sampleValues c p rin sin upset) := by
  rw [Channel.permits_iff, h.fed_talk, h.start, ← Bool.not_eq_true a.overloaded, h.overloaded_iff]

/-- An OPENING sample and one that is not FAR move no tap: the pool is what the block faults leave (R26, R84, R87). -/
theorem State.Sampled.still_pool (h : s.Sampled t c p rin sin upset s0 a)
    (hstill : (s.chan c).life = .opening ∨ (t.chan c).talk ≠ .far) :
    ((s.disturb upset).tested c).SamePool (s0.output c a) := by
  have hpermits : ¬((s0.fed c a).chan c).permits a = true := fun hp => by
    obtain ⟨hlife, -, -, hfar, -⟩ := h.permits_iff.mp hp
    obtain hs | hs := hstill
    · rw [hs] at hlife; cases hlife
    · exact hs hfar
  have hcounted : ¬((s0.fed c a).chan c).counted a = true := fun hc => by
    obtain ⟨hlife, hfar, -⟩ := h.counted_iff.mp hc
    obtain hs | hs := hstill
    · rw [hs] at hlife; cases hlife
    · exact hs hfar
  have hstepped : s0.stepped c a = s0.adapted c a := if_neg hcounted
  have hplacing := (s0.output_rest c a).2.1
  have hsteered := s0.output_steered c a
  refine (h.adapted_pool hpermits).trans (hstepped ▸ .steered hsteered ?_)
  exact hsteered.self.symm ▸ hplacing

/-! ## The end of a sample -/

theorem State.Sampled.output_heard (h : s.Sampled t c p rin sin upset s0 a) :
    ((s0.output c a).chan c).talk = (t.chan c).talk ∧ ((s0.output c a).chan c).quietRun = (t.chan c).quietRun := by
  obtain ⟨-, -, -, -, -, -, -, htalk, hquiet, -⟩ := Hearing.mk.inj ((s0.output_stepped c a).hearing.trans h.stepped.hearing.symm)
  exact ⟨htalk, hquiet⟩

theorem State.Sampled.output_standing (h : s.Sampled t c p rin sin upset s0 a) :
    ((s0.output c a).chan c).life = (s.chan c).life ∧ ((s0.output c a).chan c).openingCount = (s.chan c).openingCount ∧
      ((s0.output c a).chan c).profile = (s.chan c).profile ∧ ((s0.output c a).chan c).staged = (s.chan c).staged ∧
      ((s0.output c a).chan c).padIndex = (s.chan c).padIndex :=
  Standing.mk.inj ((s0.output_rest c a).1.trans (congrArg Channel.standing (h.chans c)))

theorem State.Sampled.applies_iff (h : s.Sampled t c p rin sin upset s0 a) (q : Profile) :
    (s0.output c a).Applies c q ↔
      (s.chan c).life = .active ∧ 400 ≤ (t.chan c).quietRun ∧ (s.chan c).staged = .pending q := by
  obtain ⟨hlife, -, -, hstaged, -⟩ := h.output_standing
  obtain ⟨-, hquiet⟩ := h.output_heard
  rw [← hlife, ← hquiet, ← hstaged]
  exact ⟨fun ⟨_, h2, h3, h4⟩ => ⟨h2, h3, h4⟩, fun ⟨h2, h3, h4⟩ => ⟨(s0.output_rest c a).2.2, h2, h3, h4⟩⟩

theorem State.Sampled.unapplied (h : s.Sampled t c p rin sin upset s0 a)
    (hnone : (s.chan c).life = .opening ∨ ∀ q : Profile, ¬(s0.output c a).Applies c q) :
    (s0.output c a).Steered (s0.finished c a) c fun ch => ch.ended a :=
  State.endSample_unapplied (hnone.imp_left fun hlife => by rw [h.start, hlife])

theorem State.Sampled.applied (h : s.Sampled t c p rin sin upset s0 a) (hp : (s.chan c).profile = some p) {q : Profile}
    (hq : (s0.output c a).Applies c q) :
    s0.finished c a = ((s0.output c a).applied c p q).raiseNotice (.channel c) .applied := by
  obtain ⟨hlife, -⟩ := (h.applies_iff q).mp hq
  obtain ⟨-, -, hprofile, -⟩ := h.output_standing
  rw [State.finished, State.endSample_applied (by rw [h.start, hlife]; nofun) hq, State.applyTakesEffect_eq q (hprofile.trans hp)]

theorem State.Sampled.chan_finished (h : s.Sampled t c p rin sin upset s0 a) :
    t.chan c = ((s0.finished c a).chan c).setInSample false := by
  rw [h.chan, State.workSample_eq, State.onChan_chan_self]

theorem State.Sampled.chan_finished_of_ne (h : s.Sampled t c p rin sin upset s0 a) {d : Chan} (hd : d ≠ c) :
    t.chan d = (s0.finished c a).chan d := by
  rw [h.chan, State.workSample_eq, State.onChan_chan_of_ne _ _ hd]

theorem State.Sampled.wait_finished (h : s.Sampled t c p rin sin upset s0 a) : t.wait = (s0.finished c a).wait := by
  rw [h.result, State.settleNotice_eq]
  show (s0.workSample c a).wait = _
  rw [State.workSample_eq, State.onChan_wait]

/-- An apply leaves the life and the opening count (R135). -/
theorem State.applied_life (s : State) (c : Chan) (old new : Profile) :
    ((s.applied c old new).chan c).life = (s.chan c).life ∧
      ((s.applied c old new).chan c).openingCount = (s.chan c).openingCount := by
  have hshed := (State.PlacesTidied.reduceQuota (s.onChan c fun ch => ch.takeProfile old new) c new.quota
    (s.chan c).windows.length).chan c
  rw [State.onChan_chan_self] at hshed
  rw [State.applied, State.onChan_chan_self, hshed]
  exact ⟨rfl, rfl⟩

/-- What the end of an OPENING sample makes of the context (R131). -/
theorem Channel.ended_fields (ch : Channel) (a : Arrival) :
    (ch.ended a).leveling = ch.leveling ∧ (ch.ended a).sounding = ch.sounding ∧ (ch.ended a).placing = ch.placing ∧
      (ch.ended a).openingCount = (if a.start.life = .opening then ch.openingCount + 1 else ch.openingCount) ∧
      (ch.ended a).life = (if a.start.life = .opening ∧ ch.life = .opening ∧
        32 * a.profile.bulk + 1024 ≤ ch.openingCount + 1 then .active else ch.life) := by
  unfold Channel.ended Channel.countOpening Channel.openingEnded bulkOffset
  by_cases h : a.start.life = .opening
  · rw [if_pos h, if_pos h, if_pos h]
    refine ⟨rfl, rfl, rfl, rfl, ?_⟩
    simp only [h, true_and]
  · rw [if_neg h, if_neg h, if_neg fun h' => h h'.1]
    exact ⟨rfl, rfl, rfl, rfl, rfl⟩

/-- The opening count and the life at the end of a sample (R131). -/
theorem State.Sampled.life (h : s.Sampled t c p rin sin upset s0 a) (hp : (s.chan c).profile = some p) :
    ((s.chan c).life = .opening → (t.chan c).openingCount = (s.chan c).openingCount + 1 ∧
      (t.chan c).life = if 32 * p.bulk + 1024 ≤ (s.chan c).openingCount + 1 then .active else .opening) ∧
    ((s.chan c).life = .active → (t.chan c).openingCount = (s.chan c).openingCount ∧ (t.chan c).life = .active) := by
  obtain ⟨hlife, hcount, -⟩ := h.output_standing
  have hself := h.chan_finished
  have hfinished : (t.chan c).openingCount = ((s0.finished c a).chan c).openingCount ∧
      (t.chan c).life = ((s0.finished c a).chan c).life := by rw [hself]; exact ⟨rfl, rfl⟩
  rw [hfinished.1, hfinished.2]
  refine ⟨fun hopening => ?_, fun hactive => ?_⟩
  · rw [(h.unapplied (.inl hopening)).self]
    obtain ⟨-, -, -, hended, hend⟩ := ((s0.output c a).chan c).ended_fields a
    rw [hended, hend, hcount, hlife, h.start, h.profile, hopening]
    simp only [true_and, if_true]
  · by_cases hq : ∃ q : Profile, (s0.output c a).Applies c q
    · obtain ⟨q, hq⟩ := hq
      obtain ⟨hlifed, hcounted⟩ := State.applied_life (s0.output c a) c p q
      rw [h.applied hp hq, State.raiseNotice_chan, hlifed, hcounted, hlife, hcount]
      exact ⟨rfl, hactive⟩
    · have hactive' : ¬a.start.life = .opening := by rw [h.start, hactive]; nofun
      rw [(h.unapplied (.inr fun q h' => hq ⟨q, h'⟩)).self]
      obtain ⟨-, -, -, hended, hend⟩ := ((s0.output c a).chan c).ended_fields a
      rw [hended, hend, if_neg hactive', if_neg fun h' => hactive' h'.1, hlife, hcount]
      exact ⟨rfl, hactive⟩

end

/-! ## An apply, told on another state with the same pool -/

/-- What an apply leaves is told of a state by the part of it that an apply reads. -/
theorem State.ApplyGives.rebase {s t s' t' : State} {c : Chan} {old new : Profile} (h : s.ApplyGives t c old new)
    (hblock : ∀ b : BlockNo, s'.block b = s.block b) (hwait : s'.wait = s.wait)
    (hothers : ∀ d : Chan, d ≠ c → s'.chan d = s.chan d)
    (hplaces : (s'.chan c).windows = (s.chan c).windows ∧ (s'.chan c).scout = (s.chan c).scout ∧
      (s'.chan c).lastScout = (s.chan c).lastScout)
    (hlevels : (s'.chan c).leveling = (s.chan c).leveling)
    (hblock' : ∀ b : BlockNo, t'.block b = t.block b) (hwait' : t'.wait = t.wait)
    (hothers' : ∀ d : Chan, d ≠ c → t'.chan d = t.chan d)
    (hself : t'.chan c = (((s'.chan c).restand { (s'.chan c).standing with
        profile := (t.chan c).profile, staged := (t.chan c).staged, padIndex := (t.chan c).padIndex }).relevel
          (t.chan c).leveling).replant { (s'.chan c).placing with
            windows := (t.chan c).windows, scout := (t.chan c).scout, lastScout := (t.chan c).lastScout }) :
    s'.ApplyGives t' c old new := by
  obtain ⟨gone, hlength, hfound, horder, hweaker, hreturns, hkept, htchan, hunserved, hserved, hserves⟩ := h
  obtain ⟨hwindows, hscout, hlast⟩ := hplaces
  obtain ⟨hgain, hperiod, hrelease⟩ := Leveling.mk.inj hlevels
  have henergy : ∀ w : Window, s'.windowEnergy w = s.windowEnergy w := fun w => by
    unfold State.windowEnergy
    cases w.block with
    | none => rfl
    | some b => exact congrArg (fun k : Block => energy k.taps) (hblock b)
  have hweak : ∀ v w : Window, s'.Weaker v w = s.Weaker v w := fun v w => by
    rw [State.Weaker, State.Weaker, henergy, henergy]
  have hsame : (t'.chan c).scout = (t.chan c).scout ∧ (t'.chan c).lastScout = (t.chan c).lastScout := by
    rw [hself]; exact ⟨rfl, rfl⟩
  refine ⟨gone, ?_⟩
  simp only [hwindows, hscout, hlast, hgain, hperiod, hrelease, hblock, hblock', hwait, State.Returns, hwait', hweak, hsame.1,
    hsame.2]
  refine ⟨hlength, hfound, ?_, hweaker, hreturns, hkept, ?_, hunserved, hserved, fun d hd => ?_⟩
  · exact horder.imp fun {v w} hvw => (hweak v w).mpr hvw
  · rw [hself, htchan]; rfl
  · rw [hothers d hd, hothers' d hd]
    exact hserves d hd

end Sys2Proof.Machine
end

section
/-!
PROOFS. The classification of a sample: talk state, tone, levels, the end of OPENING and the apply at the quiet point (R77 to R81,
R105 to R111, R117 to R121, R131, R134).
-/

namespace Sys2Proof.Machine

section
variable {s t s0 : State} {c : Chan} {p : Profile} {rin sin : Byte} {upset : List Disturbance} {a : Arrival}

/-! ## The output of a sample -/

theorem State.Sampled.sounding (h : s.Sampled t c p rin sin upset s0 a) :
    (t.chan c).sounding = ((s0.output c a).chan c).sounding := by
  rw [h.chan]
  exact (s0.workSample_stepped c a).2.1

/-- The value that step 7 gives a sample (R99). -/
def State.sentValue (s0 : State) (c : Chan) (a : Arrival) : Int :=
  ((s0.stepped c a).chan c).outputValue a (s0.echo c a)

/-- The Sout code that step 10 gives a sample. -/
def State.sentCode (s0 : State) (c : Chan) (a : Arrival) : Byte := (s0.stepped c a).soutCode a (s0.sentValue c a)

theorem State.output_chan (s0 : State) (c : Chan) (a : Arrival) :
    (s0.output c a).chan c = ((s0.stepped c a).chan c).sounded a (s0.sentValue c a) (s0.sentCode c a) :=
  (s0.output_steered c a).self

/-- What a sample sends, with the suppressor and the generator as step 7 leaves them (R16, R18, R99 to R103). -/
theorem State.Sampled.sent (h : s.Sampled t c p rin sin upset s0 a) :
    (t.chan c).engaged = (((s0.stepped c a).chan c).gated a).engaged ∧
      (t.chan c).nlpHangover = (((s0.stepped c a).chan c).gated a).nlpHangover ∧
      (t.chan c).noiseFloor = (((s0.stepped c a).chan c).gated a).noiseFloor ∧
      (t.chan c).noiseReg = nextNoise (s.chan c).noiseReg ∧
      (t.chan c).sumV = track (s.chan c).sumV (s0.sentValue c a) ∧
      (t.chan c).lastRout = a.rout ∧ (t.chan c).lastSout = s0.sentCode c a ∧
      (t.chan c).freshRout = true ∧ (t.chan c).freshSout = true := by
  obtain ⟨hengaged, hhangover, hfloor, hreg, hsum, -, -, hrout, hsout, hfreshr, hfreshs⟩ :=
    Sounding.mk.inj (h.sounding.trans (congrArg Channel.sounding (s0.output_chan c a)))
  obtain ⟨-, -, -, hreg0, hsum0, -⟩ := Sounding.mk.inj ((s0.stepped_rest c a).1.trans (congrArg Channel.sounding (h.chans c)))
  rw [hengaged, hhangover, hfloor, hreg, hsum, hrout, hsout, hfreshr, hfreshs, ← hreg0, ← hsum0]
  exact Channel.sounded_fields _ a _ _

/-! ## The ALC of a sample -/

/-- Without an apply the levels are those that step 9 leaves. -/
theorem State.Sampled.alc_output (h : s.Sampled t c p rin sin upset s0 a)
    (hnone : (s.chan c).life = .opening ∨ ∀ q : Profile, ¬(s0.output c a).Applies c q) :
    (t.chan c).alc = ((s0.output c a).chan c).alc := by
  obtain ⟨hleveling, hsounding, -⟩ := ((s0.output c a).chan c).ended_fields a
  rw [h.chan_finished, (h.unapplied hnone).self]
  obtain ⟨h1, h2, h3⟩ := Leveling.mk.inj hleveling
  obtain ⟨-, -, -, -, -, h4, h5, -⟩ := Sounding.mk.inj hsounding
  show (((s0.output c a).chan c).ended a).alc = _
  rw [Channel.alc, h1, h2, h3, h4, h5]
  rfl

theorem State.Sampled.alc_start (h : s.Sampled t c p rin sin upset s0 a) : ((s0.stepped c a).chan c).alc = (s.chan c).alc := by
  obtain ⟨hsounding, hleveling, -⟩ := s0.stepped_rest c a
  obtain ⟨h1, h2, h3⟩ := Leveling.mk.inj (hleveling.trans (congrArg Channel.leveling (h.chans c)))
  obtain ⟨-, -, -, -, -, h4, h5, -⟩ := Sounding.mk.inj (hsounding.trans (congrArg Channel.sounding (h.chans c)))
  rw [Channel.alc, h1, h2, h3, h4, h5]
  rfl

/-- The context whose ALC period the sample counts into, before the count (R117). -/
abbrev State.levelled (s0 : State) (c : Chan) (a : Arrival) : Channel :=
  ((s0.stepped c a).chan c).levelled a (s0.sentValue c a)

theorem State.output_alc (s0 : State) (c : Chan) (a : Arrival) :
    ((s0.output c a).chan c).alc = ((s0.levelled c a).countPeriod a).alc := by
  rw [s0.output_chan c a, Channel.sounded_alc]

/-- What the ALC judges a sample by (R117, R118). -/
theorem State.Sampled.levelled_fields (h : s.Sampled t c p rin sin upset s0 a) :
    (s0.levelled c a).alc = (s.chan c).alc ∧ (s0.levelled c a).talk = (t.chan c).talk ∧
      (s0.levelled c a).engaged = (t.chan c).engaged ∧ (s0.levelled c a).sumV = (t.chan c).sumV := by
  obtain ⟨halc, htalk, hengaged, hsum⟩ := ((s0.stepped c a).chan c).levelled_fields a (s0.sentValue c a)
  obtain ⟨hengaged', -, -, -, hsum', -⟩ := h.sent
  obtain ⟨-, -, -, -, -, -, -, htalk', -⟩ :=
    Hearing.mk.inj ((s0.stepped_stepped c a).hearing.trans h.stepped.hearing.symm)
  obtain ⟨-, -, -, -, hsum0, -⟩ := Sounding.mk.inj ((s0.stepped_rest c a).1.trans (congrArg Channel.sounding (h.chans c)))
  exact ⟨halc.trans h.alc_start, htalk.trans htalk', hengaged.trans hengaged'.symm, by rw [hsum, hsum', ← hsum0]⟩

/-- A sample that is counted into the ALC period where the claims say so (R117). -/
theorem State.Sampled.counts_iff (h : s.Sampled t c p rin sin upset s0 a) :
    (s0.levelled c a).countsForAlc a = true ↔ p.alcOn = true ∧ (s.chan c).life = .active ∧ (s.chan c).toneMode = .normal ∧
      ((t.chan c).talk = .near ∨ (t.chan c).talk = .double) ∧ (t.chan c).engaged = false := by
  obtain ⟨-, htalk, hengaged, -⟩ := h.levelled_fields
  rw [Channel.countsForAlc_iff, h.profile, h.start, htalk, hengaged]

/-- A sample that is not IDLE makes no apply (R81, R134). -/
theorem State.Sampled.unapplied_of_talk (h : s.Sampled t c p rin sin upset s0 a) (htalk : (t.chan c).talk ≠ .idle) :
    ∀ q : Profile, ¬(s0.output c a).Applies c q :=
  State.output_unapplied (by rw [h.output_heard.1]; exact htalk)

/-- A sample counted into the ALC period leaves what the period's end leaves (R117, R118). -/
theorem State.Sampled.alc_counted (h : s.Sampled t c p rin sin upset s0 a) (hc : (s0.levelled c a).countsForAlc a = true) :
    ∃ ch : Channel, ch.alc = ((s.chan c).periodCount + 1, (s.chan c).releaseCount, (s.chan c).gain,
        (s.chan c).conditions.clipped, (s.chan c).counters.clipEvents) ∧
      ch.predicted = (t.chan c).sumV / 32 * gainOf (s.chan c).gain / 4096 ∧ (t.chan c).alc = (ch.endPeriod p).alc := by
  have htalk : (t.chan c).talk ≠ .idle := by
    obtain ⟨-, -, -, hnear | hdouble, -⟩ := h.counts_iff.mp hc
    · rw [hnear]; nofun
    · rw [hdouble]; nofun
  obtain ⟨halc, -, -, hsumV⟩ := h.levelled_fields
  simp only [Channel.alc, Prod.mk.injEq] at halc
  obtain ⟨hperiod, hrelease, hgain, hclip, hclips⟩ := halc
  refine ⟨{ s0.levelled c a with periodCount := (s0.levelled c a).periodCount + 1 }, ?_, ?_, ?_⟩
  · simp only [Channel.alc, hperiod, hrelease, hgain, hclip, hclips]
  · show (s0.levelled c a).sumV / 32 * gainOf (s0.levelled c a).gain / 4096 = _
    rw [hsumV, hgain]
  · rw [h.alc_output (.inr (h.unapplied_of_talk htalk)), s0.output_alc c a, Channel.countPeriod, if_pos hc, h.profile]

/-! ## The apply at the quiet point -/

/-- A pending record of a sound pool can take effect (R61, R133). -/
theorem State.PoolSound.pending_sheddable {u : State} (h : u.PoolSound) {q : Profile} (hp : (u.chan c).profile = some p)
    (hq : (u.chan c).staged = .pending q) : (u.onChan c fun ch => ch.takeProfile p q).Sheddable c q.quota := by
  obtain ⟨-, hrecords, hpending⟩ := h.profilesSound c
  obtain ⟨-, hsame⟩ := hpending q (by rw [hq]; rfl)
  exact h.sheddable hp ⟨(hsame p hp).2, hrecords q (by rw [hq]; exact List.mem_singleton_self q)⟩

theorem State.PoolSound.pending_applyGives {u : State} (h : u.PoolSound) {q : Profile} (hp : (u.chan c).profile = some p)
    (hq : (u.chan c).staged = .pending q) : u.ApplyGives (u.applied c p q) c p q := by
  obtain ⟨gone, v, hshed, hv⟩ := State.applied_shed (h.pending_sheddable hp hq)
  rw [hv]
  exact hshed.applyGives

/-- Testing the blocks of a channel touches no other channel (R26, R71). -/
theorem State.tested_chan_of_ne (u : State) {d : Chan} (hd : d ≠ c) : (u.tested c).chan d = u.chan d := by
  rw [State.tested_eq_testBlocks, State.testBlocks_chan_of_ne _ _ hd]

theorem State.Sampled.output_others (h : s.Sampled t c p rin sin upset s0 a) {d : Chan} (hd : d ≠ c) :
    (s0.output c a).chan d = s.chan d := by
  rw [(s0.output_touches c a).others d hd, h.chans]

end

/-! ## What a sample leaves of the talk state and the tones -/

section
variable {s t s0 : State} {c : Chan} {p : Profile} {rin sin : Byte} {upset : List Disturbance} {a : Arrival}

/-- The context that step 1 begins with. -/
abbrev Channel.begun (ch : Channel) : Channel := ch.setInSample true

theorem State.Sampled.hearing (h : s.Sampled t c p rin sin upset s0 a) :
    (t.chan c).hearing = ((s.chan c).begun.sensed a).hearing := by
  rw [← h.chans c]; exact h.stepped.hearing

theorem State.Sampled.x (h : s.Sampled t c p rin sin upset s0 a) : a.x = (s.sampleValues c p rin sin upset).x := by
  obtain ⟨-, -, hx, -⟩ := h.values; exact hx

theorem State.Sampled.send (h : s.Sampled t c p rin sin upset s0 a) : a.send = (s.sampleValues c p rin sin upset).send := by
  obtain ⟨-, -, -, hsend⟩ := h.values; exact hsend

/-- What the detector judges a sample by (R77, R78). -/
theorem State.Sampled.watched (h : s.Sampled t c p rin sin upset s0 a) :
    (((s.chan c).begun.hear a).qualifies a = true ↔
        floorOf p.floor ≤ (t.chan c).sumS / 32 ∧ ∀ j : Nat, j < 1024 →
          (atDelay (s.sampleValues c p rin sin upset).ring (32 * p.bulk + j)).natAbs <
            (s.sampleValues c p rin sin upset).send.natAbs * lossDivisor p.echoLoss) ∧
      ((s.chan c).begun.watched a).sumX = (t.chan c).sumX ∧ ((s.chan c).begun.watched a).sumS = (t.chan c).sumS := by
  obtain ⟨hring, hsumX, hsumS, -⟩ := Hearing.mk.inj h.hearing
  obtain ⟨hring', hsumX', hsumS', -⟩ := (s.chan c).begun.sensed_heard a
  refine ⟨?_, ?_, ?_⟩
  · rw [Channel.qualifies_iff, h.profile, h.send, hsumS, hsumS']
    have hheard : ((s.chan c).begun.hear a).ring = (s.sampleValues c p rin sin upset).ring := by
      show (a.x :: (s.chan c).ring).take 2048 = _
      rw [h.x]; rfl
    rw [hheard]
    exact Iff.rfl
  · rw [hsumX, hsumX', Channel.watched, Channel.moveDt_dt]; rfl
  · rw [hsumS, hsumS', Channel.watched, Channel.moveDt_dt]; rfl

end

end Sys2Proof.Machine

namespace Sys2Proof

open Sys2Proof.Machine

/-! ## The statement -/

/-- Settles O47: the talk state, the tones and the levels by what their steps make of the context, and the apply by the pool that
the block faults leave, since a quiet sample moves no tap. -/
theorem sampleIsClassified : Obligations.SampleIsClassified := by
  intro c rin sin upset s t f n m p hawaits hopen hp hring hexec
  obtain ⟨s0, a, h⟩ := State.sampled hawaits hopen hp hexec
  extract_lets values before floor divisor recent afresh standing alcCounts applies predicted above below alc clipped clips
    farActive nearPresent qualifies handled after
  have hfloor : floor = floorOf p.floor := by rfl
  have hdivisor : divisor = lossDivisor p.echoLoss := by rfl
  obtain ⟨-, hsumX, hsumS, hrecent, hflag, hhang, honsets, htalk, hquiet, hoverload, htoneS, htoneX, hmode, htone, hbypasses⟩ :=
    Hearing.mk.inj h.hearing
  obtain ⟨hqualifies, hwatchX, hwatchS⟩ := h.watched
  obtain ⟨hflag', hhang', honsets', htalk', hoverload'⟩ := before.begun.sensed_talk a
  rw [← hfloor, ← hdivisor] at hqualifies
  have hdouble := (before.begun.watched a).talkState_iff p
  rw [hwatchX, hwatchS, ← hfloor, ← hflag', ← h.profile, ← htalk', ← hflag, ← htalk] at hdouble
  obtain ⟨hdouble, hfar, hnear, hidle⟩ := hdouble
  obtain ⟨htoneS', htoneX', hstay, hmove⟩ := (before.begun.measured a).detected_fields a.profile
  rw [← Channel.sensed_eq_measured] at htoneS' htoneX' hstay hmove
  rw [h.profile] at hstay hmove
  obtain ⟨hs1, hx1, hstanding, htone1, hbypasses1⟩ := Channel.measured_tones (ch := before.begun) rfl a
  obtain ⟨halc0, halctalk, -, hsumV⟩ := h.levelled_fields
  have hcounts : (s0.levelled c a).countsForAlc a = true ↔ alcCounts := h.counts_iff
  refine ⟨fun hq => ?_, fun hq => ?_, hdouble, hfar, hnear, hidle, ?_, ?_, ?_,
    ⟨(before.begun.measured a).toneS, (before.begun.measured a).toneX, ?_, ?_, ?_⟩, fun hnot hnone => ?_,
    fun hc hshort => ?_, fun hc hlong hlo hhi => ?_, (h.life hp).1, (h.life hp).2, fun hsound q hlife hq hlong => ?_⟩
  · rw [hflag, hhang, honsets, hflag', hhang', honsets', Channel.watched, hqualifies.mpr hq]
    exact Channel.moveDt_qualified _
  · rw [hflag, hhang, honsets, hflag', hhang', honsets', Channel.watched,
      Bool.eq_false_iff.mpr fun hq' => hq (hqualifies.mp hq')]
    exact Channel.moveDt_unqualified _
  · rw [hquiet, htalk]
    exact before.begun.sensed_quietRun a
  · rw [show (t.chan c).conditions.overload = _ from hoverload, hoverload', h.overloaded_iff]
    exact Iff.rfl
  · rw [hrecent, (before.begun.sensed_heard a).2.2.2, h.send]
    rfl
  · rw [hs1, h.send]
    exact ToneRun.follows_move before.toneS fun hfull => le_antisymm (List.length_take_le _ _) hfull
  · rw [hx1, h.send, h.x]
    refine ToneRun.follows_move before.toneX fun _ => ?_
    rw [List.length_take, List.length_take, List.length_cons, show before.begun.ring.length = 2048 from hring]
    rfl
  · intro detected reversal mode changed
    have hstands : (before.begun.measured a).toneMode = standing := by
      rw [hstanding, ← hquiet]; rfl
    have htarget : (before.begun.measured a).toneTarget p = mode := by
      rw [Channel.toneTarget, hstands, toneModeAfter_eq]; rfl
    have hchanged : (before.begun.measured a).ToneMoves p ↔ changed := by
      rw [Channel.ToneMoves, htarget, hstands]
    refine ⟨?_, ?_, fun hn => ?_, fun hc => ?_⟩
    · rw [htoneS, htoneS', ToneRun.restart_eq]
    · rw [htoneX, htoneX', ToneRun.restart_eq]
    · obtain ⟨h1, h2, h3⟩ := hstay fun hm => hn (hchanged.mp hm)
      exact ⟨hmode.trans (h1.trans hstands), htone.trans (h2.trans htone1), hbypasses.trans (h3.trans hbypasses1)⟩
    · obtain ⟨h1, h2, h3⟩ := hmove (hchanged.mpr hc)
      refine ⟨hmode.trans (h1.trans htarget), htone.trans h2, hbypasses.trans (h3.trans ?_)⟩
      rw [hbypasses1]
      rfl
  · have happlies : ∀ q : Profile, ¬(s0.output c a).Applies c q := fun q hq => by
      obtain ⟨hlife, hlong, hstaged⟩ := (h.applies_iff q).mp hq
      exact hnone ⟨hlife, by rw [hstaged]; nofun, hlong⟩
    show (t.chan c).alc = _
    rw [h.alc_output (.inr happlies), s0.output_alc c a, Channel.countPeriod, if_neg fun hc => hnot (hcounts.mp hc), halc0]
    rfl
  · obtain ⟨ch, hch, -, heq⟩ := h.alc_counted (hcounts.mpr hc)
    show (t.chan c).alc = _
    obtain ⟨hperiod, -⟩ := Prod.mk.inj hch
    rw [heq, Channel.endPeriod, if_neg (by rw [hperiod]; exact Nat.not_le.mpr hshort), hch]
  · obtain ⟨ch, hch, hpredicted, heq⟩ := h.alc_counted (hcounts.mpr hc)
    simp only [Channel.alc, Prod.mk.injEq] at hch
    obtain ⟨hperiod, hrelease, hgain, hclip, hclips⟩ := hch
    have hend := Channel.endPeriod_alc (ch := ch) (p := p) (hperiod ▸ hlong) (hgain ▸ hlo) (hgain ▸ hhi)
    rw [← heq] at hend
    simp only [hpredicted, hrelease, hgain, hclip, hclips] at hend
    exact hend
  · have happlies := (h.applies_iff q).mpr ⟨hlife, hlong, hq⟩
    have hidle' : (t.chan c).talk ≠ .far := fun hfar' => h.unapplied_of_talk (by rw [hfar']; nofun) q happlies
    obtain ⟨-, -, hprofile, hstaged, hpad⟩ := h.output_standing
    have hgives := (h.pool hsound (h.output_works hp).toWorks).pending_applyGives (hprofile.trans hp) (hstaged.trans hq)
    have hpool := h.still_pool (.inr hidle')
    obtain ⟨hwindows, hscout, hlast, -⟩ := hpool.parts c
    have hfinished := h.applied hp happlies
    have hself : t.chan c = (((s0.output c a).applied c p q).chan c).setInSample false := by
      rw [h.chan_finished, hfinished, State.raiseNotice_chan]
    have halc : ((s0.output c a).chan c).alc = before.alc := by
      rw [s0.output_alc c a, Channel.countPeriod, if_neg fun hc => h.unapplied_of_talk ?_ q happlies, halc0]
      obtain ⟨-, -, -, hnear' | hdouble', -⟩ := h.counts_iff.mp hc
      · rw [hnear']; nofun
      · rw [hdouble']; nofun
    simp only [Channel.alc, Prod.mk.injEq] at halc
    obtain ⟨hperiod, hrelease, hgain, -⟩ := halc
    refine hgives.rebase (fun b => ?_) ?_ (fun d hd => ?_) ?_ ?_ (fun b => ?_) ?_ (fun d hd => ?_) ?_
    · exact (hpool.block b).symm
    · exact hpool.wait.symm
    · rw [State.setChan_chan_of_ne _ _ hd, State.tested_chan_of_ne _ hd, State.disturb_chan, h.output_others hd]
    · rw [State.setChan_chan_self]
      exact ⟨hwindows.symm, hscout.symm, hlast.symm⟩
    · rw [State.setChan_chan_self]
      simp only [Channel.leveling, hperiod, hrelease, hgain]
    · rw [h.block, hfinished, State.raiseNotice_block]
    · rw [h.wait_finished, hfinished, State.raiseNotice_wait]
    · rw [h.chan_finished_of_ne hd, hfinished, State.raiseNotice_chan]
    · rw [State.setChan_chan_self]
      have hafter : after = _ := hself
      rw [hafter, hself]
      generalize ((s0.output c a).applied c p q).chan c = ch
      rfl

end Sys2Proof
end

section
/-!
PROOFS. What the test of a channel's blocks leaves of its blocks, its scout and FAULT (R26, R71).
-/

namespace Sys2Proof.Machine

/-! ## One block fault -/

section
variable {s : State} {c : Chan} {b : BlockNo}

/-- A block fault keeps the values of every block that is neither free nor the one that failed (R71). -/
theorem State.PoolSound.blockFault_unfree (h : s.PoolSound) (hb : (s.block b).condition = .held c) {j : BlockNo} (hne : j ≠ b)
    (hj : (s.block j).condition ≠ .free) : (s.blockFault c b).block j = s.block j := by
  obtain ⟨⟨-, hkept, -⟩, -⟩ := blockFaultRetiresAndRebuilds s c b h hb
  exact hkept j hne fun hf => hj ((s.mem_freeBlocks j).mp (List.mem_of_mem_head? hf))

theorem State.PoolSound.blockFault_retired (h : s.PoolSound) (hb : (s.block b).condition = .held c) :
    (s.blockFault c b).block b = { s.block b with condition := .retired } := by
  obtain ⟨⟨hretired, -⟩, -⟩ := blockFaultRetiresAndRebuilds s c b h hb
  exact hretired

/-- No block fault frees a block (R71). -/
theorem State.PoolSound.blockFault_free (h : s.PoolSound) (hb : (s.block b).condition = .held c) {j : BlockNo}
    (hj : ((s.blockFault c b).block j).condition = .free) : (s.block j).condition = .free := by
  by_contra hfree
  by_cases hne : j = b
  · rw [hne, h.blockFault_retired hb] at hj
    cases hj
  · rw [h.blockFault_unfree hb hne hfree] at hj
    exact hfree hj

/-- What a block fault leaves of FAULT and of the scout (R58, R71). -/
theorem State.PoolSound.blockFault_scout (h : s.PoolSound) (hb : (s.block b).condition = .held c) :
    ((s.blockFault c b).chan c).conditions.fault = true ∧
      (∀ k ∈ (s.chan c).scout, k.block ≠ b → ((s.blockFault c b).chan c).scout = some k) ∧
      ∀ j ∈ ((s.blockFault c b).chan c).scout,
        j ∈ (s.chan c).scout ∨ (j.Fresh ∧ (s.block j.block).condition = .free) := by
  obtain ⟨-, hscout, hwindow⟩ := blockFaultRetiresAndRebuilds s c b h hb
  have hfree : ∀ {f : BlockNo}, s.freeBlocks.head? = some f → (s.block f).condition = .free := fun hf =>
    (s.mem_freeBlocks _).mp (List.mem_of_mem_head? hf)
  obtain ⟨w, hw, hwb⟩ | ⟨k, hk, hkb⟩ := h.held_iff.mp hb
  · obtain ⟨hfound, hpinned⟩ := hwindow w hw hwb
    have hchan : ∃ ws : List Window, (s.blockFault c b).chan c = { (s.chan c).faulted with windows := ws } := by
      cases hkind : w.kind with
      | found => exact ⟨_, (hfound hkind).1⟩
      | pinned =>
        obtain ⟨hgiven, hnone⟩ := hpinned hkind
        cases hf : s.freeBlocks with
        | nil => exact ⟨_, (hnone hf).1⟩
        | cons f fs => exact ⟨_, (hgiven f (by rw [hf]; rfl)).2.2⟩
    obtain ⟨ws, hchan⟩ := hchan
    rw [hchan]
    exact ⟨rfl, fun k hk _ => hk, fun j hj => .inl hj⟩
  · obtain ⟨hgiven, hnone⟩ := hscout k hk hkb
    have hsame : ∀ j ∈ (s.chan c).scout, j.block = b := fun j hj => by
      rw [← hkb, Option.some.inj (hj.symm.trans hk)]
    cases hf : s.freeBlocks with
    | nil =>
      rw [(hnone hf).1]
      exact ⟨rfl, fun j hj hne => absurd (hsame j hj) hne, fun j hj => absurd hj (Option.not_mem_none j)⟩
    | cons f fs =>
      have hhead : s.freeBlocks.head? = some f := by rw [hf]; rfl
      obtain ⟨-, -, q, -, hchan⟩ := hgiven f hhead
      rw [hchan]
      refine ⟨rfl, fun j hj hne => absurd (hsame j hj) hne, fun j hj => .inr ?_⟩
      obtain rfl := Option.some.inj hj
      exact ⟨⟨rfl, rfl⟩, hfree hhead⟩

end

/-! ## The test of a list of held blocks -/

/-- A list of blocks that a channel holds, each once. -/
structure State.Holds (s : State) (c : Chan) (ks : List (Pos × BlockNo)) : Prop where
  nodup : (ks.map Prod.snd).Nodup
  held : ∀ k ∈ ks, (s.block k.2).condition = .held c

theorem State.PoolSound.holds_covered {s : State} (h : s.PoolSound) (c : Chan) : s.Holds c (s.chan c).covered :=
  ⟨(h.holders c).1, fun k hk => ((h.holders c).2 k.2).mpr (List.mem_map_of_mem hk)⟩

section
variable {s : State} {c : Chan} {k : Pos × BlockNo} {ks : List (Pos × BlockNo)}

theorem State.Holds.head (h : s.Holds c (k :: ks)) : (s.block k.2).condition = .held c := h.held k List.mem_cons_self

theorem State.Holds.not_mem (h : s.Holds c (k :: ks)) {j : Pos × BlockNo} (hj : j ∈ ks) : j.2 ≠ k.2 := fun heq => by
  obtain ⟨hnot, -⟩ := List.nodup_cons.mp h.nodup
  exact hnot (heq ▸ List.mem_map_of_mem hj)

theorem State.Holds.tail (h : s.Holds c (k :: ks)) : s.Holds c ks :=
  ⟨(List.nodup_cons.mp h.nodup).2, fun j hj => h.held j (List.mem_cons_of_mem _ hj)⟩

theorem State.Holds.faulted (hs : s.PoolSound) (h : s.Holds c (k :: ks)) : (s.blockFault c k.2).Holds c ks := by
  refine ⟨h.tail.nodup, fun j hj => ?_⟩
  have hheld := h.tail.held j hj
  rw [hs.blockFault_unfree h.head (h.not_mem hj) (by rw [hheld]; nofun)]
  exact hheld

end

/-- The test of a list of held blocks: one that fails is retired with its values kept, no other block that is not free changes, and
none is freed (R71). -/
theorem State.PoolSound.testBlocks_block {s : State} (hs : s.PoolSound) {c : Chan} {ks : List (Pos × BlockNo)} (h : s.Holds c ks)
    (j : BlockNo) :
    (j ∈ ks.map Prod.snd → (s.block j).altered = true →
      (s.testBlocks c ks).block j = { s.block j with condition := .retired }) ∧
    ((s.block j).condition ≠ .free → (j ∉ ks.map Prod.snd ∨ (s.block j).altered = false) →
      (s.testBlocks c ks).block j = s.block j) := by
  induction ks generalizing s with
  | nil => exact ⟨fun hj => absurd hj List.not_mem_nil, fun _ _ => rfl⟩
  | cons k ks ih =>
    obtain ⟨hnot, -⟩ := List.nodup_cons.mp h.nodup
    rw [State.testBlocks]
    by_cases haltered : (s.block k.2).altered = true
    · rw [if_pos haltered]
      obtain ⟨hfails, hpasses⟩ := ih (hs.blockFault h.head) (h.faulted hs)
      have hretired := hs.blockFault_retired h.head
      refine ⟨fun hj hfail => ?_, fun hfree hj => ?_⟩
      · by_cases hk : j = k.2
        · subst hk
          rw [hpasses (by rw [hretired]; nofun) (.inl hnot), hretired]
        · have hj' := (List.mem_cons.mp hj).resolve_left hk
          obtain ⟨i, hi, rfl⟩ := List.mem_map.mp hj'
          have hkept := hs.blockFault_unfree h.head hk (by rw [h.tail.held i hi]; nofun)
          rw [hfails hj' (by rw [hkept]; exact hfail), hkept]
      · have hk : j ≠ k.2 := fun hk => by
          obtain hj | hj := hj
          · exact hj (hk ▸ List.mem_cons_self)
          · rw [hk, haltered] at hj; cases hj
        have hkept := hs.blockFault_unfree h.head hk hfree
        rw [hpasses (by rw [hkept]; exact hfree) (by rw [hkept]; exact hj.imp_left fun hj hj' => hj (List.mem_cons_of_mem _ hj')),
          hkept]
    · rw [if_neg haltered]
      obtain ⟨hfails, hpasses⟩ := ih hs h.tail
      refine ⟨fun hj hfail => ?_, fun hfree hj => hpasses hfree (hj.imp_left fun hj hj' => hj (List.mem_cons_of_mem _ hj'))⟩
      exact hfails ((List.mem_cons.mp hj).resolve_left fun hk => haltered (hk ▸ hfail)) hfail

/-- The test of a list of held blocks: FAULT is latched where one fails, a scout whose block passes stays, and a scout that was
not there before is a fresh one (R58, R71). -/
theorem State.PoolSound.testBlocks_scout {s : State} (hs : s.PoolSound) {c : Chan} {ks : List (Pos × BlockNo)} (h : s.Holds c ks) :
    (((s.testBlocks c ks).chan c).conditions.fault = true ↔
      (s.chan c).conditions.fault = true ∨ ∃ k ∈ ks, (s.block k.2).altered = true) ∧
    (∀ k ∈ (s.chan c).scout, (s.block k.block).altered = false → ((s.testBlocks c ks).chan c).scout = some k) ∧
    ∀ j ∈ ((s.testBlocks c ks).chan c).scout,
      j ∈ (s.chan c).scout ∨ (j.Fresh ∧ (s.block j.block).condition = .free) := by
  induction ks generalizing s with
  | nil =>
    refine ⟨⟨.inl, fun hf => hf.resolve_right ?_⟩, fun k hk _ => hk, fun j hj => .inl hj⟩
    rintro ⟨k, hk, -⟩
    exact absurd hk List.not_mem_nil
  | cons k ks ih =>
    rw [State.testBlocks]
    by_cases haltered : (s.block k.2).altered = true
    · rw [if_pos haltered]
      obtain ⟨hfault, hkept, hfresh⟩ := ih (hs.blockFault h.head) (h.faulted hs)
      obtain ⟨hfault1, hkept1, hfresh1⟩ := hs.blockFault_scout h.head
      refine ⟨⟨fun _ => .inr ⟨k, List.mem_cons_self, haltered⟩, fun _ => hfault.mpr (.inl hfault1)⟩, fun i hi hpass => ?_,
        fun j hj => ?_⟩
      · have hne : i.block ≠ k.2 := fun heq => by rw [heq, haltered] at hpass; cases hpass
        refine hkept i (hkept1 i hi hne) ?_
        rw [hs.blockFault_unfree h.head hne (by rw [hs.held_iff.mpr (.inr ⟨i, hi, rfl⟩)]; nofun)]
        exact hpass
      · obtain hj | ⟨hj, hfree⟩ := hfresh j hj
        · exact hfresh1 j hj
        · exact .inr ⟨hj, hs.blockFault_free h.head hfree⟩
    · rw [if_neg haltered]
      obtain ⟨hfault, hkept, hfresh⟩ := ih hs h.tail
      refine ⟨hfault.trans (or_congr_right ⟨fun ⟨i, hi, hf⟩ => ⟨i, List.mem_cons_of_mem _ hi, hf⟩, fun ⟨i, hi, hf⟩ => ⟨i, ?_, hf⟩⟩),
        hkept, hfresh⟩
      exact (List.mem_cons.mp hi).resolve_left fun hk => haltered (hk ▸ hf)

/-! ## The disturbed blocks of a channel, tested -/

section
variable {s : State} (c : Chan) (upset : List Disturbance)

theorem State.PoolSound.disturb (h : s.PoolSound) : (s.disturb upset).PoolSound := (s.disturb_works upset).pool h

theorem State.upsetBlock_condition (s : State) (b : BlockNo) : (s.upsetBlock upset b).condition = (s.block b).condition := by
  unfold State.upsetBlock
  split <;> rfl

theorem State.PoolSound.holds_disturbed (h : s.PoolSound) : (s.disturb upset).Holds c (s.chan c).covered := by
  have hcovered := (h.disturb upset).holds_covered c
  rwa [State.disturb_chan] at hcovered

theorem State.tested_eq (s : State) : (s.disturb upset).tested c = (s.disturb upset).testBlocks c (s.chan c).covered := by
  rw [State.tested_eq_testBlocks, State.disturb_chan]

theorem State.PoolSound.tested (h : s.PoolSound) : ((s.disturb upset).tested c).PoolSound := by
  rw [State.tested_eq_testBlocks]
  exact (h.disturb upset).testCovered c

/-- The blocks after a channel's disturbed blocks are tested (R26, R71). -/
theorem State.PoolSound.tested_block (h : s.PoolSound) (j : BlockNo) :
    (j ∈ (s.chan c).covered.map Prod.snd → (s.upsetBlock upset j).altered = true →
      ((s.disturb upset).tested c).block j = { s.upsetBlock upset j with condition := .retired }) ∧
    ((s.block j).condition ≠ .free → (j ∉ (s.chan c).covered.map Prod.snd ∨ (s.upsetBlock upset j).altered = false) →
      ((s.disturb upset).tested c).block j = s.upsetBlock upset j) := by
  have hblocks := (h.disturb upset).testBlocks_block (h.holds_disturbed c upset) j
  rwa [← State.tested_eq, State.disturb_block, State.upsetBlock_condition] at hblocks

/-- FAULT and the scout after a channel's disturbed blocks are tested (R58, R71). -/
theorem State.PoolSound.tested_scout (h : s.PoolSound) :
    ((((s.disturb upset).tested c).chan c).conditions.fault = true ↔ (s.chan c).conditions.fault = true ∨
      ∃ b : BlockNo, b ∈ (s.chan c).covered.map Prod.snd ∧ (s.upsetBlock upset b).altered = true) ∧
    (∀ k ∈ (s.chan c).scout, (s.upsetBlock upset k.block).altered = false →
      (((s.disturb upset).tested c).chan c).scout = some k) ∧
    ∀ j ∈ (((s.disturb upset).tested c).chan c).scout, j ∈ (s.chan c).scout ∨
      (j.Fresh ∧ (s.block j.block).condition = .free) := by
  obtain ⟨hfault, hkept, hfresh⟩ := (h.disturb upset).testBlocks_scout (h.holds_disturbed c upset)
  simp only [← State.tested_eq, State.disturb_chan, State.disturb_block, State.upsetBlock_condition] at hfault hkept hfresh
  refine ⟨hfault.trans (or_congr_right ⟨?_, ?_⟩), hkept, hfresh⟩
  · rintro ⟨k, hk, hf⟩
    exact ⟨k.2, List.mem_map_of_mem hk, hf⟩
  · rintro ⟨b, hb, hf⟩
    obtain ⟨k, hk, rfl⟩ := List.mem_map.mp hb
    exact ⟨k, hk, hf⟩

/-- A scout whose block fails its test does not stand after it (R58). -/
theorem State.PoolSound.tested_scout_lost (h : s.PoolSound) {k j : Scout} (hk : k ∈ (s.chan c).scout)
    (hfail : (s.upsetBlock upset k.block).altered = true) (hj : j ∈ (((s.disturb upset).tested c).chan c).scout) :
    j.Fresh ∧ (s.block j.block).condition = .free := by
  obtain ⟨-, -, hfresh⟩ := h.tested_scout c upset
  refine (hfresh j hj).resolve_left fun hold => ?_
  obtain rfl := Option.some.inj (hold.symm.trans hk)
  have hcovered : j.block ∈ (s.chan c).covered.map Prod.snd :=
    ((h.holders c).2 j.block).mp (h.held_iff.mpr (.inr ⟨j, hk, rfl⟩))
  have hheld := (h.tested c upset).held_iff.mpr (.inr ⟨j, hj, rfl⟩)
  rw [(h.tested_block c upset j.block).1 hcovered hfail] at hheld
  cases hheld

end

end Sys2Proof.Machine
end

section
/-!
PROOFS. The adaptation of a sample (R31, R47, R48): the update of the blocks that take part, and the dwell of the scout.
-/

namespace Sys2Proof.Machine

/-! ## The update of the blocks that take part -/

/-- A block that takes part, once it is updated (R31). -/
def Block.moved (k : Block) (ring : List Int) (p : Profile) (e : Int) (power : Nat) (q : Pos) : Block :=
  { k with taps := List.zipWith (movedTap p.step e power) k.taps (pairedValues p ring q), altered := false }

theorem State.updateBlock_block (s : State) (ring : List Int) (p : Profile) (e : Int) (power : Nat) (k : Pos × BlockNo)
    (b : BlockNo) :
    (s.updateBlock ring p e power k).block b = if b = k.2 then (s.block k.2).moved ring p e power k.1 else s.block b := by
  rw [State.updateBlock, State.writeTaps_block]
  rfl

/-- Each of a list of distinct blocks is updated once, and no other changes. -/
theorem State.updateBlocks_block {s : State} {cover : List (Pos × BlockNo)} (h : (cover.map Prod.snd).Nodup) (ring : List Int)
    (p : Profile) (e : Int) (power : Nat) :
    (∀ k ∈ cover, (cover.foldl (fun t k => t.updateBlock ring p e power k) s).block k.2 =
      (s.block k.2).moved ring p e power k.1) ∧
    ∀ b : BlockNo, b ∉ cover.map Prod.snd →
      (cover.foldl (fun t k => t.updateBlock ring p e power k) s).block b = s.block b := by
  induction cover generalizing s with
  | nil => exact ⟨fun k hk => absurd hk List.not_mem_nil, fun _ _ => rfl⟩
  | cons k ks ih =>
    obtain ⟨hnot, hnodup⟩ := List.nodup_cons.mp h
    obtain ⟨hmoved, hkept⟩ := ih (s := s.updateBlock ring p e power k) hnodup
    refine ⟨fun j hj => ?_, fun b hb => ?_⟩
    · rw [List.foldl_cons]
      obtain rfl | hj := List.mem_cons.mp hj
      · rw [hkept _ hnot, State.updateBlock_block, if_pos rfl]
      · rw [hmoved j hj, State.updateBlock_block, if_neg]
        exact fun heq => hnot (heq ▸ List.mem_map_of_mem hj)
    · rw [List.foldl_cons, hkept b fun hb' => hb (List.mem_cons_of_mem _ hb'), State.updateBlock_block, if_neg]
      exact fun heq => hb (heq ▸ List.mem_cons_self)

theorem find?_of_nodup {cover : List (Pos × BlockNo)} (h : (cover.map Prod.snd).Nodup) {k : Pos × BlockNo} (hk : k ∈ cover) :
    cover.find? (fun j => j.2 == k.2) = some k := by
  induction cover with
  | nil => exact absurd hk List.not_mem_nil
  | cons j js ih =>
    obtain ⟨hnot, hnodup⟩ := List.nodup_cons.mp h
    obtain rfl | hk := List.mem_cons.mp hk
    · exact List.find?_cons_of_pos (beq_self_eq_true _)
    · rw [List.find?_cons_of_neg, ih hnodup hk]
      exact fun heq => hnot ((beq_iff_eq.mp heq) ▸ List.mem_map_of_mem hk)

/-- The updated blocks as the claims tell them. -/
theorem State.updated_block {s : State} {a : SampleValues} (h : (a.cover.map Prod.snd).Nodup) (p : Profile) :
    (∀ k ∈ a.cover, (s.updated p a).block k.2 = { s.block k.2 with
      taps := (List.range 32).map fun j =>
        movedTap p.step a.e a.power ((s.block k.2).taps.getD j 0) (atDelay a.ring (delayOf p k.1 j))
      altered := false }) ∧
    ∀ b : BlockNo, b ∉ a.cover.map Prod.snd → (s.updated p a).block b = s.block b := by
  have hblock : ∀ b : BlockNo, (s.updated p a).block b = _ := fun b => Vector.getElem_ofFn b.isLt
  refine ⟨fun k hk => ?_, fun b hb => ?_⟩
  · rw [hblock]
    simp only [find?_of_nodup h hk]
  · have hnone : a.cover.find? (fun k => k.2 == b) = none :=
      List.find?_eq_none.mpr fun k hk heq => hb ((beq_iff_eq.mp heq) ▸ List.mem_map_of_mem hk)
    rw [hblock]
    simp only [hnone]

theorem State.updated_wait (s : State) (p : Profile) (a : SampleValues) : (s.updated p a).wait = s.wait := by
  simp only [State.updated]

theorem State.updated_chan (s : State) (p : Profile) (a : SampleValues) (d : Chan) : (s.updated p a).chan d = s.chan d := by
  simp only [State.updated, State.chan]

theorem getD_pairedValues (p : Profile) (ring : List Int) (q : Pos) {j : Nat} (hj : j < 32) :
    (pairedValues p ring q).getD j 0 = atDelay ring (delayOf p q j) := by
  rw [← getD_drop_delay, pairedValues, List.getD_eq_getElem?_getD, List.getElem?_take_of_lt hj, List.getD_eq_getElem?_getD]

/-- Taps moved one by one, where each of the 32 has a value to move on (R24, R31). -/
theorem movedTaps_eq {taps : List Int} (htaps : taps.length = 32) {p : Profile} {ring : List Int} {q : Pos}
    (hpaired : (pairedValues p ring q).length = 32) (e : Int) (power : Nat) :
    List.zipWith (movedTap p.step e power) taps (pairedValues p ring q) =
      (List.range 32).map fun j => movedTap p.step e power (taps.getD j 0) (atDelay ring (delayOf p q j)) := by
  refine List.ext_getElem (by rw [List.length_zipWith, htaps, hpaired, List.length_map, List.length_range]; rfl) fun j hj hj' => ?_
  have hlt : j < 32 := by rwa [List.length_map, List.length_range] at hj'
  rw [List.getElem_zipWith, List.getElem_map, List.getElem_range, ← getD_pairedValues p ring q hlt,
    List.getD_eq_getElem (hn := htaps ▸ hlt), List.getD_eq_getElem (hn := hpaired ▸ hlt)]

/-- One tap moved (R31). -/
theorem movedTaps_getElem? {taps : List Int} {p : Profile} {ring : List Int} {q : Pos}
    (hpaired : (pairedValues p ring q).length = 32) (e : Int) (power : Nat) {j : Nat} (hj : j < 32) {tap : Int}
    (htap : taps[j]? = some tap) :
    (List.zipWith (movedTap p.step e power) taps (pairedValues p ring q))[j]? =
      some (movedTap p.step e power tap (atDelay ring (delayOf p q j))) := by
  have hvalue : (pairedValues p ring q)[j]? = some (atDelay ring (delayOf p q j)) := by
    rw [← getD_pairedValues p ring q hj, List.getD_eq_getElem (hn := hpaired ▸ hj), List.getElem?_eq_getElem (hpaired ▸ hj)]
  rw [List.getElem?_zipWith, htap, hvalue]

/-! ## The steps of an adaptation -/

/-- After the update of the blocks that take part (R31). -/
def State.renewed (s : State) (c : Chan) (a : Arrival) : State :=
  ((s.heard c a).takingPart c).foldl
    (fun t k => t.updateBlock ((s.fed c a).chan c).ring a.profile (s.echo c a) ((s.heard c a).power c a.profile) k) (s.fed c a)

/-- After the dwell advance (R47). -/
def State.advanced (s : State) (c : Chan) (a : Arrival) : State :=
  (s.renewed c a).onChan c fun ch => ch.advanceDwell a.start.service (((s.heard c a).takingPart c).map Prod.snd)

theorem State.adapted_eq {s : State} {c : Chan} {a : Arrival} (h : ((s.fed c a).chan c).permits a = true) :
    s.adapted c a = (s.advanced c a).endDwell c a.profile.quota := if_pos h

theorem State.renewed_chan (s : State) (c : Chan) (a : Arrival) (d : Chan) : (s.renewed c a).chan d = (s.fed c a).chan d :=
  State.updateBlocks_chan _ _ _ _ _ _ d

section
variable {s t s0 : State} {c : Chan} {p : Profile} {rin sin : Byte} {upset : List Disturbance} {a : Arrival}

theorem State.Sampled.fed_ring (h : s.Sampled t c p rin sin upset s0 a) :
    ((s0.fed c a).chan c).ring = (s.sampleValues c p rin sin upset).ring := by
  obtain ⟨hring, -⟩ := Hearing.mk.inj (s0.fed_fed c a).hearing
  rw [hring, ← h.ring, s0.heard_chan c a]

theorem State.renewed_wait (s : State) (c : Chan) (a : Arrival) : (s.renewed c a).wait = (s.fed c a).wait := by
  have hwait : ∀ (cover : List (Pos × BlockNo)) (u : State) (ring : List Int) (p : Profile) (e : Int) (power : Nat),
      (cover.foldl (fun t k => t.updateBlock ring p e power k) u).wait = u.wait := fun cover => by
    induction cover with
    | nil => exact fun _ _ _ _ _ => rfl
    | cons k ks ih => exact fun u ring p e power => (ih _ ring p e power).trans rfl
  exact hwait _ _ _ _ _ _

theorem nodup_cover (hs : s.PoolSound) : ((s.sampleValues c p rin sin upset).cover.map Prod.snd).Nodup :=
  ((hs.holders c).1).sublist (List.filter_sublist.map Prod.snd)

/-- What takes part is held by the channel and passes its test (R25, R26). -/
theorem mem_cover_iff (b : BlockNo) :
    b ∈ (s.sampleValues c p rin sin upset).cover.map Prod.snd ↔
      b ∈ (s.chan c).covered.map Prod.snd ∧ (s.upsetBlock upset b).altered = false := by
  have hfilter : ∀ k : Pos × BlockNo, k ∈ (s.sampleValues c p rin sin upset).cover ↔
      k ∈ (s.chan c).covered ∧ (s.upsetBlock upset k.2).altered = false := fun k => by
    rw [State.upsetBlock_altered, Bool.or_eq_false_iff]
    exact List.mem_filter.trans (and_congr_right' (by simp))
  simp only [List.mem_map, hfilter]
  constructor
  · rintro ⟨k, ⟨hk, hpass⟩, rfl⟩
    exact ⟨⟨k, hk, rfl⟩, hpass⟩
  · rintro ⟨⟨k, hk, rfl⟩, hpass⟩
    exact ⟨k, ⟨hk, hpass⟩, rfl⟩

/-- A block that takes part stands as it was, before the update. -/
theorem State.Sampled.fed_cover (h : s.Sampled t c p rin sin upset s0 a) (hs : s.PoolSound) {k : Pos × BlockNo}
    (hk : k ∈ (s.sampleValues c p rin sin upset).cover) : (s0.fed c a).block k.2 = s.block k.2 := by
  obtain ⟨hcovered, hpass⟩ := (mem_cover_iff k.2).mp (List.mem_map_of_mem hk)
  have hheld := ((hs.holders c).2 k.2).mpr hcovered
  rw [h.fed_pool.block, (hs.tested_block c upset k.2).2 (by rw [hheld]; nofun) (.inr hpass), State.upsetBlock_of_cover hk]

/-- The blocks after the update of a sample (R31). -/
theorem State.Sampled.renewed_block (h : s.Sampled t c p rin sin upset s0 a) (hs : s.PoolSound) :
    (∀ k ∈ (s.sampleValues c p rin sin upset).cover, (s0.renewed c a).block k.2 =
      (s.block k.2).moved (s.sampleValues c p rin sin upset).ring p (s.sampleValues c p rin sin upset).e
        (s.sampleValues c p rin sin upset).power k.1) ∧
    ∀ b : BlockNo, b ∉ (s.sampleValues c p rin sin upset).cover.map Prod.snd →
      (s0.renewed c a).block b = ((s.disturb upset).tested c).block b := by
  have hrenewed : s0.renewed c a = (s.sampleValues c p rin sin upset).cover.foldl
      (fun t k => t.updateBlock (s.sampleValues c p rin sin upset).ring p (s.sampleValues c p rin sin upset).e
        (s.sampleValues c p rin sin upset).power k) (s0.fed c a) := by
    rw [State.renewed, h.cover, h.fed_ring, h.profile, h.echo, h.power]
  obtain ⟨hmoved, hkept⟩ := State.updateBlocks_block (s := s0.fed c a) (nodup_cover hs (p := p) (rin := rin) (sin := sin)
    (upset := upset) (c := c)) (s.sampleValues c p rin sin upset).ring p (s.sampleValues c p rin sin upset).e
    (s.sampleValues c p rin sin upset).power
  rw [hrenewed]
  refine ⟨fun k hk => ?_, fun b hb => ?_⟩
  · rw [hmoved k hk, h.fed_cover hs hk]
  · rw [hkept b hb, h.fed_pool.block]

/-- A sample's ring has 2048 values, and the bulk offset leaves a value for every tap (R21, R23, R24). -/
theorem length_pairedValues_sample (hs : s.PoolSound) (hp : (s.chan c).profile = some p) (hring : (s.chan c).ring.length = 2048)
    (q : Pos) : (pairedValues p (s.sampleValues c p rin sin upset).ring q).length = 32 := by
  obtain ⟨hfields, -⟩ := hs.profilesSound c
  obtain ⟨-, -, -, -, -, hbulk, -⟩ := hfields p hp
  refine length_pairedValues hbulk ?_ q
  show ((_ :: (s.chan c).ring).take 2048).length = 2048
  rw [List.length_take, List.length_cons, hring]
  rfl

/-- The state after the update has the pool the claims tell (R31). -/
theorem State.Sampled.renewed_pool (h : s.Sampled t c p rin sin upset s0 a) (hs : s.PoolSound) (htaps : s.TapsSound)
    (hp : (s.chan c).profile = some p) (hring : (s.chan c).ring.length = 2048) :
    (((s.disturb upset).tested c).updated p (s.sampleValues c p rin sin upset)).SamePool (s0.renewed c a) := by
  obtain ⟨hmoved, hkept⟩ := h.renewed_block hs
  obtain ⟨hmoved', hkept'⟩ := State.updated_block (s := (s.disturb upset).tested c) (nodup_cover hs (p := p) (rin := rin)
    (sin := sin) (upset := upset) (c := c)) p
  refine ⟨State.blocks_ext _ fun b => ?_, ?_, fun d => ?_⟩
  · by_cases hb : b ∈ (s.sampleValues c p rin sin upset).cover.map Prod.snd
    · obtain ⟨k, hk, rfl⟩ := List.mem_map.mp hb
      have htested : ((s.disturb upset).tested c).block k.2 = s.block k.2 := by rw [← h.fed_pool.block, h.fed_cover hs hk]
      rw [hmoved k hk, hmoved' k hk, htested, Block.moved,
        movedTaps_eq (htaps k.2).1 (length_pairedValues_sample hs hp hring k.1)]
    · rw [hkept b hb, hkept' b hb]
  · rw [State.renewed_wait, h.fed_pool.wait, State.updated_wait]
  · rw [State.renewed_chan, h.fed_pool.placing, State.updated_chan]

/-! ## The dwell -/

/-- The blocks that took part, of a sample. -/
abbrev SampleValues.tookPart (a : SampleValues) : List BlockNo := a.cover.map Prod.snd

theorem dwellLength_eq (ch : Channel) : dwellLength ch.service = ch.dwellEnd := by
  unfold Channel.dwellEnd
  cases ch.service <;> rfl

theorem State.Sampled.advanced_eq (h : s.Sampled t c p rin sin upset s0 a) :
    s0.advanced c a = (s0.renewed c a).onChan c fun ch =>
      ch.advanceDwell (s.chan c).service (s.sampleValues c p rin sin upset).tookPart := by
  rw [State.advanced, h.cover, h.start]

theorem State.Sampled.advanced_chan (h : s.Sampled t c p rin sin upset s0 a) :
    (s0.advanced c a).chan c =
      ((s0.fed c a).chan c).advanceDwell (s.chan c).service (s.sampleValues c p rin sin upset).tookPart := by
  rw [h.advanced_eq, State.onChan_chan_self, State.renewed_chan]

/-- A scout whose block takes part stands before the adaptation as it stood before the sample. -/
theorem State.Sampled.fed_scout (h : s.Sampled t c p rin sin upset s0 a) (hs : s.PoolSound) {k : Scout}
    (hk : k ∈ (s.chan c).scout) (htook : k.block ∈ (s.sampleValues c p rin sin upset).tookPart) :
    ((s0.fed c a).chan c).scout = some k := by
  obtain ⟨-, hpass⟩ := (mem_cover_iff k.block).mp htook
  rw [(h.fed_pool.parts c).2.1]
  exact (hs.tested_scout c upset).2.1 k hk hpass

/-- A scout that stands before the adaptation and whose block does not take part is a fresh one. -/
theorem State.Sampled.fed_scout_fresh (h : s.Sampled t c p rin sin upset s0 a) (hs : s.PoolSound) {j : Scout}
    (hj : j ∈ ((s0.fed c a).chan c).scout) (htook : j.block ∉ (s.sampleValues c p rin sin upset).tookPart) : j.Fresh := by
  rw [(h.fed_pool.parts c).2.1] at hj
  obtain hold | ⟨hfresh, -⟩ := (hs.tested_scout c upset).2.2 j hj
  · have hcovered : j.block ∈ (s.chan c).covered.map Prod.snd :=
      ((hs.holders c).2 j.block).mp (hs.held_iff.mpr (.inr ⟨j, hold, rfl⟩))
    have hfail : (s.upsetBlock upset j.block).altered = true :=
      Bool.eq_true_of_not_eq_false fun hpass => htook ((mem_cover_iff j.block).mpr ⟨hcovered, hpass⟩)
    exact (hs.tested_scout_lost c upset hold hfail hj).1
  · exact hfresh

/-- A scout that stands before the adaptation and whose block takes part stood before the sample. -/
theorem State.Sampled.fed_scout_old (h : s.Sampled t c p rin sin upset s0 a) (hs : s.PoolSound) {j : Scout}
    (hj : j ∈ ((s0.fed c a).chan c).scout) (htook : j.block ∈ (s.sampleValues c p rin sin upset).tookPart) :
    j ∈ (s.chan c).scout := by
  rw [(h.fed_pool.parts c).2.1] at hj
  refine ((hs.tested_scout c upset).2.2 j hj).resolve_right fun ⟨_, hfree⟩ => ?_
  obtain ⟨hcovered, -⟩ := (mem_cover_iff j.block).mp htook
  rw [((hs.holders c).2 j.block).mpr hcovered] at hfree
  cases hfree

/-- A context with another scout. -/
def Channel.withScout (ch : Channel) (k : Option Scout) : Channel := { ch with scout := k }

@[simp] theorem Channel.withScout_scout (ch : Channel) (k : Option Scout) : (ch.withScout k).scout = k := rfl

theorem Channel.withScout_self {ch : Channel} {k : Option Scout} (h : ch.scout = k) : ch.withScout k = ch := by
  rw [← h]; rfl

/-- The dwell advance of a scout whose block takes part (R47, R48). -/
theorem Channel.advanceDwell_took {ch : Channel} {k : Scout} (hk : ch.scout = some k) (mode : Service) {tookPart : List BlockNo}
    (h : k.block ∈ tookPart) :
    ch.advanceDwell mode tookPart = ch.withScout (some { k with
      dwell := k.dwell + 1, due := if dwellLength mode ≤ k.dwell + 1 then some tookPart else none }) := by
  unfold Channel.advanceDwell
  rw [hk]
  exact if_pos (List.contains_iff_mem.mpr h)

theorem Channel.advanceDwell_kept {ch : Channel} (mode : Service) {tookPart : List BlockNo}
    (h : ∀ k ∈ ch.scout, k.block ∉ tookPart) : ch.advanceDwell mode tookPart = ch := by
  unfold Channel.advanceDwell
  split
  · next k hk => exact if_neg fun htook => h k hk (List.contains_iff_mem.mp htook)
  · rfl

/-- The scout one sample on, short of its dwell end (R47). -/
abbrev Scout.stepped (k : Scout) : Scout := { pos := k.pos, block := k.block, dwell := k.dwell + 1 }

/-- The scout's evaluation falls due on the sample (R48). -/
abbrev State.DwellEnds (s : State) (c : Chan) (tookPart : List BlockNo) (k : Scout) : Prop :=
  k.block ∈ tookPart ∧ (s.chan c).dwellEnd ≤ k.dwell + 1

/-- Where no dwell ends, the adaptation is the update and the dwell advance (R47, R48). -/
theorem State.Sampled.adapted_still (h : s.Sampled t c p rin sin upset s0 a) (hs : s.PoolSound)
    (hpermits : ((s0.fed c a).chan c).permits a = true)
    (hnot : ∀ k ∈ (s.chan c).scout, ¬s.DwellEnds c (s.sampleValues c p rin sin upset).tookPart k) :
    s0.adapted c a = s0.advanced c a ∧
      (s0.advanced c a).chan c = ((s0.fed c a).chan c).withScout (((s0.fed c a).chan c).scout.map fun k =>
        if k.block ∈ (s.sampleValues c p rin sin upset).tookPart then k.stepped else k) := by
  have hchan : (s0.advanced c a).chan c = ((s0.fed c a).chan c).withScout (((s0.fed c a).chan c).scout.map fun k =>
      if k.block ∈ (s.sampleValues c p rin sin upset).tookPart then k.stepped else k) := by
    have hold := fun (j : Scout) hj htook => hnot j (h.fed_scout_old (j := j) hs hj htook)
    rw [h.advanced_chan]
    generalize (s0.fed c a).chan c = fed at *
    cases hk : fed.scout with
    | none => rw [Channel.advanceDwell_kept _ fun k hk' => by rw [hk] at hk'; cases hk']; exact (Channel.withScout_self hk).symm
    | some k =>
      rw [Option.map_some]
      by_cases htook : k.block ∈ (s.sampleValues c p rin sin upset).tookPart
      · rw [if_pos htook, Channel.advanceDwell_took hk _ htook, if_neg]
        exact fun hle => hold k hk htook ⟨htook, by rwa [← dwellLength_eq]⟩
      · rw [if_neg htook, Channel.withScout_self hk, Channel.advanceDwell_kept]
        intro j hj
        rwa [← Option.some.inj (hk.symm.trans hj)]
  refine ⟨?_, hchan⟩
  rw [State.adapted_eq hpermits, State.endDwell_of_not_due]
  intro j hj
  rw [hchan, Channel.withScout_scout] at hj
  obtain ⟨k, hk, rfl⟩ := Option.map_eq_some_iff.mp hj
  by_cases htook : k.block ∈ (s.sampleValues c p rin sin upset).tookPart
  · rw [if_pos htook]
  · rw [if_neg htook]
    exact (h.fed_scout_fresh hs hk htook).2

/-- Where a dwell ends, the scout is evaluated within the sample (R48). -/
theorem State.Sampled.adapted_due (h : s.Sampled t c p rin sin upset s0 a) (hs : s.PoolSound)
    (hpermits : ((s0.fed c a).chan c).permits a = true) {k : Scout} (hk : k ∈ (s.chan c).scout)
    (hends : s.DwellEnds c (s.sampleValues c p rin sin upset).tookPart k) :
    ∃ k' : Scout, k'.pos = k.pos ∧ k'.block = k.block ∧
      (s0.advanced c a).chan c = ((s0.fed c a).chan c).withScout (some k') ∧
      s0.adapted c a = (s0.advanced c a).evaluate c p.quota (s.sampleValues c p rin sin upset).tookPart k' := by
  obtain ⟨htook, hend⟩ := hends
  have hchan : (s0.advanced c a).chan c = ((s0.fed c a).chan c).withScout (some { k with
      dwell := k.dwell + 1, due := some (s.sampleValues c p rin sin upset).tookPart }) := by
    rw [h.advanced_chan, Channel.advanceDwell_took (h.fed_scout hs hk htook) _ htook, dwellLength_eq, if_pos hend]
  refine ⟨{ k with dwell := k.dwell + 1, due := some (s.sampleValues c p rin sin upset).tookPart }, rfl, rfl, hchan, ?_⟩
  rw [State.adapted_eq hpermits, h.profile]
  exact State.endDwell_of_due _ (by rw [hchan, Channel.withScout_scout]) rfl

end

end Sys2Proof.Machine
end

section
/-!
PROOFS. The pool and the placement at the end of a sample (R31, R47 to R54, R60, R84).
-/

namespace Sys2Proof.Machine

/-! ## An evaluation, told on another state with the same pool -/

/-- What an evaluation leaves is told of a state by the part of it that an evaluation reads. -/
theorem State.EvaluationGives.rebase {s t s' t' : State} {c : Chan} {quota : Nat} {tookPart : List BlockNo} {k k' : Scout}
    (h : s.EvaluationGives t c quota tookPart k) (hblock : ∀ b : BlockNo, s'.block b = s.block b) (hwait : s'.wait = s.wait)
    (hwindows : (s'.chan c).windows = (s.chan c).windows) (hlast : (s'.chan c).lastScout = (s.chan c).lastScout)
    (hstarved : (s'.chan c).conditions.starved = (s.chan c).conditions.starved)
    (hswaps : (s'.chan c).counters.scoutSwaps = (s.chan c).counters.scoutSwaps)
    (hpos : k'.pos = k.pos) (hkblock : k'.block = k.block) (ht : t.SamePool t') :
    s'.EvaluationGives t' c quota tookPart k' := by
  have henergy : s'.windowEnergy = s.windowEnergy := funext fun w => by
    unfold State.windowEnergy
    cases w.block with
    | none => rfl
    | some b => exact congrArg (fun k : Block => energy k.taps) (hblock b)
  have hfree : s'.freeBlocks = s.freeBlocks := State.freeBlocks_congr fun b => by rw [hblock]
  have hweighed : (s'.chan c).weighed tookPart = (s.chan c).weighed tookPart := by
    unfold Channel.weighed
    rw [hwindows]
  obtain ⟨htwindows, htscout, htlast, -, htstarved, htswaps⟩ := ht.parts c
  unfold State.EvaluationGives State.IsWeakest at *
  simp only [henergy, hfree, hweighed, hblock, hwait, hwindows, hlast, hstarved, hswaps, hpos, hkblock, htwindows, htscout,
    htlast, htstarved, htswaps, ht.block, ht.wait]
  exact h

/-! ## After step 6 -/

theorem Channel.settled_placing (ch : Channel) :
    ch.settled.placing = { ch.placing with
      scout := if ch.diverging then ch.scout.map fun k => { pos := k.pos, block := k.block, dwell := 0 } else ch.scout } := by
  unfold Channel.settled
  by_cases hdiv : ch.diverging = true
  · rw [if_pos hdiv, if_pos hdiv, Channel.diverged_eq]; rfl
  · rw [if_neg hdiv, if_neg hdiv]
    split
    · rfl
    · split <;> rfl

theorem Channel.moveRuns_placing (ch : Channel) : ch.moveRuns.placing = ch.placing := by
  rw [Channel.moveRuns_same]; rfl

section
variable {s t s0 : State} {c : Chan} {p : Profile} {rin sin : Byte} {upset : List Disturbance} {a : Arrival}

/-- A counted sample makes a divergence where the claims say it does (R87, R90). -/
theorem State.Sampled.diverges_iff (h : s.Sampled t c p rin sin upset s0 a) :
    (((s0.fed c a).chan c).counted a = true ∧ ((s0.adapted c a).chan c).moveRuns.diverging = true) ↔
      (s.chan c).SampleDiverges (t.chan c) (s.sampleValues c p rin sin upset) := by
  have hadapted := s0.adapted_fed c a
  obtain ⟨-, -, hsumS, -⟩ := Hearing.mk.inj (h.fed_hearing hadapted)
  have hsumE : ((s0.adapted c a).chan c).sumE = (t.chan c).sumE := hadapted.sumE.trans h.stepped.sumE.symm
  obtain ⟨-, -, -, hdiv, -⟩ := Running.mk.inj (hadapted.running.trans (congrArg Channel.running (h.chans c)))
  have hrun : 1024 ≤ ((s0.adapted c a).chan c).moveRuns.divRun ↔
      2 * ((t.chan c).sumS / 32) < (t.chan c).sumE / 32 ∧ 1024 ≤ (s.chan c).divRun + 1 := by
    rw [Channel.moveRuns_eq]
    simp only [hsumS, hsumE, hdiv]
    split
    · next hlt => exact ⟨fun hle => ⟨hlt, hle⟩, fun hand => hand.2⟩
    · next hlt => exact ⟨fun hle => absurd hle (by omega), fun hand => absurd hand.1 hlt⟩
  rw [h.counted_iff, Channel.diverging_iff, hrun]
  exact ⟨fun ⟨⟨h1, h2, h3, h4⟩, h5, h6⟩ => ⟨h1, h2, h3, h4, h5, h6⟩, fun ⟨h1, h2, h3, h4, h5, h6⟩ => ⟨⟨h1, h2, h3, h4⟩, h5, h6⟩⟩

/-- The placing and the blocks after step 6: a divergence restarts the dwell and zeroes the held taps (R60). -/
theorem State.Sampled.stepped_places (h : s.Sampled t c p rin sin upset s0 a) :
    let diverges := (s.chan c).SampleDiverges (t.chan c) (s.sampleValues c p rin sin upset)
    (¬diverges → ((s0.stepped c a).chan c).placing = ((s0.adapted c a).chan c).placing ∧
      ∀ b : BlockNo, (s0.stepped c a).block b = (s0.adapted c a).block b) ∧
    (diverges →
      ((s0.stepped c a).chan c).placing = { ((s0.adapted c a).chan c).placing with
        scout := ((s0.adapted c a).chan c).scout.map fun k => { pos := k.pos, block := k.block, dwell := 0 } } ∧
      ∀ b : BlockNo, (s0.stepped c a).block b =
        if b ∈ ((s0.adapted c a).chan c).covered.map Prod.snd then
          { (s0.adapted c a).block b with taps := List.replicate 32 0, altered := false }
        else (s0.adapted c a).block b) := by
  intro diverges
  have hiff : _ ↔ diverges := h.diverges_iff
  have hchan := s0.stepped_chan c a
  have hblock := State.stepped_block s0 c a
  have hmoved := Channel.moveRuns_placing ((s0.adapted c a).chan c)
  obtain ⟨-, hscout, -⟩ := Placing.mk.inj hmoved
  generalize (s0.adapted c a).chan c = adapted at *
  refine ⟨fun hnot => ⟨?_, fun b => ?_⟩, fun hdiv => ⟨?_, fun b => ?_⟩⟩
  · rw [hchan]
    split
    · next hcounted =>
      rw [Channel.settled_placing, if_neg fun hd => hnot (hiff.mp ⟨hcounted, hd⟩), hmoved, hscout]
      rfl
    · rfl
  · rw [hblock, if_neg fun hd => hnot (hiff.mp ⟨hd.1, hd.2.1⟩)]
  · obtain ⟨hcounted, hdiverging⟩ := hiff.mpr hdiv
    rw [hchan, if_pos hcounted, Channel.settled_placing, if_pos hdiverging, hmoved, hscout]
  · obtain ⟨hcounted, hdiverging⟩ := hiff.mpr hdiv
    rw [hblock]
    simp only [hcounted, hdiverging, true_and]

/-! ## The end of a sample -/

/-- Without an apply the sample's end leaves the pool and the placement of step 6 (R131, R134). -/
theorem State.Sampled.end_pool (h : s.Sampled t c p rin sin upset s0 a)
    (hnone : (s.chan c).life = .opening ∨ ∀ q : Profile, ¬(s0.output c a).Applies c q) : (s0.stepped c a).SamePool t := by
  have hfinished := h.unapplied hnone
  have hended := ((s0.output c a).chan c).ended_fields a
  have houtput : (s0.stepped c a).SamePool (s0.output c a) :=
    .steered (s0.output_steered c a) ((s0.output_steered c a).self.symm ▸ (s0.output_rest c a).2.1)
  refine houtput.trans ((SamePool.steered hfinished hended.2.2.1).trans ⟨?_, ?_, fun d => ?_⟩)
  · exact State.blocks_ext _ fun b => h.block b
  · exact h.wait_finished
  · by_cases hd : d = c
    · rw [hd, h.chan_finished]; rfl
    · rw [h.chan_finished_of_ne hd]

/-- The pool and the placement of a sample without an apply, told from any state with the pool that the adaptation leaves: as it
stands, or with the dwell restarted and the held taps zeroed by a divergence (R60). -/
theorem State.Sampled.leaves (h : s.Sampled t c p rin sin upset s0 a)
    (hnone : (s.chan c).life = .opening ∨ ∀ q : Profile, ¬(s0.output c a).Applies c q) {v : State}
    (hv : (s0.adapted c a).SamePool v) :
    t.wait = v.wait ∧ (t.chan c).windows = (v.chan c).windows ∧ (t.chan c).lastScout = (v.chan c).lastScout ∧
    (t.chan c).conditions.starved = (v.chan c).conditions.starved ∧
    (t.chan c).counters.scoutSwaps = (v.chan c).counters.scoutSwaps ∧
    (¬(s.chan c).SampleDiverges (t.chan c) (s.sampleValues c p rin sin upset) →
      (t.chan c).scout = (v.chan c).scout ∧ ∀ b : BlockNo, t.block b = v.block b) ∧
    ((s.chan c).SampleDiverges (t.chan c) (s.sampleValues c p rin sin upset) →
      (t.chan c).scout = (v.chan c).scout.map (fun k => { pos := k.pos, block := k.block, dwell := 0 }) ∧
      ∀ b : BlockNo, t.block b =
        if b ∈ (v.chan c).covered.map Prod.snd then { v.block b with taps := List.replicate 32 0, altered := false }
        else v.block b) := by
  have hend := h.end_pool hnone
  obtain ⟨hstill, hdiverged⟩ := h.stepped_places
  obtain ⟨hvw, hvk, hvl, -, hvst, hvsw⟩ := hv.parts c
  obtain ⟨htw, htk, htl, -, htst, htsw⟩ := hend.parts c
  have hwait : t.wait = v.wait := by rw [hend.wait, State.stepped_wait, hv.wait]
  by_cases hdiv : (s.chan c).SampleDiverges (t.chan c) (s.sampleValues c p rin sin upset)
  · obtain ⟨hplacing, hblock⟩ := hdiverged hdiv
    obtain ⟨hw, hk, hl, -, hst, hsw⟩ := Placing.mk.inj hplacing
    refine ⟨hwait, (htw.trans hw).trans hvw.symm, (htl.trans hl).trans hvl.symm, (htst.trans hst).trans hvst.symm,
      (htsw.trans hsw).trans hvsw.symm, fun hnot => absurd hdiv hnot, fun _ => ⟨?_, fun b => ?_⟩⟩
    · rw [htk, hvk]; exact hk
    · rw [hend.block, hblock, hv.covered, hv.block]
  · obtain ⟨hplacing, hblock⟩ := hstill hdiv
    obtain ⟨hw, hk, hl, -, hst, hsw⟩ := Placing.mk.inj hplacing
    refine ⟨hwait, (htw.trans hw).trans hvw.symm, (htl.trans hl).trans hvl.symm, (htst.trans hst).trans hvst.symm,
      (htsw.trans hsw).trans hvsw.symm, fun _ => ⟨?_, fun b => ?_⟩, fun hd => absurd hd hdiv⟩
    · rw [htk, hvk]; exact hk
    · rw [hend.block, hblock, hv.block]

end

/-! ## The taps and the scout through an apply -/

/-- A returned block gives a channel at most a fresh scout (R57, R68). -/
theorem State.returnBlock_scout (s : State) (b : BlockNo) (d : Chan) :
    ∀ k ∈ ((s.returnBlock b).chan d).scout, k ∈ (s.chan d).scout ∨ k.Fresh := by
  intro k hk
  rw [State.returnBlock_chan] at hk
  split at hk
  · next e _ =>
    split at hk
    · cases hclaim : e.claim with
      | pin p => rw [WaitEntry.place_pin hclaim] at hk; exact .inl hk
      | scout =>
        rw [WaitEntry.place_scout hclaim] at hk
        obtain rfl := Option.some.inj hk
        exact .inr ⟨rfl, rfl⟩
    · exact .inl hk
  · exact .inl hk

theorem State.reduceQuota_scout (s : State) (c : Chan) (quota fuel : Nat) (d : Chan) :
    ∀ k ∈ ((s.reduceQuota c quota fuel).chan d).scout, k ∈ (s.chan d).scout ∨ k.Fresh := by
  induction fuel generalizing s with
  | zero => exact fun k hk => .inl hk
  | succ fuel ih =>
    unfold State.reduceQuota
    split
    · split
      · next w _ =>
        refine fun k hk => (ih _ k hk).elim (fun hk => ?_) .inr
        have hdrop : ∀ ws : List Window → List Window, ((s.onChan c fun ch => { ch with windows := ws ch.windows }).chan d).scout =
            (s.chan d).scout := fun ws => by
          by_cases hd : d = c
          · rw [hd, State.onChan_chan_self]
          · rw [State.onChan_chan_of_ne _ _ hd]
        unfold State.returnWindow at hk
        dsimp only at hk
        split at hk
        · next b _ =>
          rw [← hdrop fun ws => ws.filter fun v => v.pos != w.pos]
          exact State.returnBlock_scout _ b d k hk
        · exact .inl ((hdrop _).symm ▸ hk)
      · exact fun k hk => .inl hk
    · exact fun k hk => .inl hk

/-- What an apply leaves of the taps and the scout (R61, R69, R135). -/
theorem State.applied_tidied (s : State) (c : Chan) (old new : Profile) :
    (∀ b : BlockNo, ((s.applied c old new).block b).taps = (s.block b).taps ∨
      ((s.applied c old new).block b).taps = List.replicate 32 0) ∧
    ∀ k ∈ ((s.applied c old new).chan c).scout, k ∈ (s.chan c).scout ∨ k.Fresh := by
  refine ⟨fun b => ?_, fun k hk => ?_⟩
  · exact (State.PlacesTidied.reduceQuota (s.onChan c fun ch => ch.takeProfile old new) c new.quota _).taps b
  · rw [State.applied, State.onChan_chan_self] at hk
    have hkept := State.reduceQuota_scout (s.onChan c fun ch => ch.takeProfile old new) c new.quota _ c k hk
    rwa [State.onChan_chan_self] at hkept

section
variable {s t s0 : State} {c : Chan} {p : Profile} {rin sin : Byte} {upset : List Disturbance} {a : Arrival}

/-- The taps and the scout at the end of a sample, told from those after step 6 (R61, R134). -/
theorem State.Sampled.end_tidied (h : s.Sampled t c p rin sin upset s0 a) (hp : (s.chan c).profile = some p) :
    (∀ b : BlockNo, (t.block b).taps = ((s0.stepped c a).block b).taps ∨ (t.block b).taps = List.replicate 32 0) ∧
    ∀ k ∈ (t.chan c).scout, k ∈ ((s0.stepped c a).chan c).scout ∨ k.Fresh := by
  by_cases hq : ∃ q : Profile, (s0.output c a).Applies c q
  · obtain ⟨q, hq⟩ := hq
    have hfinished := h.applied hp hq
    obtain ⟨htaps, hscout⟩ := State.applied_tidied (s0.output c a) c p q
    have hstepped : ((s0.output c a).chan c).scout = ((s0.stepped c a).chan c).scout :=
      (Placing.mk.inj (s0.output_rest c a).2.1).2.1
    refine ⟨fun b => ?_, fun k hk => ?_⟩
    · rw [h.block, hfinished, State.raiseNotice_block, ← (s0.output_steered c a).block]
      exact htaps b
    · rw [h.chan_finished, hfinished, State.raiseNotice_chan] at hk
      rw [← hstepped]
      exact hscout k hk
  · have hend := h.end_pool (.inr fun q h' => hq ⟨q, h'⟩)
    exact ⟨fun b => .inl (by rw [hend.block]), fun k hk => .inl (by rwa [← (hend.parts c).2.1])⟩

end

end Sys2Proof.Machine
end

section
/-!
PROOFS. The adaptation permission and the update of a sample in a sound pool (R31, R47, R84, R85).
-/

namespace Sys2Proof.Machine

section
variable {s t s0 : State} {c : Chan} {p : Profile} {rin sin : Byte} {upset : List Disturbance} {a : Arrival}

/-! ## A sample that is not permitted -/

/-- The test of disturbed blocks zeroes taps at most (R71). -/
theorem State.tested_taps (s : State) (c : Chan) (upset : List Disturbance) (b : BlockNo) :
    (((s.disturb upset).tested c).block b).taps = (s.upsetBlock upset b).taps ∨
      (((s.disturb upset).tested c).block b).taps = List.replicate 32 0 := by
  rw [State.tested_eq_testBlocks, ← State.disturb_block]
  exact (State.PlacesTidied.testBlocks (s.disturb upset) c _).taps b

/-- After step 6 the taps are those before it, or 0 (R60). -/
theorem State.Sampled.stepped_taps (h : s.Sampled t c p rin sin upset s0 a) (b : BlockNo) :
    ((s0.stepped c a).block b).taps = ((s0.adapted c a).block b).taps ∨
      ((s0.stepped c a).block b).taps = List.replicate 32 0 := by
  obtain ⟨hstill, hdiverged⟩ := h.stepped_places
  by_cases hdiv : (s.chan c).SampleDiverges (t.chan c) (s.sampleValues c p rin sin upset)
  · rw [(hdiverged hdiv).2 b]
    split
    · exact .inr rfl
    · exact .inl rfl
  · exact .inl (by rw [(hstill hdiv).2 b])

/-- After step 6 a scout is the one before it, with its dwell count restarted at most (R60). -/
theorem State.Sampled.stepped_scout (h : s.Sampled t c p rin sin upset s0 a) :
    ∀ k ∈ ((s0.stepped c a).chan c).scout, k ∈ ((s0.adapted c a).chan c).scout ∨ k.Fresh := by
  obtain ⟨hstill, hdiverged⟩ := h.stepped_places
  intro k hk
  by_cases hdiv : (s.chan c).SampleDiverges (t.chan c) (s.sampleValues c p rin sin upset)
  · obtain ⟨-, hscout, -⟩ := Placing.mk.inj (hdiverged hdiv).1
    rw [hscout] at hk
    obtain ⟨j, -, rfl⟩ := Option.map_eq_some_iff.mp hk
    exact .inr ⟨rfl, rfl⟩
  · obtain ⟨-, hscout, -⟩ := Placing.mk.inj (hstill hdiv).1
    exact .inl (by rwa [← hscout])

/-- On a sample that is not permitted no tap takes a value from the update, and the dwell count does not advance (R84). -/
theorem State.Sampled.unpermitted (h : s.Sampled t c p rin sin upset s0 a) (hs : s.PoolSound) (hp : (s.chan c).profile = some p)
    (hpermits : ¬((s0.fed c a).chan c).permits a = true) :
    (∀ b : BlockNo, (t.block b).taps = (s.upsetBlock upset b).taps ∨ (t.block b).taps = List.replicate 32 0) ∧
      ∀ k ∈ (t.chan c).scout, k.dwell = 0 ∨ ∃ k0 ∈ (s.chan c).scout, k0.block = k.block ∧ k.dwell = k0.dwell := by
  have hpool := h.adapted_pool hpermits
  obtain ⟨hendtaps, hendscout⟩ := h.end_tidied hp
  refine ⟨fun b => ?_, fun k hk => ?_⟩
  · obtain hb | hb := hendtaps b
    · obtain hb' | hb' := h.stepped_taps b
      · rw [hb, hb', hpool.block]
        exact s.tested_taps c upset b
      · exact .inr (hb.trans hb')
    · exact .inr hb
  · obtain hk | hk := hendscout k hk
    · obtain hk | hk := h.stepped_scout k hk
      · rw [(hpool.parts c).2.1] at hk
        obtain hk | hk := (hs.tested_scout c upset).2.2 k hk
        · exact .inr ⟨k, hk, rfl, rfl⟩
        · exact .inl hk.1.1
      · exact .inl hk.1
    · exact .inl hk.1

/-! ## A permitted sample -/

theorem State.Sampled.unapplied_of_permitted (h : s.Sampled t c p rin sin upset s0 a)
    (hpermitted : (s.chan c).SamplePermits (t.chan c) (s.sampleValues c p rin sin upset)) :
    ∀ q : Profile, ¬(s0.output c a).Applies c q := by
  obtain ⟨-, -, -, hfar, -⟩ := hpermitted
  exact h.unapplied_of_talk (by rw [hfar]; nofun)

/-- The advance of the dwell writes no block. -/
theorem State.Sampled.advanced_block (h : s.Sampled t c p rin sin upset s0 a) (b : BlockNo) :
    (s0.advanced c a).block b = (s0.renewed c a).block b := by
  rw [h.advanced_eq, State.onChan_block]

/-- The pool where no dwell ends: the update, and the scout one sample on (R31, R47). -/
theorem State.Sampled.adapted_still_pool (h : s.Sampled t c p rin sin upset s0 a) (hs : s.PoolSound)
    (hpermits : ((s0.fed c a).chan c).permits a = true)
    (hnot : ∀ k ∈ (s.chan c).scout, ¬s.DwellEnds c (s.sampleValues c p rin sin upset).tookPart k) :
    (∀ b : BlockNo, (s0.adapted c a).block b = (s0.renewed c a).block b) ∧
      ((s0.adapted c a).chan c).scout = ((s0.fed c a).chan c).scout.map fun k =>
        if k.block ∈ (s.sampleValues c p rin sin upset).tookPart then k.stepped else k := by
  obtain ⟨hadapted, hchan⟩ := h.adapted_still hs hpermits hnot
  rw [hadapted, hchan]
  exact ⟨h.advanced_block, Channel.withScout_scout _ _⟩

/-- A permitted sample short of a dwell end and of a divergence (R31, R47). -/
theorem State.Sampled.permitted_still (h : s.Sampled t c p rin sin upset s0 a) (hs : s.PoolSound)
    (hpermitted : (s.chan c).SamplePermits (t.chan c) (s.sampleValues c p rin sin upset))
    (hrun : (s.chan c).divRun < 1023)
    (hnot : ∀ k ∈ (s.chan c).scout, ¬s.DwellEnds c (s.sampleValues c p rin sin upset).tookPart k) :
    (∀ b : BlockNo, t.block b = (s0.renewed c a).block b) ∧
      (t.chan c).scout = ((s0.fed c a).chan c).scout.map fun k =>
        if k.block ∈ (s.sampleValues c p rin sin upset).tookPart then k.stepped else k := by
  obtain ⟨hblock, hscout⟩ := h.adapted_still_pool hs (h.permits_iff.mpr hpermitted) hnot
  obtain ⟨-, -, -, -, -, hstill, -⟩ := h.leaves (.inr (h.unapplied_of_permitted hpermitted)) (.refl _)
  have hdiv : ¬(s.chan c).SampleDiverges (t.chan c) (s.sampleValues c p rin sin upset) := fun ⟨_, _, _, _, _, hlong⟩ => by
    omega
  obtain ⟨htscout, htblock⟩ := hstill hdiv
  exact ⟨fun b => (htblock b).trans (hblock b), htscout.trans hscout⟩

/-- A scout evaluated within the sample is followed by a fresh one at most (R50 to R54). -/
theorem State.Sampled.permitted_due (h : s.Sampled t c p rin sin upset s0 a) (hs : s.PoolSound) (hp : (s.chan c).profile = some p)
    (hpermitted : (s.chan c).SamplePermits (t.chan c) (s.sampleValues c p rin sin upset)) {k : Scout}
    (hk : k ∈ (s.chan c).scout) (hends : s.DwellEnds c (s.sampleValues c p rin sin upset).tookPart k) :
    ∀ j ∈ (t.chan c).scout, j.Fresh := by
  obtain ⟨k', -, -, -, hadapted⟩ := h.adapted_due hs (h.permits_iff.mpr hpermitted) hk hends
  intro j hj
  obtain hj | hj := (h.end_tidied hp).2 j hj
  · obtain hj | hj := h.stepped_scout j hj
    · rw [hadapted] at hj
      exact State.evaluate_scout _ c _ _ _ j hj
    · exact hj
  · exact hj

/-! ## The whole outcome -/

/-- The state after the update, with another scout: what the dwell advance makes of it (R47). -/
theorem State.Sampled.advanced_pool (h : s.Sampled t c p rin sin upset s0 a) {base : State} (hbase : base.SamePool (s0.renewed c a))
    {k : Option Scout} (hchan : (s0.advanced c a).chan c = ((s0.fed c a).chan c).withScout k) :
    (base.onChan c fun ch => ch.withScout k).SamePool (s0.advanced c a) := by
  rw [h.advanced_eq] at hchan ⊢
  refine hbase.onChan c ?_
  rw [State.onChan_chan_self] at hchan
  obtain ⟨hwindows, -, hlast, hfault, hstarved, hswaps⟩ := hbase.parts c
  rw [hchan, ← State.renewed_chan]
  simp only [Channel.placing, Channel.withScout, hwindows, hlast, hfault, hstarved, hswaps]

/-- The evaluation of a sound pool's scout, as the claims tell it (R50 to R54). -/
theorem State.PoolSound.evaluationGives {u : State} (h : u.PoolSound) {k : Scout} (hk : (u.chan c).scout = some k) (quota : Nat)
    (tookPart : List BlockNo) : u.EvaluationGives (u.evaluate c quota tookPart k) c quota tookPart k := by
  obtain ⟨hasc, -⟩ := h.placement c
  have hgives := State.carryOut_gives quota tookPart hasc (h.scout_apart hk) (h.length_windows c)
  have hpool : (u.carryOut c k (u.verdict c quota tookPart k)).SamePool (u.evaluate c quota tookPart k) := by
    rw [State.evaluate_eq_outcome, State.outcome_eq]
    split
    · exact .raised _ _ _
    · exact .refl _
  exact hgives.rebase (fun _ => rfl) rfl rfl rfl rfl rfl rfl rfl hpool

theorem Channel.advanceDwell_life (ch : Channel) (mode : Service) (tookPart : List BlockNo) :
    (ch.advanceDwell mode tookPart).life = ch.life := by
  rw [Channel.advanceDwell_replant]; rfl

theorem State.Sampled.advanced_sound (h : s.Sampled t c p rin sin upset s0 a) (hs : s.PoolSound) (hp : (s.chan c).profile = some p) :
    (s0.advanced c a).PoolSound := by
  have hupdated : (s0.fed c a).WorksOn (s0.renewed c a) c :=
    State.updateBlocks_works (h.profile_of_works hp h.fed_works) (fun hsignal => (hsignal.2 c).1) _ _ _
  have hsteers := Channel.advanceDwell_steers ((s0.renewed c a).chan c) a.start.service (((s0.heard c a).takingPart c).map Prod.snd)
  refine (h.pool hs (h.fed_works.toWorks.trans hupdated.toWorks)).onChan
    ⟨Channel.advanceDwell_life _ _ _, hsteers.profile, hsteers.staged, hsteers.windows, hsteers.scout⟩

end

end Sys2Proof.Machine

namespace Sys2Proof

open Sys2Proof.Machine

/-! ## The statement -/

/-- Settles O49: by whether the sample is permitted, and by whether a dwell ends on it. -/
theorem tapsMoveOnlyWhenPermitted : Obligations.TapsMoveOnlyWhenPermitted := by
  intro c rin sin upset s t f n m p hs hring hawaits hopen hp hexec
  obtain ⟨s0, a, h⟩ := State.sampled hawaits hopen hp hexec
  intro values before permitted
  have hpermits : ((s0.fed c a).chan c).permits a = true ↔ permitted := h.permits_iff
  have hpaired := length_pairedValues_sample (rin := rin) (sin := sin) (upset := upset) hs hp hring
  obtain ⟨hmoved, hkept⟩ := h.renewed_block hs
  refine ⟨fun hnot => h.unpermitted hs hp fun hp' => hnot (hpermits.mp hp'), fun hpermitted hrun hshort => ?_,
    fun hpermitted k hk htook hend => h.permitted_due hs hp hpermitted hk ⟨htook, hend⟩, fun htaps hunapplied => ?_⟩
  · have hnot : ∀ k ∈ before.scout, ¬s.DwellEnds c values.tookPart k := fun k hk hends =>
      absurd hends.2 (Nat.not_le.mpr (hshort k hk))
    obtain ⟨hblock, hscout⟩ := h.permitted_still hs hpermitted hrun hnot
    refine ⟨fun q b hqb j tap hj htap => ?_, fun b hb => ?_, fun k hk htook => ?_⟩
    · rw [hblock, hmoved (q, b) hqb]
      exact movedTaps_getElem? (hpaired q) _ _ hj htap
    · rw [hblock, hkept b hb]
      exact s.tested_taps c upset b
    · rw [hscout, h.fed_scout hs hk htook, Option.map_some, if_pos htook]
  · intro handled tookPart base withScout advanced ends leaves
    have hnone : ∀ q : Profile, ¬(s0.output c a).Applies c q := fun q hq => by
      obtain ⟨-, hlong, hstaged⟩ := (h.applies_iff q).mp hq
      obtain hu | hu := hunapplied
      · have hempty : (s.chan c).staged.pendingRecord = none := hu
        rw [hstaged] at hempty
        cases hempty
      · omega
    have hwithScout : ∀ k : Option Scout, withScout k = base.onChan c fun ch => ch.withScout k := fun k => by
      rw [State.onChan_eq_setChan]; rfl
    have hbase : permitted → base.SamePool (s0.renewed c a) := fun hpermitted => by
      show (if permitted then _ else _ : State).SamePool _
      rw [if_pos hpermitted]
      exact h.renewed_pool hs htaps hp hring
    refine ⟨fun k hk hends => ?_, fun hnot => ?_⟩
    · obtain ⟨hpermitted, htook, hend⟩ := hends
      obtain ⟨k', hpos, hkblock, hchan, hadapted⟩ := h.adapted_due hs (hpermits.mpr hpermitted) hk ⟨htook, hend⟩
      have hpool := h.advanced_pool (hbase hpermitted) hchan
      have hgives := (h.advanced_sound hs hp).evaluationGives (by rw [hchan, Channel.withScout_scout]) p.quota tookPart
      refine ⟨s0.adapted c a, ?_, h.leaves (.inr hnone) (.refl _)⟩
      obtain ⟨hwindows, -, hlast, -, hstarved, hswaps⟩ := hpool.parts c
      rw [State.onChan_chan_self] at hwindows hlast hstarved hswaps
      rw [hwithScout, hadapted]
      refine hgives.rebase (fun b => (hpool.block b).symm) hpool.wait.symm ?_ ?_ ?_ ?_ hpos.symm hkblock.symm (.refl _)
      · rw [State.onChan_chan_self]; exact hwindows.symm
      · rw [State.onChan_chan_self]; exact hlast.symm
      · rw [State.onChan_chan_self]; exact hstarved.symm
      · rw [State.onChan_chan_self]; exact hswaps.symm
    · refine h.leaves (.inr hnone) ?_
      rw [hwithScout]
      by_cases hpermitted : permitted
      · obtain ⟨hadapted, hchan⟩ := h.adapted_still hs (hpermits.mpr hpermitted) fun k hk hends => hnot k hk ⟨hpermitted, hends⟩
        have hscout := ((hbase hpermitted).parts c).2.1
        rw [State.renewed_chan] at hscout
        rw [hadapted]
        have hstepped : ∀ k : Scout, (if before.SamplePermits (t.chan c) values ∧ k.block ∈ tookPart then advanced k else k) =
            if k.block ∈ values.tookPart then k.stepped else k := fun k => by
          by_cases htook : k.block ∈ values.tookPart
          · rw [if_pos ⟨hpermitted, htook⟩, if_pos htook]
          · rw [if_neg fun hand => htook hand.2, if_neg htook]
        simp only [hstepped, ← hscout]
        exact (h.advanced_pool (hbase hpermitted) hchan).symm
      · have hnever : ∀ k : Scout, (if before.SamplePermits (t.chan c) values ∧ k.block ∈ tookPart then advanced k else k) = k :=
          fun k => if_neg fun hand => hpermitted hand.1
        have hhandled : base = handled := if_neg hpermitted
        simp only [hnever, Option.map_id']
        rw [State.onChan_eq_setChan, Channel.withScout_self rfl, State.setChan_chan_eq, hhandled]
        exact (h.adapted_pool fun hp' => hpermitted (hpermits.mp hp')).symm

end Sys2Proof
end

section
/-!
PROOFS. The notice events of a sample in their order (R170, R171): the link after them, each notice filled when it is taken, and the
one taken from an idle transmitter read again after the sample (log 9).
-/

namespace Sys2Proof.Machine

/-! ## Notice events in order, on the link -/

/-- A link whose notice on the line, if there is one, has the record `fill` gives (R171). -/
def Link.settled (l : Link) (fill : Notice → Record) : Link :=
  match l.tx with
  | .notice n _ => { l with tx := .notice n (fill n) }
  | _ => l

/-- A link after notice events of one source, each filled alike. -/
def Link.raisedAll (l : Link) (passes : NoticeKind → Bool) (u : Source) (fill : Notice → Record) (ks : List NoticeKind) : Link :=
  ks.foldl (fun m k => m.raised (passes k) u k fill) l

/-- A link after notice events of one source, each filled as it may be. -/
inductive Link.Told (l : Link) (passes : NoticeKind → Bool) (u : Source) : List NoticeKind → Link → Prop where
  | nil : l.Told passes u [] l
  | snoc {ks : List NoticeKind} {m : Link} (k : NoticeKind) (fill : Notice → Record) :
      l.Told passes u ks m → l.Told passes u (ks ++ [k]) (m.raised (passes k) u k fill)

section
variable {l m : Link} {passes : NoticeKind → Bool} {u : Source}

theorem Link.Told.trans {n : Link} {ks js : List NoticeKind} (h : l.Told passes u ks m) (h' : m.Told passes u js n) :
    l.Told passes u (ks ++ js) n := by
  induction h' with
  | nil => rwa [List.append_nil]
  | snoc k fill _ ih => rw [← List.append_assoc]; exact ih.snoc k fill

theorem Link.arbitrated_settled (m : Link) (fill fill' : Notice → Record) :
    (m.arbitrated fill').settled fill = (m.settled fill).arbitrated fill := by
  obtain ⟨fr, rep, no, tx, en, rate⟩ := m
  cases tx with
  | reply r => rfl
  | notice n r => rfl
  | idle =>
    cases rep with
    | cons r rs => rfl
    | nil => cases no <;> rfl

/-- What stands on the line is no part of the queues. -/
theorem Link.settled_queues (m : Link) (fill : Notice → Record) :
    (m.settled fill).enable = m.enable ∧ (m.settled fill).notices = m.notices ∧
      ∀ q : List Notice, ({ m with notices := q } : Link).settled fill = { m.settled fill with notices := q } := by
  obtain ⟨fr, rep, no, tx, en, rate⟩ := m
  cases tx <;> exact ⟨rfl, rfl, fun _ => rfl⟩

/-- Filling the notice on the line, before a notice event or after it. -/
theorem Link.raised_settled (m : Link) (b : Bool) (u : Source) (k : NoticeKind) (fill fill' : Notice → Record) :
    (m.raised b u k fill').settled fill = (m.settled fill).raised b u k fill := by
  obtain ⟨henable, hnotices, hqueue⟩ := m.settled_queues fill
  unfold Link.raised
  rw [henable, hnotices]
  split
  · rw [Link.arbitrated_settled, hqueue]
    simp only [henable]
  · rfl

theorem Link.Told.settled {ks : List NoticeKind} (h : l.Told passes u ks m) (fill : Notice → Record) :
    m.settled fill = (l.settled fill).raisedAll passes u fill ks := by
  induction h with
  | nil => rfl
  | snoc k fill' _ ih => rw [Link.raised_settled, ih, Link.raisedAll, Link.raisedAll, List.foldl_append]; rfl

theorem Link.arbitrated_busy {m : Link} (h : m.tx ≠ .idle) (fill : Notice → Record) : m.arbitrated fill = m := by
  obtain ⟨fr, rep, no, tx, en, rate⟩ := m
  cases tx with
  | idle => exact absurd rfl h
  | reply r => rfl
  | notice n r => rfl

/-- A busy transmitter stays so through a notice event, which then takes nothing (R169). -/
theorem Link.raised_busy {m : Link} (h : m.tx ≠ .idle) (b : Bool) (u : Source) (k : NoticeKind) (fill fill' : Notice → Record) :
    m.raised b u k fill' = m.raised b u k fill ∧ (m.raised b u k fill).tx ≠ .idle := by
  unfold Link.raised
  rw [Link.arbitrated_busy (by exact h), Link.arbitrated_busy (by exact h)]
  refine ⟨rfl, ?_⟩
  split
  · exact h
  · exact h

theorem Link.Told.busy {ks : List NoticeKind} (h : l.Told passes u ks m) (hl : l.tx ≠ .idle) (fill : Notice → Record) :
    m = l.raisedAll passes u fill ks ∧ m.tx ≠ .idle := by
  induction h with
  | nil => exact ⟨rfl, hl⟩
  | snoc k fill' _ ih =>
    obtain ⟨heq, hbusy⟩ := ih
    obtain ⟨hsame, hbusy'⟩ := Link.raised_busy hbusy (passes k) u k fill fill'
    refine ⟨?_, hsame ▸ hbusy'⟩
    rw [hsame, heq, Link.raisedAll, Link.raisedAll, List.foldl_append]
    rfl

theorem Link.Told.noticed {ks : List NoticeKind} (h : l.Told passes u ks m) : l.Noticed m := by
  induction h with
  | nil => exact .refl
  | snoc k fill _ ih => exact ih.raised _ _ k fill

end

theorem State.settleNotice_link_idle {s : State} (t : State) (h : s.link.tx = .idle) :
    (s.settleNotice t).link = t.link.settled t.noticeRecord := by
  unfold State.settleNotice Link.settled
  rw [h]
  cases ht : t.link.tx with
  | idle => rfl
  | reply r => rfl
  | notice n r => rfl

theorem State.settleNotice_busy {s : State} (t : State) (h : s.link.tx ≠ .idle) : s.settleNotice t = t := by
  unfold State.settleNotice
  split
  · next hs _ => exact absurd hs h
  · rfl

/-! ## Notice events in order, between states -/

/-- An act that raises, of one channel, notice events of the kinds listed, in order, and leaves its mask. -/
structure State.Tells (s t : State) (c : Chan) (ks : List NoticeKind) : Prop where
  mask : (t.chan c).mask = (s.chan c).mask
  told : s.link.Told (fun k => (s.chan c).mask.getLsbD (maskBit k)) (.channel c) ks t.link

namespace State.Tells
variable {s t v : State} {c : Chan} {ks js : List NoticeKind}

theorem silent (hlink : t.link = s.link) (hmask : (t.chan c).mask = (s.chan c).mask) : s.Tells t c [] :=
  ⟨hmask, by rw [hlink]; exact .nil⟩

theorem refl (s : State) (c : Chan) : s.Tells s c [] := silent rfl rfl

theorem trans (h : s.Tells t c ks) (h' : t.Tells v c js) : s.Tells v c (ks ++ js) := by
  refine ⟨h'.mask.trans h.mask, h.told.trans ?_⟩
  have htold := h'.told
  rwa [h.mask] at htold

theorem raised (s : State) (c : Chan) (k : NoticeKind) : s.Tells (s.raiseNotice (.channel c) k) c [k] := by
  refine ⟨by rw [State.raiseNotice_chan], ?_⟩
  rw [State.raiseNotice_link]
  exact Link.Told.nil.snoc k _

theorem thenRaised (h : s.Tells t c ks) (k : NoticeKind) : s.Tells (t.raiseNotice (.channel c) k) c (ks ++ [k]) :=
  h.trans (raised t c k)

theorem of_eq (h : s.Tells t c ks) (hks : ks = js) : s.Tells t c js := hks ▸ h

end State.Tells

/-- A snapshot and a mask are read off what is not the link. -/
theorem State.raiseNotices_link (s : State) (c : Chan) (ks : List NoticeKind) :
    (s.raiseNotices c ks).link =
      s.link.raisedAll (fun k => (s.chan c).mask.getLsbD (maskBit k)) (.channel c) s.noticeRecord ks := by
  induction ks generalizing s with
  | nil => rfl
  | cons k ks ih =>
    have hfill : (s.raiseNotice (.channel c) k).noticeRecord = s.noticeRecord := by rw [State.raiseNotice_eq]; rfl
    show ((s.raiseNotice (.channel c) k).raiseNotices c ks).link = _
    rw [ih, State.raiseNotice_chan, hfill, State.raiseNotice_link]
    rfl

/-- The link after the notice events of a sample is the one the claims tell: the events raised in order on the link before, with
the snapshot of the state after (R171, log 9). -/
theorem State.Tells.settled {s t : State} {c : Chan} {ks : List NoticeKind} (h : s.Tells t c ks) :
    (s.settleNotice t).link = (({ s.settleNotice t with link := s.link } : State).raiseNotices c ks).link := by
  have hfill : ({ s.settleNotice t with link := s.link } : State).noticeRecord = t.noticeRecord := by
    rw [State.settleNotice_eq]; rfl
  have hmask : (({ s.settleNotice t with link := s.link } : State).chan c).mask = (s.chan c).mask := by
    rw [State.settleNotice_eq]; exact h.mask
  rw [State.raiseNotices_link, hfill, hmask]
  by_cases hidle : s.link.tx = .idle
  · rw [State.settleNotice_link_idle t hidle, h.told.settled]
    congr 1
    unfold Link.settled
    rw [hidle]
  · rw [State.settleNotice_busy t hidle]
    exact (h.told.busy hidle t.noticeRecord).1

end Sys2Proof.Machine
end

section
/-!
PROOFS. The notice events that each step of a sample raises (R52, R71, R90, R92, R107, R110, R131, R135).
-/

namespace Sys2Proof.Machine

/-! ## Step by step -/

namespace State.Tells
variable {s t v : State} {c : Chan} {ks js : List NoticeKind}

/-- An act on the channel's context that leaves its mask. -/
theorem onChan (s : State) (c : Chan) {f : Channel → Channel} (hf : (f (s.chan c)).mask = (s.chan c).mask) :
    s.Tells (s.onChan c f) c [] := silent rfl (by rw [State.onChan_chan_self, hf])

/-- An act on the channel's context that leaves its mask, and then a notice event. -/
theorem onChanRaised (s : State) (c : Chan) {f : Channel → Channel} (k : NoticeKind) (hf : (f (s.chan c)).mask = (s.chan c).mask) :
    s.Tells ((s.onChan c f).raiseNotice (.channel c) k) c [k] := (onChan s c hf).thenRaised k

theorem ite {P : Prop} [Decidable P] (h : P → s.Tells t c ks) (h' : ¬P → s.Tells t c []) :
    s.Tells t c (if P then ks else []) := by
  split
  · next hP => exact h hP
  · next hP => exact h' hP

end State.Tells

section
variable (s : State) (c : Chan)

/-- The exit to NORMAL raises MODE (R110). -/
theorem State.returnToNormal_tells :
    ((s.chan c).inSample = true ∧ (s.chan c).quietRun = 2000 ∧ (s.chan c).toneMode ≠ .normal →
      s.Tells (s.returnToNormal c) c [.mode]) ∧
    (¬((s.chan c).inSample = true ∧ (s.chan c).quietRun = 2000 ∧ (s.chan c).toneMode ≠ .normal) →
      s.Tells (s.returnToNormal c) c []) := by
  rw [State.returnToNormal_eq]
  refine ⟨fun h => ?_, fun h => ?_⟩
  · rw [if_pos h]
    exact .onChanRaised s c _ rfl
  · rw [if_neg h]
    exact .refl s c

/-- A detection that changes the tone mode raises TONE and then MODE (R107). -/
theorem State.detectTone_tells (p : Profile) :
    ((s.chan c).ToneMoves p → s.Tells (s.detectTone c p) c [.tone, .mode]) ∧
    (¬(s.chan c).ToneMoves p → s.Tells (s.detectTone c p) c []) := by
  rw [State.detectTone_eq]
  refine ⟨fun ⟨hlong, hmoves⟩ => ?_, fun h => ?_⟩
  · rw [if_pos hlong, if_neg (by exact hmoves)]
    exact (State.Tells.onChanRaised s c .tone rfl).thenRaised .mode
  · split
    · next hlong =>
      rw [if_pos (by exact Decidable.not_not.mp fun hne => h ⟨hlong, hne⟩)]
      exact .onChan s c rfl
    · exact .refl s c

/-- A block fault raises FAULT (R71). -/
theorem State.blockFault_tells (b : BlockNo) : s.Tells (s.blockFault c b) c [.fault] := by
  have hretired : s.Tells (s.retireBlock c b) c [.fault] := by
    rw [State.retireBlock_eq]
    refine (State.Tells.silent ?_ ?_).thenRaised .fault
    · rw [State.setChan_link, State.setBlock_link]
    · rw [State.setChan_chan_self]; rfl
  refine ⟨?_, ?_⟩
  · obtain ⟨-, -, -, -, -, -, -, hmask, -⟩ := (State.PlacesTidied.blockFault s c b).toPlacesMoved.parts c
    exact hmask
  · rw [(State.RoleLost.blockFault s c b).link]
    exact hretired.told

end

/-- The test of a list of held blocks raises FAULT for each that fails (R71). -/
theorem State.PoolSound.testBlocks_tells {s : State} (hs : s.PoolSound) {c : Chan} {ks : List (Pos × BlockNo)} (h : s.Holds c ks) :
    s.Tells (s.testBlocks c ks) c (List.replicate (ks.filter fun k => (s.block k.2).altered).length .fault) := by
  induction ks generalizing s with
  | nil => exact .refl s c
  | cons k ks ih =>
    rw [State.testBlocks]
    by_cases haltered : (s.block k.2).altered = true
    · have hsame : ks.filter (fun j => ((s.blockFault c k.2).block j.2).altered) = ks.filter fun j => (s.block j.2).altered :=
        List.filter_congr fun j hj => by
          rw [hs.blockFault_unfree h.head (h.not_mem hj) (by rw [h.tail.held j hj]; nofun)]
      rw [if_pos haltered, List.filter_cons_of_pos (p := fun j : Pos × BlockNo => (s.block j.2).altered) haltered, List.length_cons, List.replicate_succ, ← hsame]
      exact (s.blockFault_tells c k.2).trans (ih (hs.blockFault h.head) (h.faulted hs))
    · rw [if_neg haltered, List.filter_cons_of_neg (p := fun j : Pos × BlockNo => (s.block j.2).altered) haltered]
      exact ih hs h.tail

section
variable (s : State) (c : Chan)

/-- An evaluation that leaves no scout raises STARVED (R52). -/
theorem State.evaluate_tells (quota : Nat) (tookPart : List BlockNo) (k : Scout) :
    (((s.evaluate c quota tookPart k).chan c).scout = none → s.Tells (s.evaluate c quota tookPart k) c [.starved]) ∧
    (((s.evaluate c quota tookPart k).chan c).scout ≠ none → s.Tells (s.evaluate c quota tookPart k) c []) := by
  obtain ⟨-, -, hlink, -⟩ := s.carryOut_agreesBut c k (s.verdict c quota tookPart k)
  have hmask : ((s.carryOut c k (s.verdict c quota tookPart k)).chan c).mask = (s.chan c).mask := by
    rw [State.carryOut_chan_self]
  rw [State.evaluate_eq_outcome, State.outcome_eq]
  by_cases hnone : ((s.carryOut c k (s.verdict c quota tookPart k)).chan c).scout = none
  · rw [if_pos hnone, State.raiseNotice_chan]
    exact ⟨fun _ => (State.Tells.silent hlink hmask).thenRaised .starved, fun h => absurd hnone h⟩
  · rw [if_neg hnone]
    exact ⟨fun h => absurd h hnone, fun _ => .silent hlink hmask⟩

/-- A divergence raises DIVERGED, and MODE where the mode was TRACK; the other mode events raise MODE (R90, R92). -/
theorem State.settleRuns_tells :
    s.Tells (s.settleRuns c) c ((if (s.chan c).diverging then [.diverged] else []) ++
      if (s.chan c).settled.service ≠ (s.chan c).service then [.mode] else []) := by
  unfold State.settleRuns Channel.settled
  split
  · next hdiv =>
    have hservice : (s.chan c).diverged.service = .acquire := by rw [Channel.diverged_eq]
    have hraised : s.Tells ((s.divergedState c).raiseNotice (.channel c) .diverged) c [.diverged] := by
      refine (State.Tells.silent (s.divergedState_link c) ?_).thenRaised .diverged
      rw [State.divergedState_chan_self, Channel.diverged_eq]
    rw [State.diverge_eq, hservice]
    cases hmode : (s.chan c).service with
    | track => exact hraised.thenRaised .mode
    | acquire => exact hraised
  · split
    · next hconv =>
      obtain ⟨hmode, -⟩ := (s.chan c).converged_iff.mp hconv
      rw [hmode]
      exact .onChanRaised s c .mode rfl
    · split
      · next hmoved =>
        obtain ⟨hmode, -⟩ := (s.chan c).pathMoved_iff.mp hmoved
        rw [hmode]
        exact .onChanRaised s c .mode rfl
      · rw [if_neg (not_not.mpr rfl)]
        exact .refl s c

/-- The end of OPENING raises MODE (R131). -/
theorem State.endOpening_tells (p : Profile) :
    (((s.endOpening c p).chan c).life ≠ (s.chan c).life → s.Tells (s.endOpening c p) c [.mode]) ∧
    (((s.endOpening c p).chan c).life = (s.chan c).life → s.Tells (s.endOpening c p) c []) := by
  unfold State.endOpening
  split
  · next h =>
    refine ⟨fun _ => .onChanRaised s c .mode rfl, fun hsame => ?_⟩
    rw [State.chanNotice_eq_raiseNotice, State.raiseNotice_chan, State.onChan_chan_self, h.1] at hsame
    cases hsame
  · exact ⟨fun h => absurd rfl h, fun _ => .refl s c⟩

/-- An apply raises APPLIED (R135). -/
theorem State.applied_tells (old new : Profile) :
    s.Tells ((s.applied c old new).raiseNotice (.channel c) .applied) c [.applied] := by
  refine (State.Tells.silent ?_ ?_).thenRaised .applied
  · rw [State.applied, State.onChan_link, State.reduceQuota_link, State.onChan_link]
  · obtain ⟨-, -, -, -, -, hmask, -⟩ := (State.applied_ends s c old new).parts
    exact hmask

end

/-! ## The steps of a sample -/

section
variable {s t s0 : State} {c : Chan} {p : Profile} {rin sin : Byte} {upset : List Disturbance} {a : Arrival}

/-- The tone mode that stands before a detection (R110). -/
abbrev Channel.standingMode (before after : Channel) : ToneMode := if after.quietRun = 2000 then .normal else before.toneMode

theorem Channel.moveTones_mask (ch : Channel) (a : Arrival) : ((ch.hear a).classify a).mask = ch.mask := by
  obtain ⟨-, -, -, -, -, -, -, hmask, -⟩ := (ch.judged_hears a).parts
  exact hmask

/-- Steps 1 to 3: MODE of the exit to NORMAL, TONE and MODE of a detection (R107, R110). -/
theorem State.Sampled.heard_tells (h : s.Sampled t c p rin sin upset s0 a) :
    s0.Tells (s0.heard c a) c
      ((if (s.chan c).standingMode (t.chan c) ≠ (s.chan c).toneMode then [.mode] else []) ++
        if (t.chan c).toneMode ≠ (s.chan c).standingMode (t.chan c) then [.tone, .mode] else []) := by
  obtain ⟨-, -, -, -, -, -, -, -, hquiet, -, -, -, hmode, -⟩ := Hearing.mk.inj h.hearing
  let classified : State := (s0.onChan c fun ch => ch.setInSample true).onChan c fun ch => (ch.hear a).classify a
  have hclassified : s0.Tells classified c [] := by
    refine (State.Tells.onChan s0 c (by rfl)).trans (State.Tells.onChan _ c ?_)
    exact Channel.moveTones_mask _ a
  have hchan : classified.chan c = ((s.chan c).begun.judged a).moveTones := by
    rw [State.onChan_chan_self, State.onChan_chan_self, h.chans]
    rfl
  have hreturned : (classified.returnToNormal c).chan c = (s.chan c).begun.measured a := by
    rw [(State.returnToNormal_steered classified c).self, hchan]
    rfl
  obtain ⟨-, -, hstanding, -⟩ := Channel.measured_tones (ch := (s.chan c).begun) rfl a
  rw [← hquiet] at hstanding
  replace hstanding : ((s.chan c).begun.measured a).toneMode = (s.chan c).standingMode (t.chan c) := hstanding
  have hjudged : (((s.chan c).begun.judged a).moveTones).inSample = true ∧
      (((s.chan c).begun.judged a).moveTones).quietRun = (t.chan c).quietRun ∧
      (((s.chan c).begun.judged a).moveTones).toneMode = (s.chan c).toneMode := by
    have hwatched := ((s.chan c).begun.hear a).moveDt_dt (((s.chan c).begun.hear a).qualifies a)
    refine ⟨?_, ?_, ?_⟩
    · show ((s.chan c).begun.judged a).inSample = true
      rw [Channel.judged_talk, Channel.watched, hwatched]; rfl
    · rw [hquiet, Channel.sensed_eq_toned, ((s.chan c).begun.judged a).toned_eq a.profile]; rfl
    · show ((s.chan c).begun.judged a).toneMode = _
      rw [Channel.judged_talk, Channel.watched, hwatched]; rfl
  obtain ⟨hin, hquiet', hmode'⟩ := hjudged
  have hexit : ((classified.chan c).inSample = true ∧ (classified.chan c).quietRun = 2000 ∧ (classified.chan c).toneMode ≠ .normal) ↔
      (s.chan c).standingMode (t.chan c) ≠ (s.chan c).toneMode := by
    rw [hchan, hquiet', hmode', Channel.standingMode]
    simp only [hin, true_and]
    split
    · next hq => exact ⟨fun hm => hm.2.symm, fun hm => ⟨hq, hm.symm⟩⟩
    · next hq => exact ⟨fun hm => absurd hm.1 hq, fun hm => absurd rfl hm⟩
  obtain ⟨-, -, hstay, hmove⟩ := ((s.chan c).begun.measured a).detected_fields a.profile
  rw [← Channel.sensed_eq_measured] at hstay hmove
  have hmoves : ((classified.returnToNormal c).chan c).ToneMoves a.profile ↔
      (t.chan c).toneMode ≠ (s.chan c).standingMode (t.chan c) := by
    rw [hreturned]
    refine ⟨fun hm => ?_, fun hne => Decidable.not_not.mp fun hn => hne ?_⟩
    · rw [hmode, (hmove hm).1, ← hstanding]
      exact hm.2
    · rw [hmode, (hstay hn).1]
      exact hstanding
  have hfirst := State.Tells.ite (fun hm => (classified.returnToNormal_tells c).1 (hexit.mpr hm))
    fun hm => (classified.returnToNormal_tells c).2 fun he => hm (hexit.mp he)
  have hsecond := State.Tells.ite (fun hm => ((classified.returnToNormal c).detectTone_tells c a.profile).1 (hmoves.mpr hm))
    fun hm => ((classified.returnToNormal c).detectTone_tells c a.profile).2 fun he => hm (hmoves.mp he)
  exact hclassified.trans (hfirst.trans hsecond)

end

end Sys2Proof.Machine
end

section
/-!
PROOFS. The notice events of a sample in their order, as the claims list them (R52, R71, R90, R92, R107, R110, R131, R135).
-/

namespace Sys2Proof.Machine

/-! ## A scout once placed stays through an apply -/

theorem State.returnBlock_scout_stays (s : State) (b : BlockNo) {d : Chan} (h : (s.chan d).scout ≠ none) :
    ((s.returnBlock b).chan d).scout ≠ none := by
  rw [State.returnBlock_chan]
  split
  · next e _ =>
    split
    · cases hclaim : e.claim with
      | pin p => rw [WaitEntry.place_pin hclaim]; exact h
      | scout => rw [WaitEntry.place_scout hclaim]; exact Option.some_ne_none _
    · exact h
  · exact h

theorem State.reduceQuota_scout_stays (s : State) (c : Chan) (quota fuel : Nat) {d : Chan} (h : (s.chan d).scout ≠ none) :
    ((s.reduceQuota c quota fuel).chan d).scout ≠ none := by
  induction fuel generalizing s with
  | zero => exact h
  | succ fuel ih =>
    unfold State.reduceQuota
    split
    · split
      · next w _ =>
        refine ih _ ?_
        have hdrop : ∀ ws : List Window → List Window,
            ((s.onChan c fun ch => { ch with windows := ws ch.windows }).chan d).scout ≠ none := fun ws => by
          by_cases hd : d = c
          · rw [hd, State.onChan_chan_self, ← hd]; exact h
          · rw [State.onChan_chan_of_ne _ _ hd]; exact h
        unfold State.returnWindow
        dsimp only
        split
        · next b _ => exact State.returnBlock_scout_stays _ b (hdrop fun ws => ws.filter fun v => v.pos != w.pos)
        · exact hdrop _
      · exact h
    · exact h

theorem State.applied_scout_stays (s : State) (c : Chan) (old new : Profile) (h : (s.chan c).scout ≠ none) :
    ((s.applied c old new).chan c).scout ≠ none := by
  have hstays := State.reduceQuota_scout_stays (s.onChan c fun ch => ch.takeProfile old new) c new.quota
    (s.chan c).windows.length (d := c) (by rw [State.onChan_chan_self]; exact h)
  rw [State.applied, State.onChan_chan_self]
  exact hstays

section
variable {s t s0 : State} {c : Chan} {p : Profile} {rin sin : Byte} {upset : List Disturbance} {a : Arrival}

/-! ## The test of the blocks and the adaptation -/

/-- FAULT for each block that fails its test (R71). -/
theorem State.Sampled.checked_tells (h : s.Sampled t c p rin sin upset s0 a) (hs : s.PoolSound) :
    (s0.heard c a).Tells (s0.checked c a) c
      (List.replicate ((s.chan c).covered.filter fun k => (s.upsetBlock upset k.2).altered).length .fault) := by
  have hheard := h.pool hs h.heard_works.toWorks
  have htells := hheard.testBlocks_tells (hheard.holds_covered c)
  simp only [h.heard_block] at htells
  rw [Channel.covered_of_placing h.heard_placing] at htells
  rw [State.checked, Channel.covered_of_placing h.heard_placing]
  exact htells

theorem Channel.trackResidual_mask (ch : Channel) (e : Int) : (ch.trackResidual e).mask = ch.mask := rfl

theorem State.fed_tells (s : State) (c : Chan) (a : Arrival) : (s.checked c a).Tells (s.fed c a) c [] :=
  .onChan _ c (Channel.trackResidual_mask _ _)

theorem Channel.advanceDwell_mask (ch : Channel) (mode : Service) (tookPart : List BlockNo) :
    (ch.advanceDwell mode tookPart).mask = ch.mask := by
  rw [Channel.advanceDwell_replant]; rfl

theorem State.advanced_tells (s : State) (c : Chan) (a : Arrival) : (s.fed c a).Tells (s.advanced c a) c [] := by
  refine .silent ?_ ?_
  · rw [State.advanced, State.onChan_link, State.renewed, State.updateBlocks_link]
  · rw [State.advanced, State.onChan_chan_self, Channel.advanceDwell_mask, State.renewed_chan]

/-- STARVED where the evaluation leaves no scout (R52). -/
theorem State.Sampled.adapted_tells (h : s.Sampled t c p rin sin upset s0 a) (hs : s.PoolSound) :
    (((s0.fed c a).chan c).scout ≠ none ∧ ((s0.adapted c a).chan c).scout = none →
      (s0.fed c a).Tells (s0.adapted c a) c [.starved]) ∧
    (¬(((s0.fed c a).chan c).scout ≠ none ∧ ((s0.adapted c a).chan c).scout = none) →
      (s0.fed c a).Tells (s0.adapted c a) c []) := by
  by_cases hpermits : ((s0.fed c a).chan c).permits a = true
  · by_cases hends : ∃ k ∈ (s.chan c).scout, s.DwellEnds c (s.sampleValues c p rin sin upset).tookPart k
    · obtain ⟨k, hk, hends⟩ := hends
      obtain ⟨k', -, -, -, hadapted⟩ := h.adapted_due hs hpermits hk hends
      have hstood : ((s0.fed c a).chan c).scout ≠ none := by rw [h.fed_scout hs hk hends.1]; exact Option.some_ne_none _
      obtain ⟨hstarved, hgoes⟩ := (s0.advanced c a).evaluate_tells c p.quota (s.sampleValues c p rin sin upset).tookPart k'
      rw [← hadapted] at hstarved hgoes
      exact ⟨fun hn => (s0.advanced_tells c a).trans (hstarved hn.2), fun hn => (s0.advanced_tells c a).trans (hgoes fun hnone => hn ⟨hstood, hnone⟩)⟩
    · obtain ⟨hadapted, hchan⟩ := h.adapted_still hs hpermits fun k hk hend => hends ⟨k, hk, hend⟩
      rw [hadapted]
      refine ⟨fun ⟨hstood, hnone⟩ => ?_, fun _ => (s0.advanced_tells c a)⟩
      rw [hchan, Channel.withScout_scout, Option.map_eq_none_iff] at hnone
      exact absurd hnone hstood
  · have hadapted : s0.adapted c a = s0.fed c a := if_neg hpermits
    rw [hadapted]
    exact ⟨fun hn => absurd hn.2 hn.1, fun _ => .refl _ c⟩

/-- The adaptation alone takes a scout away for good (R52). -/
theorem State.Sampled.scout_none_iff (h : s.Sampled t c p rin sin upset s0 a) (hp : (s.chan c).profile = some p) :
    (((s.disturb upset).tested c).chan c).scout ≠ none ∧ (t.chan c).scout = none ↔
      ((s0.fed c a).chan c).scout ≠ none ∧ ((s0.adapted c a).chan c).scout = none := by
  have hfed : ((s0.fed c a).chan c).scout = (((s.disturb upset).tested c).chan c).scout := (h.fed_pool.parts c).2.1
  have hstepped : ((s0.stepped c a).chan c).scout = none ↔ ((s0.adapted c a).chan c).scout = none := by
    obtain ⟨hstill, hdiverged⟩ := h.stepped_places
    by_cases hdiv : (s.chan c).SampleDiverges (t.chan c) (s.sampleValues c p rin sin upset)
    · obtain ⟨-, hscout, -⟩ := Placing.mk.inj (hdiverged hdiv).1
      rw [show ((s0.stepped c a).chan c).scout = _ from hscout, Option.map_eq_none_iff]
    · obtain ⟨-, hscout, -⟩ := Placing.mk.inj (hstill hdiv).1
      rw [show ((s0.stepped c a).chan c).scout = _ from hscout]
  rw [hfed]
  refine and_congr_right fun hstood => ?_
  by_cases hq : ∃ q : Profile, (s0.output c a).Applies c q
  · obtain ⟨q, hq⟩ := hq
    have hstays : ((s0.adapted c a).chan c).scout ≠ none := by
      have hidle : (t.chan c).talk ≠ .far := fun hfar => h.unapplied_of_talk (by rw [hfar]; nofun) q hq
      have hpermits : ¬((s0.fed c a).chan c).permits a = true := fun hp' => by
        obtain ⟨-, -, -, hfar, -⟩ := h.permits_iff.mp hp'
        exact hidle hfar
      rw [show s0.adapted c a = s0.fed c a from if_neg hpermits, hfed]
      exact hstood
    have hout : ((s0.output c a).chan c).scout ≠ none := by
      obtain ⟨-, hscout, -⟩ := Placing.mk.inj (s0.output_rest c a).2.1
      rw [show ((s0.output c a).chan c).scout = _ from hscout]
      exact fun hnone => hstays (hstepped.mp hnone)
    refine ⟨fun hnone => absurd hnone ?_, fun hnone => absurd hnone hstays⟩
    rw [h.chan_finished, h.applied hp hq, State.raiseNotice_chan]
    exact State.applied_scout_stays _ c p q hout
  · have hend := h.end_pool (.inr fun q h' => hq ⟨q, h'⟩)
    rw [(hend.parts c).2.1, hstepped]

/-! ## The runs and the end of the sample -/

/-- DIVERGED, and MODE for a change of service mode (R90, R92). -/
theorem State.Sampled.stepped_tells (h : s.Sampled t c p rin sin upset s0 a) :
    (s0.adapted c a).Tells (s0.stepped c a) c
      ((if (s.chan c).SampleDiverges (t.chan c) (s.sampleValues c p rin sin upset) then [.diverged] else []) ++
        if (t.chan c).service ≠ (s.chan c).service then [.mode] else []) := by
  have hiff := h.diverges_iff
  obtain ⟨hservice, -⟩ := Running.mk.inj h.stepped.running
  obtain ⟨hservice', -⟩ := Running.mk.inj ((s0.adapted_fed c a).running.trans (congrArg Channel.running (h.chans c)))
  have hchan := s0.stepped_chan c a
  rw [hservice, ← hservice']
  by_cases hcounted : ((s0.fed c a).chan c).counted a = true
  · rw [if_pos hcounted] at hchan
    have hmoved : ((s0.adapted c a).onChan c Channel.moveRuns).chan c = ((s0.adapted c a).chan c).moveRuns :=
      State.onChan_chan_self _ c _
    have hmask : ((s0.adapted c a).chan c).moveRuns.mask = ((s0.adapted c a).chan c).mask := by
      rw [Channel.moveRuns_same]
    have hsame : ((s0.adapted c a).chan c).moveRuns.service = ((s0.adapted c a).chan c).service := by
      rw [Channel.moveRuns_same]
    have hstepped : s0.stepped c a = ((s0.adapted c a).onChan c Channel.moveRuns).settleRuns c := if_pos hcounted
    have htells := ((s0.adapted c a).onChan c Channel.moveRuns).settleRuns_tells c
    rw [hmoved, hsame] at htells
    rw [hchan, hstepped]
    refine ((State.Tells.onChan _ c hmask).trans htells).of_eq ?_
    simp only [List.nil_append, ← hiff, hcounted, true_and]
  · rw [if_neg hcounted] at hchan
    have hstepped : s0.stepped c a = s0.adapted c a := if_neg hcounted
    rw [hchan, if_neg fun hd => hcounted (hiff.mpr hd).1, if_neg (not_not.mpr rfl), hstepped]
    exact .refl _ c

theorem State.output_tells (s : State) (c : Chan) (a : Arrival) : (s.stepped c a).Tells (s.output c a) c [] := by
  obtain ⟨-, -, -, -, -, -, hmask, -⟩ := (s.output_sounds c a).parts
  refine .silent ?_ hmask
  rw [State.output, State.stepsSevenToTen_eq]
  rfl

/-- The end of OPENING leaves the profile, the slot and the pad (R131). -/
theorem Channel.ended_kept (ch : Channel) (a : Arrival) :
    (ch.ended a).profile = ch.profile ∧ (ch.ended a).staged = ch.staged ∧ (ch.ended a).padIndex = ch.padIndex := by
  unfold Channel.ended Channel.countOpening
  split
  · exact ⟨rfl, rfl, rfl⟩
  · exact ⟨rfl, rfl, rfl⟩

/-- The end of an OPENING sample (R131). -/
theorem State.endSample_opening {s : State} {c : Chan} {a : Arrival} (h : a.start.life = .opening) :
    s.endSample c a = (s.onChan c fun ch => ch.countOpening a).endOpening c a.profile := if_pos h

/-- The end of a sample that is not OPENING and has no apply to make leaves all as it stands (R134). -/
theorem State.endSample_still {s : State} {c : Chan} {a : Arrival} (hopening : a.start.life ≠ .opening)
    (hnone : ∀ q : Profile, ¬s.Applies c q) : s.endSample c a = s := by
  unfold State.endSample
  dsimp only
  rw [if_neg hopening, State.onChan_countOpening hopening]
  unfold State.quietPoint
  split
  · next q hq => exact if_neg fun hand => hnone q ⟨hand.1, hand.2.1, hand.2.2, hq⟩
  · rfl

theorem Channel.countOpening_life (ch : Channel) (a : Arrival) :
    (ch.countOpening a).life = ch.life ∧ (ch.countOpening a).mask = ch.mask := by
  rw [Channel.countOpening_eq]
  exact ⟨rfl, rfl⟩

/-- MODE at the end of OPENING, and APPLIED (R131, R135). -/
theorem State.Sampled.finished_tells (h : s.Sampled t c p rin sin upset s0 a) (hopen : (s.chan c).life ≠ .closed)
    (hp : (s.chan c).profile = some p) :
    (s0.output c a).Tells (s0.finished c a) c
      ((if (t.chan c).life ≠ (s.chan c).life then [.mode] else []) ++
        if (t.chan c).staged ≠ (s.chan c).staged then [.applied] else []) := by
  obtain ⟨hlife, -, -, hstaged, -⟩ := h.output_standing
  obtain ⟨-, hactive⟩ := h.life hp
  have hself : (t.chan c).life = ((s0.finished c a).chan c).life ∧ (t.chan c).staged = ((s0.finished c a).chan c).staged := by
    rw [h.chan_finished]; exact ⟨rfl, rfl⟩
  obtain ⟨htlife, htstaged⟩ := hself
  by_cases hopening : (s.chan c).life = .opening
  · have hstart : a.start.life = .opening := by rw [h.start, hopening]
    obtain ⟨hcount, hmask⟩ := ((s0.output c a).chan c).countOpening_life a
    have hfinished : s0.finished c a = ((s0.output c a).onChan c fun ch => ch.countOpening a).endOpening c a.profile :=
      State.endSample_opening hstart
    have hkept : (t.chan c).staged = (s.chan c).staged := by
      rw [htstaged, (h.unapplied (.inl hopening)).self, (Channel.ended_kept _ a).2.1, hstaged]
    obtain ⟨hends, hstays⟩ := ((s0.output c a).onChan c fun ch => ch.countOpening a).endOpening_tells c a.profile
    rw [← hfinished, State.onChan_chan_self, hcount, hlife, ← htlife] at hends hstays
    rw [if_neg (not_not.mpr hkept), List.append_nil]
    exact (State.Tells.onChan _ c hmask).trans (State.Tells.ite hends fun hs => hstays (not_not.mp hs))
  · have hactive' : (s.chan c).life = .active := by
      cases hl : (s.chan c).life with
      | closed => exact absurd hl hopen
      | opening => exact absurd hl hopening
      | active => rfl
    obtain ⟨-, hlife'⟩ := hactive hactive'
    rw [if_neg (not_not.mpr (hlife'.trans hactive'.symm)), List.nil_append]
    by_cases hq : ∃ q : Profile, (s0.output c a).Applies c q
    · obtain ⟨q, hq⟩ := hq
      have hfinished := h.applied hp hq
      have hempty : (t.chan c).staged = .empty := by
        rw [htstaged, hfinished, State.raiseNotice_chan, State.applied, State.onChan_chan_self]
      obtain ⟨-, -, hpending⟩ := (h.applies_iff q).mp hq
      rw [if_pos (by rw [hempty, hpending]; nofun), hfinished]
      exact (s0.output c a).applied_tells c p q
    · have hnone : ∀ q : Profile, ¬(s0.output c a).Applies c q := fun q h' => hq ⟨q, h'⟩
      have hfinished : s0.finished c a = s0.output c a :=
        State.endSample_still (by rw [h.start]; exact hopening) hnone
      rw [if_neg (not_not.mpr (by rw [htstaged, hfinished, hstaged])), hfinished]
      exact .refl _ c

/-! ## The sample -/

/-- The notice events of a sample are those the claims list, in that order. -/
theorem State.Sampled.tells (h : s.Sampled t c p rin sin upset s0 a) (hs : s.PoolSound) (hopen : (s.chan c).life ≠ .closed)
    (hp : (s.chan c).profile = some p) :
    s0.Tells (s0.workSample c a) c (s.sampleNotices t c (s.sampleValues c p rin sin upset) upset) := by
  have hiff := h.scout_none_iff hp
  have hadapted : (s0.fed c a).Tells (s0.adapted c a) c
      (if (((s.disturb upset).tested c).chan c).scout ≠ none ∧ (t.chan c).scout = none then [.starved] else []) :=
    State.Tells.ite (fun hn => (h.adapted_tells hs).1 (hiff.mp hn)) fun hn => (h.adapted_tells hs).2 fun h' => hn (hiff.mpr h')
  have hmark : (s0.finished c a).Tells (s0.workSample c a) c [] := by
    rw [State.workSample_eq]
    exact .onChan _ c rfl
  have hall := ((((((h.heard_tells.trans (h.checked_tells hs)).trans (s0.fed_tells c a)).trans hadapted).trans
    h.stepped_tells).trans (s0.output_tells c a)).trans (h.finished_tells hopen hp)).trans hmark
  refine hall.of_eq ?_
  unfold State.sampleNotices
  simp only [List.append_nil, List.append_assoc]

end

end Sys2Proof.Machine
end

section
/-!
PROOFS. What a sample leaves of the retired blocks, of FAULT, STARVED and the count of scout swaps (R52, R54, R71), and of the
suppressor and the noise floor (R100, R101).
-/

namespace Sys2Proof.Machine

/-! ## Marks and counters through block faults and an apply -/

/-- A block fault writes of its channel the places and FAULT (R58, R71). -/
theorem State.blockFault_chan_self (s : State) (c : Chan) (b : BlockNo) :
    ∃ (ws : List Window) (k : Option Scout) (last : Pos), (s.blockFault c b).chan c =
      { (s.chan c).faulted with windows := ws, scout := k, lastScout := last } := by
  have hretired := s.retireBlock_chan_self c b
  cases hf : (s.chan c).windows.find? (fun w => w.block == some b) with
  | some w =>
    cases hkind : w.kind with
    | found =>
      rw [State.blockFault_of_found hf hkind, State.loseFound_eq, State.onChan_chan_self, hretired]
      exact ⟨_, _, _, rfl⟩
    | pinned =>
      rw [State.blockFault_of_pin hf hkind]
      cases hfree : (s.retireBlock c b).freeBlocks with
      | nil =>
        rw [State.losePin_wait c _ hfree, State.withWait_chan, State.onChan_chan_self, hretired]
        exact ⟨_, _, _, rfl⟩
      | cons f fs =>
        rw [State.losePin_free c _ hfree, State.onChan_chan_self, State.handover_chan, hretired]
        exact ⟨_, _, _, rfl⟩
  | none =>
    by_cases hk : ∃ k ∈ (s.chan c).scout, k.block = b
    · obtain ⟨k, hk, hkb⟩ := hk
      rw [State.blockFault_of_scout hf hk hkb]
      cases hfree : (s.retireBlock c b).freeBlocks with
      | nil =>
        rw [State.loseScout_wait c hfree, State.withWait_chan, State.onChan_chan_self, hretired]
        exact ⟨_, _, _, rfl⟩
      | cons f fs =>
        rw [State.loseScout_free c hfree, State.onChan_chan_self, State.handover_chan, hretired]
        exact ⟨_, _, _, rfl⟩
    · rw [State.blockFault_of_none hf fun k hk' hkb => hk ⟨k, hk', hkb⟩, hretired]
      exact ⟨_, _, _, rfl⟩

/-- The test of blocks leaves STARVED and the counters (R71). -/
theorem State.testBlocks_marks (s : State) (c : Chan) (ks : List (Pos × BlockNo)) :
    ((s.testBlocks c ks).chan c).conditions.starved = (s.chan c).conditions.starved ∧
      ((s.testBlocks c ks).chan c).counters = (s.chan c).counters := by
  induction ks generalizing s with
  | nil => exact ⟨rfl, rfl⟩
  | cons k ks ih =>
    rw [State.testBlocks]
    split
    · obtain ⟨ws, scout, last, hchan⟩ := s.blockFault_chan_self c k.2
      obtain ⟨hstarved, hcounters⟩ := ih (s.blockFault c k.2)
      rw [hstarved, hcounters, hchan]
      exact ⟨rfl, rfl⟩
    · exact ih s

/-- The quota reduction leaves every mark and counter (R61). -/
theorem State.reduceQuota_marks (s : State) (c : Chan) (quota fuel : Nat) (d : Chan) :
    ((s.reduceQuota c quota fuel).chan d).conditions = (s.chan d).conditions ∧
      ((s.reduceQuota c quota fuel).chan d).counters = (s.chan d).counters := by
  induction fuel generalizing s with
  | zero => exact ⟨rfl, rfl⟩
  | succ fuel ih =>
    unfold State.reduceQuota
    split
    · split
      · next w _ =>
        have hdrop : ∀ ws : List Window → List Window,
            ((s.onChan c fun ch => { ch with windows := ws ch.windows }).chan d).conditions = (s.chan d).conditions ∧
            ((s.onChan c fun ch => { ch with windows := ws ch.windows }).chan d).counters = (s.chan d).counters := fun ws => by
          by_cases hd : d = c
          · rw [hd, State.onChan_chan_self]; exact ⟨rfl, rfl⟩
          · rw [State.onChan_chan_of_ne _ _ hd]; exact ⟨rfl, rfl⟩
        obtain ⟨hconditions, hcounters⟩ := ih (s.returnWindow c w)
        rw [hconditions, hcounters]
        unfold State.returnWindow
        dsimp only
        split
        · next b _ =>
          rw [State.returnBlock_serves _ b d]
          exact hdrop fun ws => ws.filter fun v => v.pos != w.pos
        · exact hdrop _
      · exact ⟨rfl, rfl⟩
    · exact ⟨rfl, rfl⟩

theorem State.applied_conditions (s : State) (c : Chan) (old new : Profile) :
    ((s.applied c old new).chan c).conditions = (s.chan c).conditions ∧
      ((s.applied c old new).chan c).counters = (s.chan c).counters := by
  obtain ⟨hconditions, hcounters⟩ := State.reduceQuota_marks (s.onChan c fun ch => ch.takeProfile old new) c new.quota
    (s.chan c).windows.length c
  rw [State.onChan_chan_self] at hconditions hcounters
  rw [State.applied, State.onChan_chan_self]
  exact ⟨hconditions, hcounters⟩

/-! ## Retired blocks -/

/-- An evaluation moves no retired block (R50 to R54). -/
theorem State.PoolSound.evaluate_retired {s : State} (h : s.PoolSound) {c : Chan} {k : Scout} (hk : (s.chan c).scout = some k)
    (quota : Nat) (tookPart : List BlockNo) {b : BlockNo} (hb : (s.block b).condition = .retired) :
    (s.evaluate c quota tookPart k).block b = s.block b := by
  have hcarried : (s.carryOut c k (s.verdict c quota tookPart k)).block b = s.block b := by
    cases hv : s.verdict c quota tookPart k with
    | add =>
      cases hf : s.freeBlocks with
      | nil => rw [State.carryOut_add_wait c k hf, State.onChan_block]; rfl
      | cons f fs =>
        rw [State.carryOut_add_free c k hf, State.onChan_block, State.handover_block, if_neg]
        rintro rfl
        rw [(s.mem_freeBlocks b).mp (by rw [hf]; exact List.mem_cons_self)] at hb
        cases hb
    | swap w j =>
      obtain ⟨hw, -, hj⟩ := State.verdict_swap hv
      rw [State.carryOut, State.onChan_block, State.zeroBlock, State.writeTaps_block, if_neg]
      rintro rfl
      rw [h.held_iff.mpr (.inl ⟨w, hw, hj⟩)] at hb
      cases hb
    | discard =>
      rw [State.carryOut, State.onChan_block, State.zeroBlock, State.writeTaps_block, if_neg]
      rintro rfl
      rw [h.held_iff.mpr (.inr ⟨k, hk, rfl⟩)] at hb
      cases hb
  rw [State.evaluate_eq_outcome, State.outcome_eq]
  split
  · rw [State.raiseNotice_block, hcarried]
  · exact hcarried

section
variable {s t s0 : State} {c : Chan} {p : Profile} {rin sin : Byte} {upset : List Disturbance} {a : Arrival}

/-- The adaptation moves no retired block (R31, R50 to R54). -/
theorem State.Sampled.adapted_retired (h : s.Sampled t c p rin sin upset s0 a) (hs : s.PoolSound) (hp : (s.chan c).profile = some p)
    {b : BlockNo} (hb : ((s0.fed c a).block b).condition = .retired) : (s0.adapted c a).block b = (s0.fed c a).block b := by
  have hrenewed : (s0.renewed c a).block b = (s0.fed c a).block b := by
    rw [(h.renewed_block hs).2 b, h.fed_pool.block]
    intro hcover
    obtain ⟨k, hk, rfl⟩ := List.mem_map.mp hcover
    obtain ⟨hcovered, -⟩ := (mem_cover_iff k.2).mp hcover
    rw [h.fed_cover hs hk, ((hs.holders c).2 k.2).mpr hcovered] at hb
    cases hb
  by_cases hpermits : ((s0.fed c a).chan c).permits a = true
  · by_cases hends : ∃ k ∈ (s.chan c).scout, s.DwellEnds c (s.sampleValues c p rin sin upset).tookPart k
    · obtain ⟨k, hk, hends⟩ := hends
      obtain ⟨k', -, -, hchan, hadapted⟩ := h.adapted_due hs hpermits hk hends
      have hadvanced : (s0.advanced c a).block b = (s0.fed c a).block b := (h.advanced_block b).trans hrenewed
      rw [hadapted, (h.advanced_sound hs hp).evaluate_retired (by rw [hchan, Channel.withScout_scout]) _ _
        (by rw [hadvanced]; exact hb), hadvanced]
    · rw [(h.adapted_still_pool hs hpermits fun k hk hend => hends ⟨k, hk, hend⟩).1 b, hrenewed]
  · rw [show s0.adapted c a = s0.fed c a from if_neg hpermits]

/-- A retired block is held by no channel of a sound pool (R63). -/
theorem State.PoolSound.retired_not_covered {u : State} (h : u.PoolSound) {b : BlockNo} (hb : (u.block b).condition = .retired)
    (d : Chan) : b ∉ (u.chan d).covered.map Prod.snd := fun hcovered => by
  rw [((h.holders d).2 b).mpr hcovered] at hb
  cases hb

/-- A block retired by the sample's block faults stays as it is to the end (R71). -/
theorem State.Sampled.retired (h : s.Sampled t c p rin sin upset s0 a) (hs : s.PoolSound) (hp : (s.chan c).profile = some p)
    {b : BlockNo} (hb : (((s.disturb upset).tested c).block b).condition = .retired) :
    t.block b = ((s.disturb upset).tested c).block b := by
  have hfed := h.fed_pool.block b
  have hadapted : (s0.adapted c a).block b = ((s.disturb upset).tested c).block b := by
    rw [h.adapted_retired hs hp (by rw [hfed]; exact hb), hfed]
  have hstepped : (s0.stepped c a).block b = ((s.disturb upset).tested c).block b := by
    obtain ⟨hstill, hdiverged⟩ := h.stepped_places
    have hsound := h.pool hs (h.adapted_works hp).toWorks
    by_cases hdiv : (s.chan c).SampleDiverges (t.chan c) (s.sampleValues c p rin sin upset)
    · rw [(hdiverged hdiv).2 b, if_neg (hsound.retired_not_covered (by rw [hadapted]; exact hb) c), hadapted]
    · rw [(hstill hdiv).2 b, hadapted]
  by_cases hq : ∃ q : Profile, (s0.output c a).Applies c q
  · obtain ⟨q, hq⟩ := hq
    obtain ⟨-, -, hprofile, hstaged, -⟩ := h.output_standing
    obtain ⟨-, -, hpending⟩ := (h.applies_iff q).mp hq
    have houtput : (s0.output c a).block b = ((s.disturb upset).tested c).block b := by
      rw [(s0.output_steered c a).block, hstepped]
    have hsound := h.pool hs (h.output_works hp).toWorks
    obtain ⟨gone, -, hgone, -, -, -, hkept, -⟩ := hsound.pending_applyGives (hprofile.trans hp) (hstaged.trans hpending)
    rw [h.block, h.applied hp hq, State.raiseNotice_block, hkept b, houtput]
    intro hreturned
    obtain ⟨k, hk, rfl⟩ := List.mem_map.mp hreturned
    obtain ⟨hw, -, hblock⟩ := hgone k hk
    rw [← houtput, hsound.held_iff.mpr (.inl ⟨k.1, hw, hblock⟩)] at hb
    cases hb
  · rw [(h.end_pool (.inr fun q h' => hq ⟨q, h'⟩)).block, hstepped]

/-! ## FAULT, STARVED and the swaps at the end of a sample -/

/-- The end of a sample leaves FAULT, STARVED and the count of swaps (R131, R135). -/
theorem State.Sampled.end_marks (h : s.Sampled t c p rin sin upset s0 a) (hp : (s.chan c).profile = some p) :
    (t.chan c).conditions.fault = ((s0.output c a).chan c).conditions.fault ∧
      (t.chan c).conditions.starved = ((s0.output c a).chan c).conditions.starved ∧
      (t.chan c).counters.scoutSwaps = ((s0.output c a).chan c).counters.scoutSwaps := by
  rw [h.chan_finished]
  show ((s0.finished c a).chan c).conditions.fault = _ ∧ ((s0.finished c a).chan c).conditions.starved = _ ∧
    ((s0.finished c a).chan c).counters.scoutSwaps = _
  by_cases hq : ∃ q : Profile, (s0.output c a).Applies c q
  · obtain ⟨q, hq⟩ := hq
    obtain ⟨hconditions, hcounters⟩ := State.applied_conditions (s0.output c a) c p q
    rw [h.applied hp hq, State.raiseNotice_chan, hconditions, hcounters]
    exact ⟨rfl, rfl, rfl⟩
  · obtain ⟨-, -, hplacing, -⟩ := Channel.ended_fields ((s0.output c a).chan c) a
    obtain ⟨-, -, -, hfault, hstarved, hswaps⟩ := Placing.mk.inj hplacing
    rw [(h.unapplied (.inr fun q h' => hq ⟨q, h'⟩)).self]
    exact ⟨hfault, hstarved, hswaps⟩

/-- The adaptation leaves FAULT (R50 to R54). -/
theorem State.endDwell_fault (u : State) (c : Chan) (quota : Nat) :
    ((u.endDwell c quota).chan c).conditions.fault = (u.chan c).conditions.fault := by
  unfold State.endDwell
  split
  · next k _ =>
    split
    · next tookPart _ =>
      have hkept := u.carryOut_chan_self c k (u.verdict c quota tookPart k)
      rw [State.evaluate_eq_outcome, State.outcome_eq]
      split
      · rw [State.raiseNotice_chan, hkept]
      · rw [hkept]
    · rfl
  · rfl

theorem Channel.advanceDwell_fault (ch : Channel) (mode : Service) (tookPart : List BlockNo) :
    (ch.advanceDwell mode tookPart).conditions = ch.conditions := by
  unfold Channel.advanceDwell
  split
  · split <;> rfl
  · rfl

theorem State.adapted_fault (s0 : State) (c : Chan) (a : Arrival) :
    ((s0.adapted c a).chan c).conditions.fault = ((s0.fed c a).chan c).conditions.fault := by
  by_cases hpermits : ((s0.fed c a).chan c).permits a = true
  · rw [State.adapted_eq hpermits, State.endDwell_fault, State.advanced, State.onChan_chan_self, Channel.advanceDwell_fault,
      State.renewed_chan]
  · rw [show s0.adapted c a = s0.fed c a from if_neg hpermits]

/-- FAULT at the end of a sample is FAULT after the test of its blocks (R71). -/
theorem State.Sampled.fault (h : s.Sampled t c p rin sin upset s0 a) (hp : (s.chan c).profile = some p) :
    (t.chan c).conditions.fault = (((s.disturb upset).tested c).chan c).conditions.fault := by
  obtain ⟨hend, -⟩ := h.end_marks hp
  obtain ⟨-, -, -, hout, -⟩ := Placing.mk.inj (s0.output_rest c a).2.1
  have hstepped : ((s0.stepped c a).chan c).conditions.fault = ((s0.adapted c a).chan c).conditions.fault := by
    obtain ⟨hstill, hdiverged⟩ := h.stepped_places
    by_cases hdiv : (s.chan c).SampleDiverges (t.chan c) (s.sampleValues c p rin sin upset)
    · obtain ⟨-, -, -, hfault, -⟩ := Placing.mk.inj (hdiverged hdiv).1; exact hfault
    · obtain ⟨-, -, -, hfault, -⟩ := Placing.mk.inj (hstill hdiv).1; exact hfault
  obtain ⟨-, -, -, hfed, -⟩ := h.fed_pool.parts c
  exact hend.trans (hout.trans (hstepped.trans ((s0.adapted_fault c a).trans hfed)))

/-- On a sample that is not FAR, STARVED and the count of swaps stand (R84). -/
theorem State.Sampled.still_marks (h : s.Sampled t c p rin sin upset s0 a) (hp : (s.chan c).profile = some p)
    (hstill : (t.chan c).talk ≠ .far) :
    (t.chan c).conditions.starved = (s.chan c).conditions.starved ∧
      (t.chan c).counters.scoutSwaps = (s.chan c).counters.scoutSwaps := by
  obtain ⟨-, hstarved, hswaps⟩ := h.end_marks hp
  obtain ⟨-, -, -, -, hstarved', hswaps'⟩ := (h.still_pool (.inr hstill)).parts c
  obtain ⟨hstarved0, hcounters0⟩ := (s.disturb upset).testBlocks_marks c (s.chan c).covered
  rw [← State.tested_eq, State.disturb_chan] at hstarved0 hcounters0
  exact ⟨hstarved.trans (hstarved'.trans hstarved0), hswaps.trans (hswaps'.trans (congrArg ChanCounters.scoutSwaps hcounters0))⟩

end

/-! ## The suppressor and the noise floor -/

theorem Channel.updateNoiseFloor_engaged (ch : Channel) (p : Profile) :
    (ch.updateNoiseFloor p).engaged = ch.engaged ∧ (ch.updateNoiseFloor p).nlpHangover = ch.nlpHangover := by
  unfold Channel.updateNoiseFloor
  split <;> exact ⟨rfl, rfl⟩

/-- The suppressor can be in force on the sample (R100). -/
abbrev Arrival.InForce (a : Arrival) : Prop :=
  a.start.service = .track ∧ a.start.toneMode = .normal ∧ a.profile.nlpMode ≠ .pass

theorem Channel.meetsEngagement_iff (ch : Channel) (a : Arrival) :
    ch.meetsEngagement a = true ↔ a.InForce ∧ ch.talk = .far ∧ ch.sumE / 32 * marginDivisor a.profile.nlpMargin ≤ ch.sumX / 32 := by
  simp only [Channel.meetsEngagement, level, Bool.and_eq_true, beq_iff_eq, bne_iff_ne, Arrival.InForce, and_assoc]
  exact and_congr_right fun _ => and_congr_right fun _ => and_congr_right fun _ => and_congr_right fun _ => decide_eq_true_iff

/-- The engaged flag and the hangover that step 7 leaves (R100). -/
theorem Channel.gated_engaged {ch : Channel} (hin : ch.inSample = true) (a : Arrival) :
    ((¬a.InForce ∨ ch.talk = .near ∨ ch.talk = .double) →
      ((ch.gated a).engaged, (ch.gated a).nlpHangover) = (false, 0)) ∧
    (ch.meetsEngagement a = true → ((ch.gated a).engaged, (ch.gated a).nlpHangover) = (true, 64)) ∧
    (a.InForce → ¬(ch.talk = .near ∨ ch.talk = .double) → ¬ch.meetsEngagement a = true →
      (ch.engaged = true → 0 < ch.nlpHangover →
        ((ch.gated a).engaged, (ch.gated a).nlpHangover) = (true, ch.nlpHangover - 1)) ∧
      (ch.engaged = true → ch.nlpHangover = 0 → ((ch.gated a).engaged, (ch.gated a).nlpHangover) = (false, 0)) ∧
      (ch.engaged = false → ((ch.gated a).engaged, (ch.gated a).nlpHangover) = (false, ch.nlpHangover))) := by
  have hgated : ((ch.gated a).engaged, (ch.gated a).nlpHangover) = ((ch.moveEngaged a).engaged, (ch.moveEngaged a).nlpHangover) := by
    obtain ⟨hengaged, hhangover⟩ := (ch.moveEngaged a).updateNoiseFloor_engaged a.profile
    rw [Channel.gated, hengaged, hhangover]
  have hforce : (a.start.service ≠ .track ∨ a.start.toneMode ≠ .normal ∨ a.profile.nlpMode = .pass) ↔ ¬a.InForce := by
    simp only [Arrival.InForce, not_and_or, not_not]
  simp only [hgated]
  unfold Channel.moveEngaged
  by_cases hin' : a.InForce
  · have hnot : ¬(a.start.service ≠ .track ∨ a.start.toneMode ≠ .normal ∨ a.profile.nlpMode = .pass) := fun h => hforce.mp h hin'
    rw [if_neg hnot]
    by_cases hnear : ch.talk = .near ∨ ch.talk = .double
    · rw [if_pos hnear]
      refine ⟨fun _ => rfl, fun hmeets => ?_, fun _ h => absurd hnear h⟩
      obtain ⟨-, hfar, -⟩ := (ch.meetsEngagement_iff a).mp hmeets
      obtain hn | hd := hnear
      · rw [hn] at hfar; cases hfar
      · rw [hd] at hfar; cases hfar
    · rw [if_neg hnear]
      refine ⟨fun h => absurd (h.resolve_left (not_not.mpr hin')) hnear, fun hmeets => by rw [if_pos hmeets], fun _ _ hmeets => ?_⟩
      rw [if_neg hmeets]
      refine ⟨fun hengaged hpos => ?_, fun hengaged hzero => ?_, fun hoff => ?_⟩
      · rw [if_pos ⟨hengaged, hpos⟩, ← hengaged]
      · rw [if_neg fun h => absurd h.2 (by rw [hzero]; exact Nat.lt_irrefl 0), Channel.releaseSuppressor,
          if_pos (by rw [hin, hengaged, hzero]; rfl), hzero]
      · rw [if_neg fun h => absurd h.1 (by rw [hoff]; exact Bool.noConfusion), Channel.releaseSuppressor,
          if_neg (by rw [hoff]; simp), hoff]
  · rw [if_pos (hforce.mpr hin')]
    exact ⟨fun _ => rfl, fun hmeets => absurd ((ch.meetsEngagement_iff a).mp hmeets).1 hin', fun h => absurd h hin'⟩

/-- The noise floor that step 7 leaves (R101). -/
theorem Channel.gated_noiseFloor {ch : Channel} (hin : ch.inSample = true) (hrun : ch.talk = .idle → 0 < ch.quietRun) (a : Arrival) :
    (ch.gated a).noiseFloor =
      if ch.talk = .idle ∧ ch.quietRun % 128 = 0 then min (ch.sumS / 32) (floorOf a.profile.floor - 1) else ch.noiseFloor := by
  have hmoved : (ch.moveEngaged a).inSample = ch.inSample ∧ (ch.moveEngaged a).talk = ch.talk ∧
      (ch.moveEngaged a).quietRun = ch.quietRun ∧ (ch.moveEngaged a).sumS = ch.sumS ∧
      (ch.moveEngaged a).noiseFloor = ch.noiseFloor := by
    unfold Channel.moveEngaged Channel.releaseSuppressor
    split
    · exact ⟨rfl, rfl, rfl, rfl, rfl⟩
    · split
      · exact ⟨rfl, rfl, rfl, rfl, rfl⟩
      · split
        · exact ⟨rfl, rfl, rfl, rfl, rfl⟩
        · split
          · exact ⟨rfl, rfl, rfl, rfl, rfl⟩
          · split <;> exact ⟨rfl, rfl, rfl, rfl, rfl⟩
  obtain ⟨hmark, htalk, hquiet, hsum, hfloor⟩ := hmoved
  unfold Channel.gated Channel.updateNoiseFloor
  by_cases hidle : ch.talk = .idle ∧ ch.quietRun % 128 = 0
  · obtain ⟨hidle, hmod⟩ := hidle
    have hpos := hrun hidle
    rw [if_pos (by rw [hmark, htalk, hquiet, hin, hidle, hmod]; simpa using hpos), if_pos ⟨hidle, hmod⟩]
    show min (level (ch.moveEngaged a).sumS) _ = _
    rw [hsum, level]
  · rw [if_neg hidle, if_neg, hfloor]
    rw [hmark, htalk, hquiet, hin]
    simp only [Bool.and_eq_true, beq_iff_eq, decide_eq_true_eq]
    exact fun h => hidle ⟨h.1.1.2, h.2⟩

end Sys2Proof.Machine
end

section
/-!
PROOFS. The codes and the signal values of an open channel's sample, and what the sample keeps (R13 to R16, R26 to R29, R99 to R103,
R115).
-/

namespace Sys2Proof.Machine

/-! ## What a notice event keeps of the link -/

/-- A notice event leaves the framer, the enable and the rate (R170). -/
theorem Link.Noticed.kept {l m : Link} (h : l.Noticed m) :
    m.framer = l.framer ∧ m.enable = l.enable ∧ m.rate = l.rate := by
  have harbitrated : ∀ (k : Link) (fill : Notice → Record),
      (k.arbitrated fill).framer = k.framer ∧ (k.arbitrated fill).enable = k.enable ∧ (k.arbitrated fill).rate = k.rate := by
    intro k fill
    unfold Link.arbitrated
    split
    · split
      · exact ⟨rfl, rfl, rfl⟩
      · split <;> exact ⟨rfl, rfl, rfl⟩
    · exact ⟨rfl, rfl, rfl⟩
  induction h with
  | refl => exact ⟨rfl, rfl, rfl⟩
  | @raised m passes u k fill _ ih =>
    unfold Link.raised
    split
    · obtain ⟨hframer, henable, hrate⟩ := harbitrated { m with notices := queueNotice u k m.notices } fill
      rw [hframer, henable, hrate]
      exact ih
    · exact ih
  | filled r htx _ ih => exact ih

/-! ## What a sample keeps of the tables, the port and the signature -/

/-- A state with the tables, the port, the signature and the queue of another. -/
abbrev State.SameRest (s t : State) : Prop :=
  t.law = s.law ∧ t.port = s.port ∧ t.sig = s.sig ∧ t.pending = s.pending

theorem State.SameRest.trans {s t u : State} (h : s.SameRest t) (h' : t.SameRest u) : s.SameRest u := by
  obtain ⟨hlaw, hport, hsig, hpending⟩ := h
  obtain ⟨hlaw', hport', hsig', hpending'⟩ := h'
  exact ⟨hlaw'.trans hlaw, hport'.trans hport, hsig'.trans hsig, hpending'.trans hpending⟩

theorem State.Steered.rest {s t : State} {c : Chan} {f : Channel → Channel} (h : s.Steered t c f) : s.SameRest t :=
  ⟨h.law, h.port, h.sig, h.pending⟩

theorem State.PlacesMoved.rest {s t : State} (h : s.PlacesMoved t) : s.SameRest t := ⟨h.law, h.port, h.sig, h.pending⟩

theorem State.raiseNotice_rest (s : State) (u : Source) (k : NoticeKind) : s.SameRest (s.raiseNotice u k) :=
  ⟨s.raiseNotice_law u k, s.raiseNotice_port u k, s.raiseNotice_sig u k, s.raiseNotice_pending u k⟩

theorem State.applied_rest (s : State) (c : Chan) (old new : Profile) : s.SameRest (s.applied c old new) :=
  ((State.Steered.onChan s c fun ch => ch.takeProfile old new).rest.trans
    (State.PlacesTidied.reduceQuota _ c new.quota _).toPlacesMoved.rest).trans (State.Steered.onChan _ c _).rest

theorem State.endSample_rest (s : State) (c : Chan) (a : Arrival) : s.SameRest (s.endSample c a) := by
  have hcounted := (State.Steered.onChan s c fun ch => ch.countOpening a).rest
  unfold State.endSample
  dsimp only
  split
  · exact hcounted.trans (State.endOpening_steered _ c a.profile).rest
  · unfold State.quietPoint
    split
    · split
      · rw [State.applyTakesEffect_applied]
        exact hcounted.trans ((State.applied_rest _ c _ _).trans (State.raiseNotice_rest _ _ _))
      · exact hcounted
    · exact hcounted

theorem State.workSample_rest (s : State) (c : Chan) (a : Arrival) : s.SameRest (s.workSample c a) := by
  have houtput := s.output_touches c a
  rw [State.workSample_eq]
  exact (State.SameRest.trans ⟨houtput.law, houtput.port, houtput.sig, houtput.pending⟩ ((s.output c a).endSample_rest c a)).trans
    (State.Steered.onChan _ c _).rest

/-- A sample writes of the port its arrival, and no table and no signature field (R152). -/
theorem State.arrival_rest {s t : State} {c : Chan} {f : Frame} {n m : Slot} {p : Profile} {rin sin : Byte}
    {upset : List Disturbance} (hawaits : s.AwaitsArrival c f n m) (hopen : (s.chan c).life ≠ .closed)
    (hp : (s.chan c).profile = some p) (h : exec (.sampleArrival c rin sin upset) s = .next t) :
    t.law = s.law ∧ t.sig = s.sig ∧ t.pending = s.pending ∧ t.port = s.port.noteArrival f c (n, m) := by
  rw [exec_sampleArrival_open rin sin upset hawaits hopen hp] at h
  cases h
  obtain ⟨hlaw, hport, hsig, hpending⟩ :=
    (s.arrived c f n m upset).workSample_rest c ((s.arrived c f n m upset).receive c p rin sin)
  rw [State.settleNotice_eq]
  refine ⟨hlaw.trans ?_, hsig.trans ?_, hpending.trans ?_, hport.trans ?_⟩
  · rw [State.arrived, State.onPort_law, State.disturb_law]
  · rw [State.arrived, State.onPort_sig, State.disturb_sig]
  · rw [State.arrived, State.onPort_pending, State.disturb_pending]
  · rw [State.arrived, State.onPort_port, State.disturb_port]

/-! ## The output value -/

section
variable {s t s0 : State} {c : Chan} {p : Profile} {rin sin : Byte} {upset : List Disturbance} {a : Arrival}

/-- The output value of a sample, told from the context at its end (R99, R101, R103). -/
theorem State.Sampled.value (h : s.Sampled t c p rin sin upset s0 a) :
    s0.sentValue c a =
      if (t.chan c).engaged then
        match p.nlpMode with
        | .pass => (s.sampleValues c p rin sin upset).e
        | .soft => (s.sampleValues c p rin sin upset).e.tdiv 4
        | .noise => comfortNoise (s.chan c).noiseReg (t.chan c).noiseFloor
        | .silent => 0
      else (s.sampleValues c p rin sin upset).e := by
  obtain ⟨hengaged, -, hfloor, -⟩ := h.sent
  obtain ⟨-, -, -, hreg, -⟩ := Sounding.mk.inj ((s0.stepped_rest c a).1.trans (congrArg Channel.sounding (h.chans c)))
  have hgated : (((s0.stepped c a).chan c).gated a).noiseReg = (s.chan c).noiseReg := by
    rw [Channel.gated_eq]; exact hreg
  rw [State.sentValue, Channel.outputValue, Channel.suppressed, h.profile, h.echo, hgated, ← hengaged, ← hfloor]
    <;> rfl

/-- What the suppressor and the noise floor of a sample follow from (R100, R101). -/
theorem State.Sampled.sounds (h : s.Sampled t c p rin sin upset s0 a) :
    ((s0.stepped c a).chan c).talk = (t.chan c).talk ∧ ((s0.stepped c a).chan c).quietRun = (t.chan c).quietRun ∧
      ((s0.stepped c a).chan c).sumX = (t.chan c).sumX ∧ ((s0.stepped c a).chan c).sumS = (t.chan c).sumS ∧
      ((s0.stepped c a).chan c).sumE = (t.chan c).sumE ∧ ((s0.stepped c a).chan c).engaged = (s.chan c).engaged ∧
      ((s0.stepped c a).chan c).nlpHangover = (s.chan c).nlpHangover ∧
      ((s0.stepped c a).chan c).noiseFloor = (s.chan c).noiseFloor := by
  have hstepped := s0.stepped_stepped c a
  obtain ⟨-, hsumX, hsumS, -, -, -, -, htalk, hquiet, -⟩ := Hearing.mk.inj (hstepped.hearing.trans h.stepped.hearing.symm)
  obtain ⟨hengaged, hhangover, hfloor, -⟩ := Sounding.mk.inj ((s0.stepped_rest c a).1.trans (congrArg Channel.sounding (h.chans c)))
  exact ⟨htalk, hquiet, hsumX, hsumS, hstepped.sumE.trans h.stepped.sumE.symm, hengaged, hhangover, hfloor⟩

/-- An IDLE sample has advanced the quiet run (R81). -/
theorem State.Sampled.quietRun_pos (h : s.Sampled t c p rin sin upset s0 a) (hidle : (t.chan c).talk = .idle) :
    0 < (t.chan c).quietRun := by
  obtain ⟨-, -, -, -, -, -, -, htalk, hquiet, -⟩ := Hearing.mk.inj h.hearing
  have hrun := (s.chan c).begun.sensed_quietRun a
  rw [← htalk, if_pos hidle] at hrun
  rw [hquiet, hrun]
  exact lt_min (by decide) (Nat.succ_pos _)

/-- Where no apply is made the profile, the staged slot and the pad stand (R133 to R135). -/
theorem State.Sampled.unapplied_kept (h : s.Sampled t c p rin sin upset s0 a)
    (hnone : (s.chan c).life = .opening ∨ ∀ q : Profile, ¬(s0.output c a).Applies c q) :
    (t.chan c).profile = (s.chan c).profile ∧ (t.chan c).staged = (s.chan c).staged ∧
      (t.chan c).padIndex = (s.chan c).padIndex := by
  obtain ⟨hprofile, hstaged, hpad⟩ := Channel.ended_kept ((s0.output c a).chan c) a
  obtain ⟨-, -, hprofile', hstaged', hpad'⟩ := h.output_standing
  rw [h.chan_finished, (h.unapplied hnone).self]
  exact ⟨hprofile.trans hprofile', hstaged.trans hstaged', hpad.trans hpad'⟩

/-- No other channel's context is written but for the places a returned block fills (R57, R68). -/
theorem State.Sampled.others_served (h : s.Sampled t c p rin sin upset s0 a) {d : Chan} (hd : d ≠ c) :
    (s.chan d).Served (t.chan d) := by
  have hserved := (s0.output c a).endSample_served c a hd
  rw [h.output_others hd] at hserved
  rw [h.chan_finished_of_ne hd]
  exact hserved

/-- The pool at the end of a sample that moves no tap and has no apply to make (R26, R84, R134). -/
theorem State.Sampled.untouched_pool (h : s.Sampled t c p rin sin upset s0 a)
    (hstill : (s.chan c).life = .opening ∨ (t.chan c).talk ≠ .far) (hnone : (s.chan c).staged.pendingRecord = none) :
    ((s.disturb upset).tested c).SamePool t := by
  have hunapplied : ∀ q : Profile, ¬(s0.output c a).Applies c q := fun q hq => by
    obtain ⟨-, -, hpending⟩ := (h.applies_iff q).mp hq
    rw [hpending] at hnone
    cases hnone
  have houtput : (s0.stepped c a).SamePool (s0.output c a) :=
    .steered (s0.output_steered c a) ((s0.output_steered c a).self.symm ▸ (s0.output_rest c a).2.1)
  exact (h.still_pool hstill).trans (houtput.symm.trans (h.end_pool (.inr hunapplied)))

end

end Sys2Proof.Machine

namespace Sys2Proof

open Sys2Proof.Machine

/-! ## The statement -/

/-- Settles O46: each field by the step of the sample that writes it, the pool by the block faults, the link by the notice events of
the steps in order. -/
theorem openChannelComputesCodes : Obligations.OpenChannelComputesCodes := by
  intro c rin sin upset s f n m p hawaits hopen hp values before
  obtain ⟨t, hexec⟩ : ∃ t : State, exec (.sampleArrival c rin sin upset) s = .next t :=
    ⟨_, exec_sampleArrival_open rin sin upset hawaits hopen hp⟩
  obtain ⟨s0, a, h⟩ := State.sampled hawaits hopen hp hexec
  refine ⟨t, hexec, ?_⟩
  extract_lets v applied divisor talk nearEnd inForce meets moved failing handled
  have harrival : execSampleArrival c rin sin upset s = .next t := hexec
  have hnoticed := sampleArrival_noticed harrival
  obtain ⟨hengaged, hhangover, hfloor, hreg, hsumV, hrout, hsout, hfreshr, hfreshs⟩ := h.sent
  obtain ⟨htalk, hquiet, hsumX, hsumS, hsumE, hengaged0, hhangover0, hfloor0⟩ := h.sounds
  obtain ⟨-, -, -, hin⟩ := s0.stepped_rest c a
  have hmoved : moved = ((((s0.stepped c a).chan c).gated a).engaged, (((s0.stepped c a).chan c).gated a).nlpHangover) := by
    rw [← hengaged, ← hhangover]
  have hforce : a.InForce ↔ inForce := by rw [Arrival.InForce, h.start, h.profile]
  have hmeets : ((s0.stepped c a).chan c).meetsEngagement a = true ↔ meets := by
    rw [Channel.meetsEngagement_iff, hforce, htalk, hsumE, hsumX, h.profile]
    rfl
  have hnear : (((s0.stepped c a).chan c).talk = .near ∨ ((s0.stepped c a).chan c).talk = .double) ↔ nearEnd := by rw [htalk]
  obtain ⟨hoff, hon, hheld⟩ := Channel.gated_engaged hin a
  rw [← hmoved, hforce, hnear] at hoff
  rw [← hmoved, hmeets] at hon
  rw [← hmoved, hforce, hnear, hmeets, hengaged0, hhangover0] at hheld
  have hv : v = s0.sentValue c a := h.value.symm
  obtain ⟨hframer, henable, hrate⟩ := hnoticed.kept
  obtain ⟨hlaw, hsig, hpending, hport⟩ := State.arrival_rest hawaits hopen hp hexec
  obtain ⟨-, -, hmark⟩ := s0.workSample_stepped c a
  obtain ⟨hring, hsumX', hsumS', -⟩ := Hearing.mk.inj h.hearing
  obtain ⟨hringed, hsumXed, hsumSed, -⟩ := before.begun.sensed_heard a
  refine ⟨hoff, hon, hheld, ?_, fun hs => ⟨fun b hb => ?_, ?_, fun hstill hnone => ?_⟩, fun hs => ?_,
    ⟨hframer, henable, hrate, fun hq => hnoticed.replies hq⟩, ⟨?_, ?_, ?_, fun hnone => ?_, h.still_marks hp⟩, ?_, ?_, ?_, ?_, ?_,
    hreg, ?_, ?_, hfreshr, hfreshs, fun d hd => h.others_served hd, hlaw, hsig, hpending, hport⟩
  · rw [hfloor, Channel.gated_noiseFloor hin (by rw [htalk, hquiet]; exact h.quietRun_pos), htalk, hquiet, hsumS, hfloor0, h.profile,
      floorOf_pred]
      <;> rfl
  · obtain ⟨hcovered, hfail⟩ := hb
    have htested := (hs.tested_block c upset b).1 hcovered hfail
    have hretired : (((s.disturb upset).tested c).block b).condition = .retired := by rw [htested]
    have hblock := h.retired hs hp hretired
    refine ⟨hblock.trans htested, ?_⟩
    exact ((sampleArrival_keeps harrival).pool hs).retired_not_covered (by rw [hblock]; exact hretired) c
  · rw [h.fault hp]
    exact (hs.tested_scout c upset).1
  · have hpool := h.untouched_pool hstill hnone
    refine ⟨hpool.blocks, hpool.wait, fun d => ?_⟩
    obtain ⟨hwindows, hscout, hlast, -⟩ := hpool.parts d
    exact ⟨hwindows, hscout, hlast⟩
  · have hlink := (h.tells hs hopen hp).settled
    rw [← h.result, h.link] at hlink
    exact hlink
  · rw [h.stepped.frozen, h.chans]
  · rw [h.stepped.mask, h.chans]
  · rw [h.chan, hmark]
  · refine h.unapplied_kept (hnone.imp_right fun hnone q hq => ?_)
    obtain ⟨-, hlong, hpending⟩ := (h.applies_iff q).mp hq
    obtain hnone | hshort := hnone
    · rw [hpending] at hnone; cases hnone
    · exact absurd hlong (Nat.not_le.mpr hshort)
  · rw [hring, hringed, h.x]; rfl
  · rw [hsumX', hsumXed, h.x]; rfl
  · rw [hsumS', hsumSed, h.send]; rfl
  · rw [h.stepped.sumE, h.echo, h.chans]; rfl
  · rw [hsumV, hv]; rfl
  · rw [hrout, h.values.1]
  · rw [hsout, hv, State.sentCode, State.soutCode, h.profile, (h.stepped_works hp).law, Arrival.appliedIndex, h.start]
    show compress (s0.law.table p.lineLaw) _ = _
    rw [h.law]

end Sys2Proof
end
